-- ==== Sys2Proof/Word.lean ====
section
/-! DEFINITION. Word.lean: the register word, the byte and the plainest arithmetic on them (R13, R14, R15). -/

namespace Sys2Proof

/-- A register word: 32 bits (R14). -/
abbrev Word := BitVec 32

/-- One byte. -/
abbrev Byte := BitVec 8

end Sys2Proof
end

