-- ==== Sys2Proof/Payload.lean ====
section
/-! DEFINITION. Payload.lean: what a command carries from outside: frames, samples, measured quantities and the
outcomes of the self-timed engines (spec chapters 01 to 18). -/

namespace Sys2Proof

/-- A thing with ports or a park bit: one of the 22 units, a route engine (R65) or a ring (R431). -/
inductive Uid where
  | unit (u : Nat)
  | eng (n : Nat)
  | ring (r : Nat)
  deriving DecidableEq, Repr

/-- A source port (R51). -/
inductive SrcPort where
  | unit (u : Nat)
  | eng (n : Nat)
  | classA | classH
  | ringA | ringB
  deriving DecidableEq, Repr

/-- One operation a source port issues (R51, R53): its target, the aligned location, whether it is a 64-bit access (R57), a
value when it writes, whether it belongs to a run-ahead, and the tags of the reads from whose values it is derived (R58). -/
structure FabOp where
  src : SrcPort
  tgt : Uid
  loc : Nat
  wide : Bool
  wr : Option (BitVec 64)
  ahead : Bool
  derived : List Nat
  deriving DecidableEq, Repr

/-- The completion status of a reply (R55). -/
inductive RepStatus where
  | ok | closed | refused | withdrawn
  deriving DecidableEq, Repr

/-- An event for the recorder (R394, R396, R397). -/
structure Event where
  source : Nat
  severity : Nat
  event : Nat
  arg : Nat
  data : Nat
  deriving DecidableEq, Repr

/-- One SPI frame as clocked by the host (R407 to R414): the H_MOSI bytes, H_PRIV and H_RDY at the falling edge of
H_CS_N, the data words of a READ whose first edge was clocked, whether the frame was clocked to its end, and the
longest stall measured in 100 ns. -/
structure SpiIn where
  mosi : List Byte
  priv : Bool
  rdy : Bool
  begun : Nat
  whole : Bool
  stall : Nat
  deriving DecidableEq, Repr

/-- A health fatal fault's cause (R430). -/
inductive HealthCause where
  | uncorr | fabric | map
  deriving DecidableEq, Repr

/-- What the environment supplies to a boot: the milliseconds it took (R355), whether the SFDP table was good and
what it gave (R353), the seal bank read twice (R274) and the front end's answers to the start script (R110). -/
structure BootIn where
  sfdpOk : Bool
  density : Nat
  jedec : Nat
  sealA : Word
  sealB : Word
  fe : List Word
  deriving DecidableEq, Repr

/-- What a serial port received (R80, R81, R86): the characters of a sentence or frame, how long ago in ns the start-bit
edge of the first one stood, characters discarded for framing errors, characters lost to a full receive buffer, and
whether RX is held at 0 at its end. -/
structure SerialIn where
  chars : List Byte
  agoNs : Nat
  framing : Nat
  lost : Nat
  brk : Bool
  deriving DecidableEq, Repr

/-- A resource that a self-check finds wrong (R442). -/
inductive Resource where
  | cell (c : Nat)
  | channel (c : Nat)
  | engine (p : Nat)
  deriving DecidableEq, Repr

/-- What a tracked signal's raw measurement gives at a PVT epoch (R116, R127): its channel, C/N0 in 0.01 dB-Hz, elevation
in 0.01°, its normalised residual in 1/256 after 0, 1, 2, … exclusions, the departure of its satellite's L1 − L5 code
difference from the smoothed value and the main − aux code difference in cm where they exist, and the departure of its
range rate from the predicted one in mm/s. -/
structure GnsSig where
  ch : Nat
  cn0 : Nat
  elev : Nat
  resid : List Nat
  band : Option Int
  ant : Option Int
  dop : Int
  deriving DecidableEq, Repr

/-- The least-squares solution of an epoch (R116): position, HDOP in 0.01, standard deviations in µm, velocity north, east
and down in µm/s, receiver clock bias in ns and drift in ps/s, and whether SBAS corrections were applied. -/
structure PvtSol where
  lat : Word
  lon : Word
  hgt : Int
  hdop : Nat
  sn : Nat
  se : Nat
  vn : Int
  ve : Int
  vd : Int
  bias : Int
  drift : Int
  sbas : Bool
  deriving DecidableEq, Repr

/-- A GNSS epoch's inputs (R116): the signals' measurements, the solution of the signals that remain, the solved clock
bias minus the predicted one and the local clock minus GNSS time in ns, the ratio tests in 0.1 where a resolution was
made, satellites common to both antennas, cycle slips among them, the solved earth-frame baseline in mm, the heading's
standard deviation in 0.001°, GNSS UTC parameters where delivered: TAI − UTC and the leap indication (R329), and the
navigation data decoded since the last epoch (R137): ephemerides and almanacs as (system, number, words), ionosphere
coefficients. -/
structure PvtIn where
  sigs : List GnsSig
  sol : Option PvtSol
  clkDep : Int
  offset : Int
  rtkRatio : Option Nat
  hdgRatio : Option Nat
  common : Nat
  slips : Nat
  baseN : Int
  baseE : Int
  baseD : Int
  hdgSigma : Nat
  utc : Option (Nat × Nat)
  ephs : List (Nat × (Nat × List Nat))
  alms : List (Nat × (Nat × List Nat))
  iono : List Nat
  deriving DecidableEq, Repr

/-- The discriminators of a tracked signal over a leg (R118): its channel, the pseudorange innovation in mm and the
range-rate innovation in mm/s, C/N0 in 0.01 dB-Hz, and the line of sight to its satellite, north, east and down, in 2^-30. -/
structure VecSig where
  ch : Nat
  rho : Int
  rate : Int
  cn0 : Nat
  ln : Int
  le : Int
  ld : Int
  deriving DecidableEq, Repr

/-- A satellite in view (R111, R112): system, number, elevation in 0.01°, whether it broadcasts in both bands, whether
its navigation data calls it healthy. -/
structure SatView where
  sys : Nat
  svid : Nat
  elev : Nat
  dual : Bool
  healthy : Bool
  deriving DecidableEq, Repr

/-- A spectral line (R130): stream, offset from the IF centre in kHz, level above the median noise floor in dB. -/
structure SpecLine where
  stream : Nat
  freq : Int
  level : Nat
  deriving DecidableEq, Repr

/-- One sample of a safety channel's readbacks, SOk_RBH and SOk_RBL as the processor and as the logic see them
(R279). -/
structure Readback where
  ch : Nat
  hP : Bool
  lP : Bool
  hL : Bool
  lL : Bool
  deriving DecidableEq, Repr

/-- Kerb fatal causes that a technology detects in the other or in itself (R265); PACE_LOST and EXCHANGE have commands of
their own. -/
inductive KerbCause where
  | lockstep | oscP | oscL | mem
  deriving DecidableEq, Repr

/-- A frame that arrives at a ring port (R305): the port, its payload bytes and whether its FCS is good. -/
structure RxFrame where
  port : Nat
  bytes : List Byte
  fcsOk : Bool
  deriving DecidableEq, Repr

/-- The kinds of IEEE 1588 message the timebase uses (R325, R326). -/
inductive PtpRx where
  | sync | announce | pdelayReq | pdelayResp | delayReq | delayResp
  deriving DecidableEq, Repr

/-- An IEEE 1588 message as it arrives (R325, R326): port 0 to 3 of the rings or 4 for the Causeway, sequenceId, the
sender's clockIdentity and domain, the origin time-stamp in ns (of a two-step Sync, the Follow_Up's), correctionField in
ns, the responder's turn-around for a peer-delay answer, the data set of an Announce in BMCA order, its UTC offset where
valid, and its leap indication. -/
structure PtpMsg where
  kind : PtpRx
  port : Nat
  seq : Nat
  clockId : Nat
  domain : Nat
  origin : Nat
  corr : Int
  turn : Int
  dataset : List Nat
  utc : Option Nat
  leap : Nat
  deriving DecidableEq, Repr

/-- The messages the timebase sends (R325). -/
inductive PtpKind where
  | sync | announce | pdelayReq | delayReq
  deriving DecidableEq, Repr

/-- What the acquisition engine found (R114): code phase in samples, Doppler in Hz, C/N0 in 0.01 dB-Hz. -/
structure Acq where
  code : Nat
  doppler : Int
  cn0 : Nat
  deriving DecidableEq, Repr

end Sys2Proof
end

