-- ==== Sys2Proof/Syntax.lean ====
section
/-! DEFINITION. Syntax.lean: the commands of the block, one constructor per row of spec/opcode_table.json. Every
constructor's first operand `dt` is the time, in ns of the timebase, that passes before the command takes effect
(log entry 1). -/

namespace Sys2Proof

/-- The commands. -/
inductive Instr where
  /-- RING_CYCLE_BOUNDARY (R301). -/
  | ringCycleBoundary (dt : Nat)
  /-- PACE_BOUNDARY (R34). -/
  | paceBoundary (dt : Nat)
  /-- COMMIT_MARK (R36). -/
  | commitMark (dt : Nat)
  /-- ALLOCATION_SOLVE_DONE (R214). -/
  | allocationSolveDone (dt : Nat)
  /-- ALLOCATION_MARK (R219). -/
  | allocationMark (dt : Nat)
  /-- ALC_LEVEL_HOLD_EXPIRY (R220). -/
  | alcLevelHoldExpiry (dt : Nat)
  /-- KERB_CHECKS_END (R264). -/
  | kerbChecksEnd (dt : Nat)
  /-- COMMAND_MARK (R259). -/
  | commandMark (dt : Nat)
  /-- END_MARK (R34). -/
  | endMark (dt : Nat) (workNs : Nat)
  /-- LEG_BOUNDARY (R38). -/
  | legBoundary (dt : Nat) (gclk : Option Int) (agree : List Nat) (vec : List VecSig)
  /-- GATE_MARK (R38). -/
  | gateMark (dt : Nat)
  /-- OBSERVER_MARK (R157). -/
  | observerMark (dt : Nat) (late : Bool)
  /-- ENVELOPE_MARK (R223). -/
  | envelopeMark (dt : Nat) (late : Bool)
  /-- DEMAND_MARK (R182). -/
  | demandMark (dt : Nat) (late : Bool)
  /-- HZN_ITERATION_DONE (R233). -/
  | hznIterationDone (dt : Nat)
  /-- CLASS_H_DEADLINE (R235). -/
  | classHDeadline (dt : Nat) (mid : Bool)
  /-- STAGE_BOUNDARY (R41). -/
  | stageBoundary (dt : Nat) (sats : List SatView)
  /-- SNAP_EPOCH_READ (R45). -/
  | snapEpochRead (dt : Nat)
  /-- SNAP_RELEASE (R46). -/
  | snapRelease (dt : Nat) (w : Word)
  /-- SNAP_EXPIRED (R46). -/
  | snapExpired (dt : Nat)
  /-- OPERATION_ISSUE (R53). -/
  | operationIssue (dt : Nat) (op : FabOp)
  /-- REPLY_RECEIVED (R64). -/
  | replyReceived (dt : Nat) (tag : Nat) (sInc tInc : Nat) (status : RepStatus)
  /-- UNIT_REOPEN (R63). -/
  | unitReopen (dt : Nat) (u : Uid)
  /-- IEC_SENTENCE_RECEIVED (R81). -/
  | iecSentenceReceived (dt : Nat) (p : Nat) (rx : SerialIn)
  /-- BINARY_FRAME_RECEIVED (R86). -/
  | binaryFrameReceived (dt : Nat) (p : Nat) (rx : SerialIn)
  /-- SNS_PORT_TXDATA (R84). -/
  | snsPortTxdata (dt : Nat) (p : Nat) (w : Word)
  /-- SNS_PORT_STATUS_READ (R84). -/
  | snsPortStatusRead (dt : Nat) (p : Nat)
  /-- SAMPLE_PORT_FRAME_START (R87). -/
  | samplePortFrameStart (dt : Nat)
  /-- SAMPLE_SLOT_COMPLETE (R88). -/
  | sampleSlotComplete (dt : Nat) (lane slot : Nat) (bits : Word)
  /-- TRIGGER_EDGE (R90). -/
  | triggerEdge (dt : Nat) (t : Nat)
  /-- STREAM_SAMPLE (R93). -/
  | streamSample (dt : Nat) (stream : Nat) (v : List Int) (stampNs : Nat)
  /-- STREAM_STALE (R94). -/
  | streamStale (dt : Nat) (stream : Nat)
  /-- FIR_COEF_WRITE (R103). -/
  | firCoefWrite (dt : Nat) (k : Nat) (w : Word)
  /-- FIR_GD_INACT_WRITE (R103). -/
  | firGdInactWrite (dt : Nat) (c : Nat) (w : Word)
  /-- FADE_REQUEST (R104). -/
  | fadeRequest (dt : Nat) (c : Nat) (w : Word)
  /-- GCLK_LOST (R108). -/
  | gclkLost (dt : Nat)
  /-- FE_TRANSACTION (R109). -/
  | feTransaction (dt : Nat) (w : Word) (priv : Bool)
  /-- FE_TRANSACTION_DONE (R109). -/
  | feTransactionDone (dt : Nat) (inBits : Word)
  /-- PVT_EPOCH (R116). -/
  | pvtEpoch (dt : Nat) (e : PvtIn)
  /-- HOLDOVER_LIMIT (R134). -/
  | holdoverLimit (dt : Nat)
  /-- GNS_RTCM_DATA (R124). -/
  | gnsRtcmData (dt : Nat) (w : Word)
  /-- RTCM_FRAME_RECEIVED (R125). -/
  | rtcmFrameReceived (dt : Nat) (bytes : List Byte)
  /-- NOTCH_SPECTRUM_UPDATE (R130). -/
  | notchSpectrumUpdate (dt : Nat) (lines : List SpecLine)
  /-- PPS_EDGE (R131). -/
  | ppsEdge (dt : Nat)
  /-- SELECT (R166). -/
  | select (dt : Nat) (track : Nat)
  /-- REJECT (R166). -/
  | reject (dt : Nat) (track : Nat)
  /-- RELEASE (R166). -/
  | release (dt : Nat) (track : Nat)
  /-- D4_ENTER (R166). -/
  | d4Enter (dt : Nat)
  /-- D4_EXIT (R166). -/
  | d4Exit (dt : Nat)
  /-- SP_GO (R172). -/
  | spGo (dt : Nat) (w : Word)
  /-- JOY_STALE (R181). -/
  | joyStale (dt : Nat)
  /-- SLOT_CLR (R191). -/
  | slotClr (dt : Nat) (k : Nat)
  /-- SLOT_I_LOAD (R191). -/
  | slotILoad (dt : Nat) (k : Nat)
  /-- TEST_GO (R193). -/
  | testGo (dt : Nat) (w : Word) (priv : Bool)
  /-- TEST_STOP (R195). -/
  | testStop (dt : Nat) (priv : Bool)
  /-- CAPTURE_ARM (R197). -/
  | captureArm (dt : Nat) (b : Nat) (w : Word)
  /-- CAPTURE_ABORT (R197). -/
  | captureAbort (dt : Nat) (b : Nat)
  /-- CAPTURE_RDDATA_READ (R197). -/
  | captureRddataRead (dt : Nat) (b : Nat)
  /-- HZN_RESTORE (R241). -/
  | hznRestore (dt : Nat)
  /-- HZN_RESET_EST (R241). -/
  | hznResetEst (dt : Nat)
  /-- FB_COUNT_EDGE (R244). -/
  | fbCountEdge (dt : Nat) (ch : Nat) (check a b c : Bool) (na nb nc : Nat)
  /-- PDIV_PULSE_END (R253). -/
  | pdivPulseEnd (dt : Nat) (d : Nat)
  /-- COMPARE_WRITE (R251). -/
  | compareWrite (dt : Nat) (ch : Nat) (w : Word)
  /-- COMPARE_CTL_WRITE (R251). -/
  | compareCtlWrite (dt : Nat) (ch : Nat) (w : Word)
  /-- LANE_ENABLE (R261). -/
  | laneEnable (dt : Nat) (n : Nat) (en : Bool)
  /-- LANE_CLEAR (R261). -/
  | laneClear (dt : Nat) (n : Nat)
  /-- AZ_SET (R257). -/
  | azSet (dt : Nat) (n : Nat) (w : Word)
  /-- CONNECTION_TIMEOUT (R288). -/
  | connectionTimeout (dt : Nat) (c : Nat)
  /-- ERROR_LEVEL_DECAY (R289). -/
  | errorLevelDecay (dt : Nat) (c : Nat)
  /-- KRB_CONN_CLR (R289). -/
  | krbConnClr (dt : Nat) (w : Word)
  /-- KRB_ACK_LANE (R268). -/
  | krbAckLane (dt : Nat) (n : Nat) (priv : Bool)
  /-- KRB_ACK_GROUP (R268). -/
  | krbAckGroup (dt : Nat) (mask : Nat) (priv : Bool)
  /-- KRB_ACK_CH_CLEAR (R282). -/
  | krbAckChClear (dt : Nat) (mask : Nat) (priv : Bool)
  /-- SEAL_READING (R274). -/
  | sealReading (dt : Nat) (a b : Word)
  /-- READBACK_SAMPLE (R279). -/
  | readbackSample (dt : Nat) (levels : List Readback)
  /-- TEST_PULSE_START (R280). -/
  | testPulseStart (dt : Nat) (tech ch : Nat)
  /-- TEST_PULSE_END (R280). -/
  | testPulseEnd (dt : Nat) (tech ch : Nat)
  /-- KERB_FATAL (R265). -/
  | kerbFatal (dt : Nat) (cause : KerbCause)
  /-- PACE_LOST (R265). -/
  | paceLost (dt : Nat)
  /-- EXCHANGE_TIMEOUT (R265). -/
  | exchangeTimeout (dt : Nat) (tech : Nat)
  /-- LINK_UP (R296). -/
  | linkUp (dt : Nat) (port : Nat) (ability : Nat)
  /-- LINK_DOWN (R321). -/
  | linkDown (dt : Nat) (port : Nat)
  /-- RING_LISTEN (R319). -/
  | ringListen (dt : Nat) (ring : Nat)
  /-- SYNC_RECEIVED (R302). -/
  | syncReceived (dt : Nat) (f : RxFrame)
  /-- SYNC_LOST (R302). -/
  | syncLost (dt : Nat)
  /-- COMMAND_FRAME_RECEIVED (R307). -/
  | commandFrameReceived (dt : Nat) (f : RxFrame)
  /-- COLLECT_FRAME_RECEIVED (R308). -/
  | collectFrameReceived (dt : Nat) (f : RxFrame)
  /-- IMAGE_FRAME_RECEIVED (R314). -/
  | imageFrameReceived (dt : Nat) (f : RxFrame)
  /-- MGMT_FRAME_RECEIVED (R310). -/
  | mgmtFrameReceived (dt : Nat) (f : RxFrame)
  /-- FOREIGN_FRAME_RECEIVED (R297). -/
  | foreignFrameReceived (dt : Nat) (f : RxFrame)
  /-- PTP_MESSAGE_RECEIVED (R326). -/
  | ptpMessageReceived (dt : Nat) (m : PtpMsg)
  /-- PTP_SOURCE_LOST (R324). -/
  | ptpSourceLost (dt : Nat) (src : Nat)
  /-- MGMT_SEND (R310). -/
  | mgmtSend (dt : Nat) (w : Word) (priv : Bool)
  /-- MGMT_TRANSMIT (R311). -/
  | mgmtTransmit (dt : Nat)
  /-- MGMT_RX_POP (R310). -/
  | mgmtRxPop (dt : Nat)
  /-- RING_RELEASE (R318). -/
  | ringRelease (dt : Nat) (ring : Nat) (priv : Bool)
  /-- RING_LEAVE (R320). -/
  | ringLeave (dt : Nat) (ring : Nat) (priv : Bool)
  /-- ACCEPT (R327). -/
  | accept (dt : Nat) (priv : Bool)
  /-- TIME_STEP (R328). -/
  | timeStep (dt : Nat)
  /-- TIM_NOW_NS_READ (R323). -/
  | timNowNsRead (dt : Nat)
  /-- HEARTBEAT_SEND (R333). -/
  | heartbeatSend (dt : Nat)
  /-- HEARTBEAT_RECEIVED (R333). -/
  | heartbeatReceived (dt : Nat) (f : List Byte) (fcsOk : Bool)
  /-- HB_IN_EDGE (R334). -/
  | hbInEdge (dt : Nat) (high : Bool)
  /-- PATH_SILENCE (R335). -/
  | pathSilence (dt : Nat) (causeway : Bool)
  /-- PATH_RESTORED (R335). -/
  | pathRestored (dt : Nat) (causeway : Bool)
  /-- MILESTONE_FRAME_RECEIVED (R339). -/
  | milestoneFrameReceived (dt : Nat) (f : List Byte) (fcsOk : Bool)
  /-- MILESTONE_APPLY_MARK (R339). -/
  | milestoneApplyMark (dt : Nat)
  /-- RESYNC_FRAME_RECEIVED (R347). -/
  | resyncFrameReceived (dt : Nat) (f : List Byte) (fcsOk : Bool)
  /-- EXCHANGE (R349). -/
  | exchange (dt : Nat) (priv : Bool)
  /-- ASSUME (R351). -/
  | assume (dt : Nat) (priv : Bool)
  /-- RING_TAKEOVER (R352). -/
  | ringTakeover (dt : Nat)
  /-- ROLE_WAIT_EXPIRY (R331). -/
  | roleWaitExpiry (dt : Nat)
  /-- VCORE_POWER_ON (R432). -/
  | vcorePowerOn (dt : Nat) (dip : Bool)
  /-- RST_N_ASSERT (R318). -/
  | rstNAssert (dt : Nat)
  /-- RST_N_RELEASE (R458). -/
  | rstNRelease (dt : Nat) (roleSel : Bool)
  /-- BOOT_COMPLETE (R355). -/
  | bootComplete (dt : Nat) (b : BootIn)
  /-- NVW_WRITE (R372). -/
  | nvwWrite (dt : Nat) (off : Nat) (w : Word) (priv : Bool)
  /-- PROGRAM (R372). -/
  | program (dt : Nat) (priv : Bool)
  /-- ERASE (R372). -/
  | erase (dt : Nat) (priv : Bool)
  /-- VERIFY (R372). -/
  | verify (dt : Nat) (slot : Nat) (priv : Bool)
  /-- NVW_COMMAND_DONE (R372). -/
  | nvwCommandDone (dt : Nat)
  /-- TG_DATA (R375). -/
  | tgData (dt : Nat) (w : Word) (priv : Bool)
  /-- CLEAR (R375). -/
  | clear (dt : Nat) (priv : Bool)
  /-- CHECK (R376). -/
  | check (dt : Nat) (priv : Bool)
  /-- TG_CHECK_DONE (R376). -/
  | tgCheckDone (dt : Nat)
  /-- COMMIT (R377). -/
  | commit (dt : Nat) (kind : Nat) (priv : Bool)
  /-- ABORT (R379). -/
  | abort (dt : Nat) (priv : Bool)
  /-- TAMPER_EVENT (R382). -/
  | tamperEvent (dt : Nat) (lowNs : Nat)
  /-- SUPPLY_GLITCH (R382). -/
  | supplyGlitch (dt : Nat)
  /-- TEMPERATURE_GLITCH (R382). -/
  | temperatureGlitch (dt : Nat)
  /-- KERB_OSC_ANOMALY (R382). -/
  | kerbOscAnomaly (dt : Nat)
  /-- ERASE_SESSION (R384). -/
  | eraseSession (dt : Nat) (priv : Bool)
  /-- ERASE_ALL (R384). -/
  | eraseAll (dt : Nat) (priv : Bool)
  /-- SEC_ERASE (R384). -/
  | secErase (dt : Nat)
  /-- LOAD_KEK (R389). -/
  | loadKek (dt : Nat) (priv : Bool)
  /-- LOAD_SKEY (R389). -/
  | loadSkey (dt : Nat) (slot : Nat) (priv : Bool)
  /-- EXPORT (R390). -/
  | exportKey (dt : Nat) (slot : Nat) (rngOk : Bool) (priv : Bool)
  /-- SEC_EXPORT_DATA_READ (R390). -/
  | secExportDataRead (dt : Nat) (priv : Bool)
  /-- GEN_DIK (R391). -/
  | genDik (dt : Nat) (rngOk : Bool) (priv : Bool)
  /-- ATTEST (R391). -/
  | attest (dt : Nat) (rngOk : Bool) (priv : Bool)
  /-- ATTEST_DONE (R391). -/
  | attestDone (dt : Nat)
  /-- SEC_ALARM_CLR (R383). -/
  | secAlarmClr (dt : Nat) (w : Word) (priv : Bool)
  /-- CHALLENGE (R387). -/
  | challenge (dt : Nat)
  /-- UNLOCK (R387). -/
  | unlock (dt : Nat) (r sig : Nat)
  /-- LOG_APPEND (R399). -/
  | logAppend (dt : Nat) (e : Event)
  /-- MARK (R397). -/
  | mark (dt : Nat) (priv : Bool)
  /-- LOG_VERIFY_START (R403). -/
  | logVerifyStart (dt : Nat) (priv : Bool)
  /-- LOG_VERIFY_DONE (R403). -/
  | logVerifyDone (dt : Nat)
  /-- LOG_CLEAR_START (R404). -/
  | logClearStart (dt : Nat) (priv : Bool)
  /-- LOG_CLEARED (R404). -/
  | logCleared (dt : Nat)
  /-- LOG_RD_INDEX_WRITE (R405). -/
  | logRdIndexWrite (dt : Nat) (w : Word)
  /-- LOG_RD_DATA_READ (R405). -/
  | logRdDataRead (dt : Nat)
  /-- WRITE_FRAME (R408). -/
  | writeFrame (dt : Nat) (f : SpiIn)
  /-- READ_FRAME (R409). -/
  | readFrame (dt : Nat) (f : SpiIn)
  /-- ROS_LOW_READ (R20). -/
  | rosLowRead (dt : Nat) (addr : Nat) (priv : Bool)
  /-- REGISTER_WRITE (R417). -/
  | registerWrite (dt : Nat) (addr : Nat) (w : Word) (priv : Bool)
  /-- FAB_CNT_CLR (R24). -/
  | fabCntClr (dt : Nat) (w : Word)
  /-- ENG_CNT_CLR (R24). -/
  | engCntClr (dt : Nat) (w : Word)
  /-- SNS_CNT_CLR (R24). -/
  | snsCntClr (dt : Nat) (w : Word)
  /-- GNS_CNT_CLR (R24). -/
  | gnsCntClr (dt : Nat) (w : Word)
  /-- FUS_CNT_CLR (R24). -/
  | fusCntClr (dt : Nat) (w : Word)
  /-- ALC_CNT_CLR (R24). -/
  | alcCntClr (dt : Nat) (w : Word)
  /-- SLV_CNT_CLR (R24). -/
  | slvCntClr (dt : Nat) (w : Word)
  /-- HZN_CNT_CLR (R24). -/
  | hznCntClr (dt : Nat) (w : Word)
  /-- FBK_CNT_CLR (R24). -/
  | fbkCntClr (dt : Nat) (w : Word)
  /-- LANE_CNT_CLR (R24). -/
  | laneCntClr (dt : Nat) (n : Nat) (w : Word)
  /-- KRB_CNT_CLR (R24). -/
  | krbCntClr (dt : Nat) (w : Word)
  /-- RING_CNT_CLR (R24). -/
  | ringCntClr (dt : Nat) (w : Word)
  /-- TIM_CNT_CLR (R24). -/
  | timCntClr (dt : Nat) (w : Word)
  /-- RED_CNT_CLR (R24). -/
  | redCntClr (dt : Nat) (w : Word)
  /-- TG_CNT_CLR (R24). -/
  | tgCntClr (dt : Nat) (w : Word)
  /-- SEC_CNT_CLR (R24). -/
  | secCntClr (dt : Nat) (w : Word) (priv : Bool)
  /-- LOG_CNT_CLR (R24). -/
  | logCntClr (dt : Nat) (w : Word)
  /-- HIF_CNT_CLR (R24). -/
  | hifCntClr (dt : Nat) (w : Word)
  /-- PWR_CNT_CLR (R24). -/
  | pwrCntClr (dt : Nat) (w : Word)
  /-- HLT_CNT_CLR (R24). -/
  | hltCntClr (dt : Nat) (w : Word)
  /-- PWR_CMD_RUN (R427). -/
  | pwrCmdRun (dt : Nat) (priv : Bool)
  /-- RUN_ENTRY (R427). -/
  | runEntry (dt : Nat)
  /-- PWR_CMD_READY (R427). -/
  | pwrCmdReady (dt : Nat) (priv : Bool)
  /-- PWR_CMD_HARBOUR (R427). -/
  | pwrCmdHarbour (dt : Nat) (priv : Bool)
  /-- PWR_CMD_QUIET (R427). -/
  | pwrCmdQuiet (dt : Nat) (priv : Bool)
  /-- UNIT_PARK (R431). -/
  | unitPark (dt : Nat) (u : Uid) (priv : Bool)
  /-- UNIT_UNPARK (R431). -/
  | unitUnpark (dt : Nat) (u : Uid) (priv : Bool)
  /-- UNIT_RESET (R433). -/
  | unitReset (dt : Nat) (unit engine : Nat) (priv : Bool)
  /-- HEALTH_FATAL (R430). -/
  | healthFatal (dt : Nat) (cause : HealthCause)
  /-- OPERATING_SECOND (R395). -/
  | operatingSecond (dt : Nat)
  /-- WEAR_MONITOR_UPDATE (R438). -/
  | wearMonitorUpdate (dt : Nat) (mon : Nat) (avg : Nat)
  /-- ECC_CORRECTED (R439). -/
  | eccCorrected (dt : Nat) (bank row : Nat)
  /-- LOG_SECTOR_COPY_DONE (R439). -/
  | logSectorCopyDone (dt : Nat)
  /-- SWAP (R440). -/
  | swap (dt : Nat) (engine : Nat) (priv : Bool)
  /-- SWAP_ABORT (R441). -/
  | swapAbort (dt : Nat) (priv : Bool)
  /-- SWAP_COPY_DONE (R440). -/
  | swapCopyDone (dt : Nat)
  /-- PTP_MESSAGE_TRANSMIT (R325). -/
  | ptpMessageTransmit (dt : Nat) (kind : PtpKind) (port : Nat)
  /-- ACQUISITION_DONE (R114). -/
  | acquisitionDone (dt : Nat) (ch : Nat) (acq : Acq)
  /-- SIGNAL_LOST (R115). -/
  | signalLost (dt : Nat) (ch : Nat)
  /-- VKEEP_LOSS (R137). -/
  | vkeepLoss (dt : Nat)
  /-- SELF_CHECK_WRONG_RESULT (R442). -/
  | selfCheckWrongResult (dt : Nat) (r : Resource)
  /-- SLEW_COMPLETE (R327). -/
  | slewComplete (dt : Nat)
  deriving DecidableEq, Repr

end Sys2Proof
end

