-- ==== Sys2Proof/Machine/Crypto.lean ====
section
/-! DEFINITION. Machine/Crypto.lean: the checks and ciphers the spec names: CRC-16 (R85, R394, R410), CRC-32C (R286),
CRC-24Q (R125), SHA-256 and HMAC-SHA-256 (R360, R402), AES-256-GCM (R389, R390), ECDSA P-256 (R360, R387, R391).
Byte strings are lists of numbers below 256, first byte first; numbers are read from them big-endian (R14). -/

namespace Sys2Proof.Machine

/-- A byte string, first byte first. -/
abbrev Bytes := List Nat

/-- The big-endian number of a byte string (R14). -/
def beNat (bs : Bytes) : Nat := bs.foldl (fun a b => a * 256 + b) 0

/-- `n` big-endian bytes of a number (R14). -/
def toBE : Nat → Nat → Bytes
  | 0, _ => []
  | n + 1, v => (v / 256 ^ n) % 256 :: toBE n v

/-- `n` bytes at offset `off`, read big-endian; bytes beyond the end count as absent. -/
def beAt (bs : Bytes) (off n : Nat) : Nat := beNat ((bs.drop off).take n)

/-- One bit step of a left-shifting CRC register of `w` bits. -/
def crcBit (w poly r : Nat) : Nat :=
  if r.testBit (w - 1) then ((r * 2) % 2 ^ w) ^^^ poly else (r * 2) % 2 ^ w

/-- `n` bit steps of a left-shifting CRC. -/
def crcBits (w poly : Nat) : Nat → Nat → Nat
  | 0, r => r
  | n + 1, r => crcBits w poly n (crcBit w poly r)

/-- A left-shifting CRC of `w` bits over a byte string from register `init`. -/
def crcLeft (w poly init : Nat) (bs : Bytes) : Nat :=
  bs.foldl (fun r b => crcBits w poly 8 (r ^^^ (b * 2 ^ (w - 8)))) init

/-- CRC-16: polynomial 0x1021, initial 0xFFFF, no reflection, no final XOR (R85, R410). -/
def crc16 (bs : Bytes) : Nat := crcLeft 16 0x1021 0xFFFF bs

/-- CRC-24Q of RTCM frames: polynomial 0x864CFB, initial 0 (R125). -/
def crc24q (bs : Bytes) : Nat := crcLeft 24 0x864CFB 0 bs

/-- `n` bit steps of the reflected CRC-32C. -/
def crc32cBits : Nat → Nat → Nat
  | 0, r => r
  | n + 1, r => crc32cBits n (if r.testBit 0 then (r / 2) ^^^ 0x82F63B78 else r / 2)

/-- CRC-32C (polynomial 0x1EDC6F41 reflected) from a register value, complemented at the end (R286). -/
def crc32cFrom (reg : Nat) (bs : Bytes) : Nat :=
  (bs.foldl (fun r b => crc32cBits 8 (r ^^^ b)) reg) ^^^ 0xFFFFFFFF

/-- CRC-32C with initial register 0xFFFF_FFFF (R360). -/
def crc32c (bs : Bytes) : Nat := crc32cFrom 0xFFFFFFFF bs

/-! ### SHA-256 (FIPS 180-4)

The working words are two histories: a round makes one new word of each, the words b, c, d and f, g, h being the ones before. The
message schedule is a window of the last sixteen words. -/

/-- The integer root of degree `e`, its bits from 2^(n-1) down added to `r` while the power stays at or below `x`. -/
def rootBits (e x : Nat) : Nat → Nat → Nat
  | 0, r => r
  | n + 1, r => rootBits e x n (if (r + 2 ^ n) ^ e ≤ x then r + 2 ^ n else r)

/-- The first 32 bits of the fractional part of a number's root of degree `e`, for a root below 32. -/
def fracRoot (e p : Nat) : Nat := rootBits e (p * 2 ^ (32 * e)) 37 0 % 2 ^ 32

/-- The first 64 primes: those below 312. -/
def shaPrimes : List Nat := (List.range 312).filter (fun p => 2 ≤ p && (List.range p).all (fun d => d ≤ 1 || p % d != 0))

/-- The round constants, from the primes' cube roots, and the initial hash value, from the square roots of the first eight. -/
def shaConsts : List Nat := shaPrimes.map (fracRoot 3)
def shaSeed : List Nat := (shaPrimes.take 8).map (fracRoot 2)

/-- A 32-bit number rotated right by each of the given amounts, all added without carry. -/
def rotations (x : Nat) (l : List Nat) : Nat := l.foldl (fun y n => y ^^^ (x * (2 ^ 32 + 1) / 2 ^ n % 2 ^ 32)) 0

/-- The word that follows a window of sixteen. -/
def shaNext (w : List Nat) : Nat :=
  let x := w.getD 1 0
  let y := w.getD 14 0
  (w.getD 0 0 + w.getD 9 0 + (rotations x [7, 18] ^^^ (x / 2 ^ 3)) + (rotations y [17, 19] ^^^ (y / 2 ^ 10))) % 2 ^ 32

/-- The rounds, one per constant left, on the histories `p` (a, b, c, d) and `q` (e, f, g, h), newest word first. -/
def shaRounds : List Nat → List Nat → List Nat → List Nat → List Nat
  | [], _, p, q => p.take 4 ++ q.take 4
  | c :: cs, w, p, q =>
    let at_ (l : List Nat) (i : Nat) : Nat := l.getD i 0
    let choice := at_ q 2 ^^^ (at_ q 0 &&& (at_ q 1 ^^^ at_ q 2))
    let major := (at_ p 0 &&& (at_ p 1 ||| at_ p 2)) ||| (at_ p 1 &&& at_ p 2)
    let x := at_ q 3 + rotations (at_ q 0) [6, 11, 25] + choice + c + at_ w 0
    shaRounds cs (w.drop 1 ++ [shaNext w]) ((x + rotations (at_ p 0) [2, 13, 22] + major) % 2 ^ 32 :: p)
      ((at_ p 3 + x) % 2 ^ 32 :: q)

/-- The 32-bit words of a byte string, `n` of them. -/
def words32 : Nat → Bytes → List Nat
  | 0, _ => []
  | n + 1, bs => beNat (bs.take 4) :: words32 n (bs.drop 4)

/-- The hash value after a block. -/
def shaBlock (h : List Nat) (blk : Bytes) : List Nat :=
  let r := shaRounds shaConsts (words32 16 blk) (h.take 4) (h.drop 4)
  (List.range 8).map (fun i => (h.getD i 0 + r.getD i 0) % 2 ^ 32)

/-- The hash value after the first `n` blocks of a message. -/
def shaAfter (m : Bytes) : Nat → List Nat
  | 0 => shaSeed
  | n + 1 => shaBlock (shaAfter m n) ((m.drop (64 * n)).take 64)

/-- A message with the bit 1, zeros and its length in bits, in whole blocks. -/
def shaPad (bs : Bytes) : Bytes := bs ++ 0x80 :: List.replicate ((119 - bs.length % 64) % 64) 0 ++ toBE 8 (bs.length * 8)

/-- SHA-256 of a byte string: 32 bytes. -/
def sha256 (bs : Bytes) : Bytes := (shaAfter (shaPad bs) ((shaPad bs).length / 64)).flatMap (toBE 4)

/-- HMAC-SHA-256 with a key of at most 64 bytes. -/
def hmac (key msg : Bytes) : Bytes :=
  let k := key ++ List.replicate (64 - key.length) 0
  sha256 (k.map (· ^^^ 0x5C) ++ sha256 (k.map (· ^^^ 0x36) ++ msg))

/-! ### AES-256-GCM -/

/-- Doubling in GF(2^8). -/
def gfDbl (a : Nat) : Nat := if a ≥ 128 then (a * 2 % 256) ^^^ 0x1B else a * 2

/-- `n` steps of multiplication in GF(2^8). -/
def gfMulN : Nat → Nat → Nat → Nat
  | 0, _, _ => 0
  | n + 1, a, b => (if b % 2 = 1 then a else 0) ^^^ gfMulN n (gfDbl a) (b / 2)

/-- Multiplication in GF(2^8). -/
def gfMul (a b : Nat) : Nat := gfMulN 8 a b

/-- The inverse in GF(2^8), the 254th power. -/
def gfInv (a : Nat) : Nat :=
  let a2 := gfMul a a
  let a3 := gfMul a2 a
  let a6 := gfMul a3 a3
  let a12 := gfMul a6 a6
  let a15 := gfMul a12 a3
  let a30 := gfMul a15 a15
  let a60 := gfMul a30 a30
  let a120 := gfMul a60 a60
  let a126 := gfMul a120 a6
  let a127 := gfMul a126 a
  gfMul a127 a127

/-- Rotation left of a byte. -/
def rotl8 (x n : Nat) : Nat := (x * 2 ^ n) % 256 ||| x / 2 ^ (8 - n)

/-- The AES S-box. -/
def sbox (a : Nat) : Nat :=
  let i := gfInv a
  i ^^^ rotl8 i 1 ^^^ rotl8 i 2 ^^^ rotl8 i 3 ^^^ rotl8 i 4 ^^^ 0x63

/-- The AES-256 key schedule as words of four bytes, newest first, extended by `n` words from word `i`. -/
def aesSched : Nat → Nat → Nat → List Bytes → List Bytes
  | 0, _, _, w => w
  | n + 1, i, rcon, w =>
    let t := w.getD 0 []
    let t := if i % 8 = 0 then
        (match t with
         | [a, b, c, d] => [sbox b ^^^ rcon, sbox c, sbox d, sbox a]
         | x => x)
      else if i % 8 = 4 then t.map sbox else t
    aesSched n (i + 1) (if i % 8 = 0 then gfDbl rcon else rcon)
      (List.zipWith (· ^^^ ·) (w.getD 7 []) t :: w)

/-- The words of a key of 32 bytes. -/
def quads : Nat → Bytes → List Bytes
  | 0, _ => []
  | n + 1, bs => bs.take 4 :: quads n (bs.drop 4)

/-- ShiftRows on a column-major state of 16 bytes. -/
def shiftRows (s : Bytes) : Bytes :=
  (List.range 16).map (fun i => s.getD ((i + 4 * (i % 4)) % 16) 0)

/-- MixColumns on one column. -/
def mixCol (c : Bytes) : Bytes :=
  match c with
  | [a, b, e, d] =>
    [gfMul a 2 ^^^ gfMul b 3 ^^^ e ^^^ d, a ^^^ gfMul b 2 ^^^ gfMul e 3 ^^^ d,
     a ^^^ b ^^^ gfMul e 2 ^^^ gfMul d 3, gfMul a 3 ^^^ b ^^^ e ^^^ gfMul d 2]
  | x => x

/-- The AES rounds after the first key addition; the last round has no MixColumns. -/
def aesRounds : List Bytes → Bytes → Bytes
  | [], s => s
  | [k], s => List.zipWith (· ^^^ ·) (shiftRows (s.map sbox)) k
  | k :: ks, s =>
    aesRounds ks (List.zipWith (· ^^^ ·) ((quads 4 (shiftRows (s.map sbox))).flatMap mixCol) k)

/-- AES-256 of one block. -/
def aes256 (key blk : Bytes) : Bytes :=
  let w := (aesSched 52 8 1 (quads 8 key).reverse).reverse
  let rk := (List.range 15).map (fun i => ((w.drop (4 * i)).take 4).flatten)
  aesRounds (rk.drop 1) (List.zipWith (· ^^^ ·) blk (rk.getD 0 []))

/-- `n` steps of multiplication in GF(2^128) in GCM's bit order (bit 127 of the number is the first bit). -/
def ghMul : Nat → Nat → Nat → Nat → Nat
  | 0, _, _, z => z
  | n + 1, x, v, z =>
    ghMul n (x * 2 % 2 ^ 128) (if v % 2 = 1 then (v / 2) ^^^ (0xE1 * 2 ^ 120) else v / 2)
      (if x.testBit 127 then z ^^^ v else z)

/-- GHASH over `n` blocks. -/
def ghash (h : Nat) : Nat → Nat → Bytes → Nat
  | 0, y, _ => y
  | n + 1, y, bs =>
    let b := bs.take 16
    let x := beNat (b ++ List.replicate (16 - b.length) 0)
    ghash h n (ghMul 128 (y ^^^ x) h 0) (bs.drop 16)

/-- A byte string filled with zeros to a multiple of 16. -/
def pad16 (bs : Bytes) : Bytes := bs ++ List.replicate ((16 - bs.length % 16) % 16) 0

/-- Counter-mode keystream of `n` blocks from counter `c`. -/
def gcmStream (key iv : Bytes) : Nat → Nat → Bytes
  | 0, _ => []
  | n + 1, c => aes256 key (iv ++ toBE 4 c) ++ gcmStream key iv n (c + 1)

/-- The tag of AES-256-GCM with a 12-byte IV. -/
def gcmTag (key iv aad ct : Bytes) : Bytes :=
  let h := beNat (aes256 key (List.replicate 16 0))
  let m := pad16 aad ++ pad16 ct ++ toBE 8 (aad.length * 8) ++ toBE 8 (ct.length * 8)
  List.zipWith (· ^^^ ·) (toBE 16 (ghash h (m.length / 16) 0 m)) (aes256 key (iv ++ [0, 0, 0, 1]))

/-- Encryption or decryption of AES-256-GCM's text. -/
def gcmCrypt (key iv txt : Bytes) : Bytes :=
  List.zipWith (· ^^^ ·) txt (gcmStream key iv ((txt.length + 15) / 16) 2)

/-! ### ECDSA P-256 -/

def p256p : Nat := 2 ^ 256 - 2 ^ 224 + 2 ^ 192 + 2 ^ 96 - 1
def p256n : Nat := 0xffffffff00000000ffffffffffffffffbce6faada7179e84f3b9cac2fc632551
def p256b : Nat := 0x5ac635d8aa3a93e7b3ebbd55769886bc651d06b0cc53b0f63bce3c3e27d2604b
def p256gx : Nat := 0x6b17d1f2e12c4247f8bce6e563a440f277037d812deb33a0f4a13945d898c296
def p256gy : Nat := 0x4fe342e2fe1a7f9b8ee7eb4a7c0f9e162bce33576b315ececbb6406837bf51f5

/-- `b ^ e mod m` over `n` bits of `e`. -/
def powMod (m : Nat) : Nat → Nat → Nat → Nat
  | 0, _, _ => 1
  | n + 1, b, e => (if e % 2 = 1 then b * powMod m n (b * b % m) (e / 2) else powMod m n (b * b % m) (e / 2)) % m

/-- The inverse modulo a 256-bit prime. -/
def invMod (m a : Nat) : Nat := powMod m 256 (a % m) (m - 2)

/-- Doubling in Jacobian coordinates; z = 0 is the point at infinity. -/
def ecDbl (q : Nat × Nat × Nat) : Nat × Nat × Nat :=
  let (x, y, z) := q
  let p := p256p
  let zz := z * z % p
  let m := 3 * ((x + p - zz) % p) * ((x + zz) % p) % p
  let yy := y * y % p
  let s := 4 * x * yy % p
  let x' := (m * m + 2 * (p - s)) % p
  (x', (m * ((s + p - x') % p) + (p - 8 * yy * yy % p)) % p, 2 * y * z % p)

/-- Addition in Jacobian coordinates. -/
def ecAdd (q r : Nat × Nat × Nat) : Nat × Nat × Nat :=
  let (x1, y1, z1) := q
  let (x2, y2, z2) := r
  let p := p256p
  if z1 = 0 then r else if z2 = 0 then q else
    let z1z := z1 * z1 % p
    let z2z := z2 * z2 % p
    let u1 := x1 * z2z % p
    let u2 := x2 * z1z % p
    let s1 := y1 * z2 * z2z % p
    let s2 := y2 * z1 * z1z % p
    if u1 = u2 then (if s1 = s2 then ecDbl q else (1, 1, 0)) else
      let h := (u2 + p - u1) % p
      let rr := (s2 + p - s1) % p
      let hh := h * h % p
      let hhh := h * hh % p
      let v := u1 * hh % p
      let x3 := (rr * rr + (p - hhh) + 2 * (p - v)) % p
      (x3, (rr * ((v + p - x3) % p) + (p - s1 * hhh % p)) % p, h * z1 * z2 % p)

/-- `k` times a point over `n` bits of `k`. -/
def ecMul : Nat → Nat → (Nat × Nat × Nat) → (Nat × Nat × Nat)
  | 0, _, _ => (1, 1, 0)
  | n + 1, k, q => if k % 2 = 1 then ecAdd q (ecMul n (k / 2) (ecDbl q)) else ecMul n (k / 2) (ecDbl q)

/-- The affine coordinates of a point. -/
def ecAffine (q : Nat × Nat × Nat) : Nat × Nat :=
  let zi := invMod p256p q.2.2
  let zi2 := zi * zi % p256p
  (q.1 * zi2 % p256p, q.2.1 * (zi2 * zi % p256p) % p256p)

/-- A public key is a point of the curve (FIPS 186-4). -/
def ecOnCurve (x y : Nat) : Bool :=
  x < p256p && y < p256p && y * y % p256p == (x * x * x + (p256p - 3) * x + p256b) % p256p

/-- ECDSA P-256 verification of (r, s) over a digest with public key (x, y). -/
def ecdsaVerify (x y r s digest : Nat) : Bool :=
  ecOnCurve x y && 0 < r && r < p256n && 0 < s && s < p256n &&
    (let w := invMod p256n s
     let u1 := digest * w % p256n
     let u2 := r * w % p256n
     let q := ecAdd (ecMul 256 u1 (p256gx, p256gy, 1)) (ecMul 256 u2 (x, y, 1))
     q.2.2 != 0 && (ecAffine q).1 % p256n == r)

/-- ECDSA P-256 signature over a digest with private key `d` and nonce `k`. -/
def ecdsaSign (d k digest : Nat) : Nat × Nat :=
  let r := (ecAffine (ecMul 256 k (p256gx, p256gy, 1))).1 % p256n
  (r, invMod p256n k * (digest + r * d) % p256n)

end Sys2Proof.Machine
end

