-- ==== Sys2Proof/Config.lean ====
section
/-! DEFINITION. Config.lean: what an implementation fixes and the values the spec leaves open. Every constant below is
OPAQUE: nothing in Lean can evaluate it, so a claim that rests on one holds whatever its value is. -/

namespace Sys2Proof.Config

/-- Free numbers: the n-th open value of a run (random numbers of R387, R390, R391; the first SEQ of a safety
producer, R287; the value that remains of two unordered writes, R57). Log entry 3. -/
opaque freeNat : Nat → Nat

/-- The 64-bit die identity (GLB_DIE); the spec gives the chip one and states no value. Log entry 3. -/
opaque dieId : Nat

/-- VKH, the hash of the image verification key in OTP, as a 256-bit number (R380). Log entry 3. -/
opaque vkh : Nat

/-- The variance of a VECTOR-mode innovation from C/N0 in 0.01 dB-Hz, as binary32 (R118): kind 0 pseudorange in m², 1 range
rate in (m/s)². The spec gives no formula. Log entry 84. -/
opaque vecVar : Nat → Nat → Nat

/-- The density of air in kg/m³ as binary32, for the wind force (R151), which the spec does not state. Log entry 86. -/
opaque airDensity : Nat

/-- The observer's variances, as binary32 in SI units, when a state of R150 first has a value that no measurement gives, by
the state's index in the full layout (R158). The spec gives none. Log entry 87. -/
opaque firstVar : Nat → Nat

/-- Where the search for a rudder's angle starts, as a binary angle by lane: R204 gives δ no cost, so where the forces leave the
angle open (no thrust, or several rudders) the spec states none. Log entry 94. -/
opaque rudderSeed : Nat → Nat

/-- The share of the present μ at which the corrector aims (R233), as binary32 from the predictor's μ and the present one: the
spec names a corrector and states no rule for it. Log entry 95. -/
opaque centring : Nat → Nat → Nat

/-- The gain of a first-order low-pass per run, as binary32, from the run's period in µs and the time constant as binary32
(R77, R240): the spec states no discrete form. Log entry 97. -/
opaque lowpass : Nat → Nat → Nat

/-- The covariance of an RLS estimate at its reset, as binary32, by the estimate's index (R240, R77): the spec states none. Log
entry 97. -/
opaque rlsCov : Nat → Nat

/-- The inputs that a non-zero sign mask of SUM reverses, bit 0 the first (R77): the spec gives the mask no layout. Log entry 41. -/
opaque sumSigns : Nat → Nat

/-- A word of the gate and vote result that FUS_REQ returns (R78), from the reference set, the result committed at the gate mark by
track, and the word's index: the spec gives the result no layout. Log entry 41. -/
opaque fusResult : Nat → List (Nat × Bool) → Nat → Nat

end Sys2Proof.Config
end

