-- ==== Sys2Proof/Machine/Registers.lean ====
section
/-! DEFINITION. Machine/Registers.lean: the register map of the chapters' register tables (R15, R16, R18, R21): one
row per register or register array, its access code, coherence class, reset value, implemented bits and legal codes;
and a name for every register and every field. -/

namespace Sys2Proof.Machine

/-- The access codes of R16, with the privileged forms of R17. -/
inductive Acc where
  | ro | rw | rws | w1c | wo | ros | rwp | wop | rop
  deriving DecidableEq, Repr

/-- The coherence class of a readable register (R21), or the natural boundary of a staged one (R417). -/
inductive Cls where
  | imm | pace | leg | atPace | atLeg | atStage | atSlot
  deriving DecidableEq, Repr

/-- What a field accepts (R19): a range, a range of two's complement values, a positive finite binary32, the pivot
threshold's range of R217, or a whole word of FUS_CMD (its TRACK is ignored for D4_ENTER and D4_EXIT). -/
inductive Legal where
  | range (lo hi : Nat)
  | srange (lo hi : Int)
  | f32pos
  | epsPiv
  | fusCmd
  deriving DecidableEq, Repr

/-- One register or one array of `count` registers `stride` bytes apart. `mask` holds the implemented bits (R18),
`w1c` the bits that a written 1 clears, `ro` the bits a write leaves alone. -/
structure Row where
  base : Nat
  stride : Nat
  count : Nat
  acc : Acc
  cls : Cls
  reset : Nat
  mask : Nat
  w1c : Nat
  ro : Nat
  legal : List (Nat × Nat × Legal)
  deriving DecidableEq, Repr

/-- A field of a register: the register's address and the field's bits [hi:lo]. -/
structure Fld where
  addr : Nat
  hi : Nat
  lo : Nat
  deriving DecidableEq, Repr

def Rw.GLB_ID : Row := ⟨0x0, 0x0, 1, .ro, .imm, 0x4A516400, 0xFFFFFFFF, 0x0, 0x0, []⟩
def Rw.GLB_REV : Row := ⟨0x4, 0x0, 1, .ro, .imm, 0x1B0, 0xFFFF, 0x0, 0x0, []⟩
def Rw.GLB_DIE_LO : Row := ⟨0x8, 0x0, 1, .ros, .imm, 0x0, 0xFFFFFFFF, 0x0, 0x0, []⟩
def Rw.GLB_DIE_HI : Row := ⟨0xC, 0x0, 1, .ro, .imm, 0x0, 0xFFFFFFFF, 0x0, 0x0, []⟩
def Rw.GLB_PACE : Row := ⟨0x10, 0x0, 1, .ro, .imm, 0x0, 0xFFFFFFFF, 0x0, 0x0, []⟩
def Rw.GLB_SNAP_EPOCH : Row := ⟨0x20, 0x0, 1, .ro, .imm, 0x0, 0xFFFFFFFF, 0x0, 0x0, []⟩
def Rw.GLB_SNAP_LEG : Row := ⟨0x24, 0x0, 1, .ro, .imm, 0x0, 0xFFFFFFFF, 0x0, 0x0, []⟩
def Rw.GLB_SNAP_RELEASE : Row := ⟨0x28, 0x0, 1, .wo, .imm, 0x0, 0xFFFFFFFF, 0x0, 0x0, []⟩
def Rw.GLB_SNAP_STATUS : Row := ⟨0x2C, 0x0, 1, .ro, .imm, 0x0, 0x8000007F, 0x0, 0x0, []⟩
def Rw.GLB_SCRATCH : Row := ⟨0x30, 0x0, 1, .rw, .imm, 0x0, 0xFFFFFFFF, 0x0, 0x0, []⟩
/-- Block 0x00_0000. -/
def rows_glb : List Row := [
  Rw.GLB_ID,
  Rw.GLB_REV,
  Rw.GLB_DIE_LO,
  Rw.GLB_DIE_HI,
  Rw.GLB_PACE,
  Rw.GLB_SNAP_EPOCH,
  Rw.GLB_SNAP_LEG,
  Rw.GLB_SNAP_RELEASE,
  Rw.GLB_SNAP_STATUS,
  Rw.GLB_SCRATCH]

def Rw.PWR_STATUS : Row := ⟨0x10000, 0x0, 1, .ro, .imm, 0x1, 0x70F3F, 0x0, 0x0, []⟩
def Rw.PWR_CMD : Row := ⟨0x10004, 0x0, 1, .wop, .imm, 0x0, 0x80000007, 0x0, 0x0, [(2, 0, .range 2 5)]⟩
def Rw.PWR_PARK : Row := ⟨0x10008, 0x0, 1, .rwp, .imm, 0x0, 0xFFFF0007, 0x0, 0x0, []⟩
def Rw.PWR_PARKED : Row := ⟨0x1000C, 0x0, 1, .ro, .imm, 0x0, 0x7FFFFE, 0x0, 0x0, []⟩
def Rw.PWR_UNIT_RESET : Row := ⟨0x10010, 0x0, 1, .wop, .imm, 0x0, 0x80000F1F, 0x0, 0x0, [(4, 0, .range 1 22)]⟩
def Rw.PWR_RESET_CAUSE : Row := ⟨0x10014, 0x0, 1, .ro, .imm, 0x0, 0xF01, 0x0, 0x0, []⟩
def Rw.PWR_UNIT_RESETS : Row := ⟨0x10018, 0x0, 1, .ro, .pace, 0x0, 0x1FFFF, 0x0, 0x0, []⟩
def Rw.PWR_CNT_CLR : Row := ⟨0x1001C, 0x0, 1, .wo, .imm, 0x0, 0x1, 0x0, 0x0, []⟩
/-- Block 0x01_0000. -/
def rows_pwr : List Row := [
  Rw.PWR_STATUS,
  Rw.PWR_CMD,
  Rw.PWR_PARK,
  Rw.PWR_PARKED,
  Rw.PWR_UNIT_RESET,
  Rw.PWR_RESET_CAUSE,
  Rw.PWR_UNIT_RESETS,
  Rw.PWR_CNT_CLR]

def Rw.TG_BOOT : Row := ⟨0x20000, 0x0, 1, .ro, .imm, 0x3, 0xFFFF00C3, 0x0, 0x0, []⟩
def Rw.TG_SLOT_CODE : Row := ⟨0x20010, 0x4, 3, .ro, .imm, 0x0, 0x1FFFF, 0x0, 0x0, []⟩
def Rw.TG_SLOT_SEQ : Row := ⟨0x20020, 0x4, 3, .ro, .imm, 0x0, 0xFFFFFFFF, 0x0, 0x0, []⟩
def Rw.TG_CMD : Row := ⟨0x20040, 0x0, 1, .wop, .imm, 0x0, 0x30F, 0x0, 0x0, []⟩
def Rw.TG_ADDR : Row := ⟨0x20044, 0x0, 1, .rwp, .imm, 0x0, 0xFFFFFFFF, 0x0, 0x0, []⟩
def Rw.TG_DATA : Row := ⟨0x20048, 0x0, 1, .wop, .imm, 0x0, 0xFFFFFFFF, 0x0, 0x0, []⟩
def Rw.TG_WHEN_PACE : Row := ⟨0x2004C, 0x0, 1, .rwp, .imm, 0x0, 0xFFFFFFFF, 0x0, 0x0, []⟩
def Rw.TG_STATUS : Row := ⟨0x20050, 0x0, 1, .ro, .imm, 0x0, 0x6FFFF, 0x40000, 0x0, []⟩
def Rw.TG_RESULT : Row := ⟨0x20054, 0x0, 1, .ro, .imm, 0x0, 0xFFFFFFF, 0x0, 0x0, []⟩
def Rw.TG_DIGEST_LO : Row := ⟨0x20058, 0x0, 1, .ros, .imm, 0x0, 0xFFFFFFFF, 0x0, 0x0, []⟩
def Rw.TG_DIGEST_HI : Row := ⟨0x2005C, 0x0, 1, .ro, .imm, 0x0, 0xFFFFFFFF, 0x0, 0x0, []⟩
def Rw.TG_COMMITS : Row := ⟨0x20060, 0x0, 1, .ro, .pace, 0x0, 0x1FFFF, 0x0, 0x0, []⟩
def Rw.TG_FAILS : Row := ⟨0x20064, 0x0, 1, .ro, .pace, 0x0, 0x1FFFF, 0x0, 0x0, []⟩
def Rw.TG_CNT_CLR : Row := ⟨0x20068, 0x0, 1, .wo, .imm, 0x0, 0x3, 0x0, 0x0, []⟩
def Rw.TG_NVW_PAGE : Row := ⟨0x20080, 0x0, 1, .rwp, .imm, 0x0, 0x1FF, 0x0, 0x0, []⟩
def Rw.TG_NVW_CMD : Row := ⟨0x20084, 0x0, 1, .wop, .imm, 0x0, 0x307, 0x0, 0x0, []⟩
def Rw.TG_NVW_STATUS : Row := ⟨0x20088, 0x0, 1, .ro, .imm, 0x0, 0x8001FFFF, 0x0, 0x0, []⟩
def Rw.TG_NOR_INFO : Row := ⟨0x2008C, 0x0, 1, .ro, .imm, 0x0, 0xFFFFFFFF, 0x0, 0x0, []⟩
/-- Block 0x02_0000. -/
def rows_tg : List Row := [
  Rw.TG_BOOT,
  Rw.TG_SLOT_CODE,
  Rw.TG_SLOT_SEQ,
  Rw.TG_CMD,
  Rw.TG_ADDR,
  Rw.TG_DATA,
  Rw.TG_WHEN_PACE,
  Rw.TG_STATUS,
  Rw.TG_RESULT,
  Rw.TG_DIGEST_LO,
  Rw.TG_DIGEST_HI,
  Rw.TG_COMMITS,
  Rw.TG_FAILS,
  Rw.TG_CNT_CLR,
  Rw.TG_NVW_PAGE,
  Rw.TG_NVW_CMD,
  Rw.TG_NVW_STATUS,
  Rw.TG_NOR_INFO]

def Rw.FAB_STATUS : Row := ⟨0x30000, 0x0, 1, .ro, .imm, 0x0, 0x3, 0x0, 0x0, []⟩
def Rw.FAB_TAGS : Row := ⟨0x30004, 0x0, 1, .ro, .imm, 0x0, 0x3FF03FF, 0x0, 0x0, []⟩
def Rw.FAB_TAG_STALL : Row := ⟨0x30010, 0x0, 1, .ro, .pace, 0x0, 0x1FFFF, 0x0, 0x0, []⟩
def Rw.FAB_STALE_DISCARD : Row := ⟨0x30014, 0x0, 1, .ro, .pace, 0x0, 0x1F01FFFF, 0x0, 0x0, []⟩
def Rw.FAB_CLOSED_CNT : Row := ⟨0x30018, 0x0, 1, .ro, .pace, 0x0, 0x1FFFF, 0x0, 0x0, []⟩
def Rw.FAB_WITHDRAWN : Row := ⟨0x3001C, 0x0, 1, .ro, .pace, 0x0, 0x1FFFF, 0x0, 0x0, []⟩
def Rw.FAB_PROV_REDIRECT : Row := ⟨0x30020, 0x0, 1, .ro, .pace, 0x0, 0x1FFFF, 0x0, 0x0, []⟩
def Rw.FAB_CNT_CLR : Row := ⟨0x30030, 0x0, 1, .wo, .imm, 0x0, 0x3F, 0x0, 0x0, []⟩
def Rw.FAB_PORT_STATE : Row := ⟨0x30040, 0x0, 1, .ro, .imm, 0x0, 0x7FFFFE, 0x0, 0x0, []⟩
def Rw.FAB_INCARN : Row := ⟨0x30104, 0x4, 22, .ro, .imm, 0x0, 0xFFFFFFFF, 0x0, 0x0, []⟩
/-- Block 0x03_0000. -/
def rows_fab : List Row := [
  Rw.FAB_STATUS,
  Rw.FAB_TAGS,
  Rw.FAB_TAG_STALL,
  Rw.FAB_STALE_DISCARD,
  Rw.FAB_CLOSED_CNT,
  Rw.FAB_WITHDRAWN,
  Rw.FAB_PROV_REDIRECT,
  Rw.FAB_CNT_CLR,
  Rw.FAB_PORT_STATE,
  Rw.FAB_INCARN]

def Rw.ENG_SPARE : Row := ⟨0x40000, 0x0, 1, .ro, .imm, 0x3, 0x3, 0x0, 0x0, []⟩
def Rw.ENG_CNT_CLR : Row := ⟨0x40010, 0x0, 1, .wo, .imm, 0x0, 0xFFFFFFFF, 0x0, 0x0, []⟩
def Rw.ENG_STATUS : Row := ⟨0x40100, 0x40, 16, .ro, .imm, 0x1, 0x11F1F, 0x0, 0x0, []⟩
def Rw.ENG_INCARN : Row := ⟨0x40104, 0x40, 16, .ro, .imm, 0x0, 0xFFFFFFFF, 0x0, 0x0, []⟩
def Rw.ENG_LOAD : Row := ⟨0x40108, 0x40, 16, .ro, .imm, 0x0, 0x3FF03FF, 0x0, 0x0, []⟩
def Rw.ENG_STAGE_LOAD : Row := ⟨0x4010C, 0x40, 16, .ro, .imm, 0x0, 0x3FF, 0x0, 0x0, []⟩
def Rw.ENG_GRAPHS : Row := ⟨0x40110, 0x40, 16, .ro, .imm, 0x0, 0x1FFF007F, 0x0, 0x0, []⟩
def Rw.ENG_SRAM : Row := ⟨0x40114, 0x40, 16, .ro, .imm, 0x0, 0x3FFFF, 0x0, 0x0, []⟩
def Rw.ENG_INVALID : Row := ⟨0x40118, 0x40, 16, .ro, .leg, 0x0, 0x1FFFF, 0x0, 0x0, []⟩
def Rw.ENG_SAT : Row := ⟨0x4011C, 0x40, 16, .ro, .leg, 0x0, 0x1FFFF, 0x0, 0x0, []⟩
def Rw.ENG_FLAGS : Row := ⟨0x40120, 0x40, 16, .w1c, .imm, 0x0, 0x7, 0x7, 0x0, []⟩
/-- Block 0x04_0000. -/
def rows_eng : List Row := [
  Rw.ENG_SPARE,
  Rw.ENG_CNT_CLR,
  Rw.ENG_STATUS,
  Rw.ENG_INCARN,
  Rw.ENG_LOAD,
  Rw.ENG_STAGE_LOAD,
  Rw.ENG_GRAPHS,
  Rw.ENG_SRAM,
  Rw.ENG_INVALID,
  Rw.ENG_SAT,
  Rw.ENG_FLAGS]

def Rw.SLV_STATUS : Row := ⟨0x50000, 0x0, 1, .ro, .imm, 0x0, 0x3, 0x0, 0x0, []⟩
def Rw.SLV_EPS_PIV : Row := ⟨0x50004, 0x0, 1, .rws, .atLeg, 0x35800000, 0xFFFFFFFF, 0x0, 0x0, [(31, 0, .epsPiv)]⟩
def Rw.SLV_FLAGS : Row := ⟨0x50008, 0x0, 1, .w1c, .pace, 0x0, 0x3F, 0x3F, 0x0, []⟩
def Rw.SLV_A_PIVOT_REG : Row := ⟨0x50010, 0x0, 1, .ro, .pace, 0x0, 0x1FFFF, 0x0, 0x0, []⟩
def Rw.SLV_A_PIVOT_ZERO : Row := ⟨0x50014, 0x0, 1, .ro, .pace, 0x0, 0x1FFFF, 0x0, 0x0, []⟩
def Rw.SLV_A_OVF : Row := ⟨0x50018, 0x0, 1, .ro, .pace, 0x0, 0x1FFFF, 0x0, 0x0, []⟩
def Rw.SLV_H_PIVOT_REG : Row := ⟨0x5001C, 0x0, 1, .ro, .pace, 0x0, 0x1FFFF, 0x0, 0x0, []⟩
def Rw.SLV_H_PIVOT_ZERO : Row := ⟨0x50020, 0x0, 1, .ro, .pace, 0x0, 0x1FFFF, 0x0, 0x0, []⟩
def Rw.SLV_H_OVF : Row := ⟨0x50024, 0x0, 1, .ro, .pace, 0x0, 0x1FFFF, 0x0, 0x0, []⟩
def Rw.SLV_PREEMPT : Row := ⟨0x50028, 0x0, 1, .ro, .pace, 0x0, 0x1FFFF, 0x0, 0x0, []⟩
def Rw.SLV_CNT_CLR : Row := ⟨0x50030, 0x0, 1, .wo, .imm, 0x0, 0x7F, 0x0, 0x0, []⟩
def Rw.SLV_VERGE : Row := ⟨0x50040, 0x0, 1, .ro, .imm, 0x8, 0xFF000F, 0x0, 0x0, []⟩
/-- Block 0x05_0000. -/
def rows_slv : List Row := [
  Rw.SLV_STATUS,
  Rw.SLV_EPS_PIV,
  Rw.SLV_FLAGS,
  Rw.SLV_A_PIVOT_REG,
  Rw.SLV_A_PIVOT_ZERO,
  Rw.SLV_A_OVF,
  Rw.SLV_H_PIVOT_REG,
  Rw.SLV_H_PIVOT_ZERO,
  Rw.SLV_H_OVF,
  Rw.SLV_PREEMPT,
  Rw.SLV_CNT_CLR,
  Rw.SLV_VERGE]

def Rw.ALC_CTL : Row := ⟨0x60000, 0x0, 1, .rws, .atLeg, 0x3, 0x7, 0x0, 0x0, []⟩
def Rw.ALC_STATUS : Row := ⟨0x60004, 0x0, 1, .ro, .pace, 0x0, 0x1FF0FFF3, 0x0, 0x0, []⟩
def Rw.ALC_MISS : Row := ⟨0x60008, 0x0, 1, .ro, .pace, 0x0, 0x1FFFF, 0x0, 0x0, []⟩
def Rw.ALC_CNT_CLR : Row := ⟨0x6000C, 0x0, 1, .wo, .imm, 0x0, 0x1, 0x0, 0x0, []⟩
def Rw.ALC_TOL : Row := ⟨0x60010, 0x0, 1, .rws, .atLeg, 0x14000A, 0xFFFFFFFF, 0x0, 0x0, []⟩
def Rw.ALC_BRANCH : Row := ⟨0x60014, 0x0, 1, .rws, .atLeg, 0xCCD0064, 0xFFFF00FF, 0x0, 0x0, [(7, 0, .range 1 255)]⟩
def Rw.ALC_TRANSIT : Row := ⟨0x60018, 0x0, 1, .rws, .atLeg, 0x0, 0xFFFF, 0x0, 0x0, []⟩
def Rw.ALC_LEVEL_HOLD : Row := ⟨0x6001C, 0x0, 1, .rws, .atLeg, 0xA, 0xFFFF, 0x0, 0x0, [(15, 0, .range 1 600)]⟩
def Rw.ALC_SLACK_W : Row := ⟨0x60020, 0x0, 1, .rws, .atLeg, 0x49742400, 0xFFFFFFFF, 0x0, 0x0, [(31, 0, .f32pos)]⟩
def Rw.ALC_TAU : Row := ⟨0x60030, 0x4, 3, .ro, .pace, 0x0, 0xFFFFFFFF, 0x0, 0x0, []⟩
def Rw.ALC_ACH : Row := ⟨0x6003C, 0x4, 3, .ro, .pace, 0x0, 0xFFFFFFFF, 0x0, 0x0, []⟩
def Rw.ALC_J : Row := ⟨0x60048, 0x0, 1, .ro, .pace, 0x0, 0xFFFFFFFF, 0x0, 0x0, []⟩
def Rw.ALC_J_NOM : Row := ⟨0x6004C, 0x0, 1, .ro, .pace, 0x0, 0xFFFFFFFF, 0x0, 0x0, []⟩
def Rw.ALC_J_CAND : Row := ⟨0x60050, 0x0, 1, .ro, .pace, 0x0, 0xFFFFFFFF, 0x0, 0x0, []⟩
def Rw.ALC_CAND : Row := ⟨0x60054, 0x0, 1, .ro, .pace, 0x0, 0x80FF3F07, 0x0, 0x0, []⟩
def Rw.ALC_SOLVE_T : Row := ⟨0x60058, 0x0, 1, .ro, .pace, 0x0, 0xFFFF, 0x0, 0x0, []⟩
def Rw.ALC_BUS_LIMIT : Row := ⟨0x60100, 0x8, 8, .rws, .atPace, 0xFFFFFFFF, 0xFFFFFFFF, 0x0, 0x0, []⟩
def Rw.ALC_BUS_LOAD : Row := ⟨0x60104, 0x8, 8, .ro, .pace, 0x0, 0xFFFFFFFF, 0x0, 0x0, []⟩
def Rw.ALC_ENV : Row := ⟨0x60200, 0x4, 32, .ro, .leg, 0x0, 0xFFFFFFFF, 0x0, 0x0, []⟩
def Rw.ALC_ENV_MPOS : Row := ⟨0x60280, 0x0, 1, .ro, .leg, 0x0, 0xFFFFFFFF, 0x0, 0x0, []⟩
def Rw.ALC_ENV_MNEG : Row := ⟨0x60284, 0x0, 1, .ro, .leg, 0x0, 0xFFFFFFFF, 0x0, 0x0, []⟩
def Rw.ALC_ENV_RATE : Row := ⟨0x60288, 0x4, 3, .ro, .leg, 0x0, 0xFFFFFFFF, 0x0, 0x0, []⟩
def Rw.ALC_LANE_STATUS : Row := ⟨0x61000, 0x10, 64, .ro, .pace, 0x0, 0x1F77, 0x0, 0x0, []⟩
def Rw.ALC_LANE_CMD_T : Row := ⟨0x61004, 0x10, 64, .ro, .pace, 0x0, 0xFFFFFFFF, 0x0, 0x0, []⟩
def Rw.ALC_LANE_CMD_ANG : Row := ⟨0x61008, 0x10, 64, .ro, .pace, 0x0, 0xFFFFFFFF, 0x0, 0x0, []⟩
/-- Block 0x06_0000. -/
def rows_alc : List Row := [
  Rw.ALC_CTL,
  Rw.ALC_STATUS,
  Rw.ALC_MISS,
  Rw.ALC_CNT_CLR,
  Rw.ALC_TOL,
  Rw.ALC_BRANCH,
  Rw.ALC_TRANSIT,
  Rw.ALC_LEVEL_HOLD,
  Rw.ALC_SLACK_W,
  Rw.ALC_TAU,
  Rw.ALC_ACH,
  Rw.ALC_J,
  Rw.ALC_J_NOM,
  Rw.ALC_J_CAND,
  Rw.ALC_CAND,
  Rw.ALC_SOLVE_T,
  Rw.ALC_BUS_LIMIT,
  Rw.ALC_BUS_LOAD,
  Rw.ALC_ENV,
  Rw.ALC_ENV_MPOS,
  Rw.ALC_ENV_MNEG,
  Rw.ALC_ENV_RATE,
  Rw.ALC_LANE_STATUS,
  Rw.ALC_LANE_CMD_T,
  Rw.ALC_LANE_CMD_ANG]

def Rw.HZN_CTL : Row := ⟨0x70000, 0x0, 1, .rws, .atStage, 0x1, 0x1, 0x0, 0x0, []⟩
def Rw.HZN_MODEL_ADAPT_EN : Row := ⟨0x70004, 0x0, 1, .rws, .atStage, 0x0, 0x1, 0x0, 0x0, []⟩
def Rw.HZN_HORIZON : Row := ⟨0x70008, 0x0, 1, .rws, .atStage, 0xA0032, 0x1F007F, 0x0, 0x0, [(20, 16, .range 1 20), (6, 0, .range 10 100)]⟩
def Rw.HZN_ENV_MARGIN : Row := ⟨0x7000C, 0x0, 1, .rws, .atStage, 0xE666E666, 0xFFFFFFFF, 0x0, 0x0, []⟩
def Rw.HZN_MAX_ITER : Row := ⟨0x70010, 0x0, 1, .rws, .atStage, 0x14, 0x3F, 0x0, 0x0, [(5, 0, .range 1 50)]⟩
def Rw.HZN_TOL : Row := ⟨0x70014, 0x0, 1, .rws, .atStage, 0x3727C5AC, 0xFFFFFFFF, 0x0, 0x0, [(31, 0, .f32pos)]⟩
def Rw.HZN_TOL_MU : Row := ⟨0x70018, 0x0, 1, .rws, .atStage, 0x33D6BF95, 0xFFFFFFFF, 0x0, 0x0, [(31, 0, .f32pos)]⟩
def Rw.HZN_RHO : Row := ⟨0x7001C, 0x0, 1, .rws, .atStage, 0x42C80000, 0xFFFFFFFF, 0x0, 0x0, [(31, 0, .f32pos)]⟩
def Rw.HZN_ELIG_P : Row := ⟨0x70020, 0x0, 1, .rws, .atStage, 0x3A83126F, 0xFFFFFFFF, 0x0, 0x0, [(31, 0, .f32pos)]⟩
def Rw.HZN_ELIG_D : Row := ⟨0x70024, 0x0, 1, .rws, .atStage, 0x3C23D70A, 0xFFFFFFFF, 0x0, 0x0, [(31, 0, .f32pos)]⟩
def Rw.HZN_Q_POS : Row := ⟨0x70040, 0x4, 3, .rws, .atStage, 0x0, 0xFFFFFFFF, 0x0, 0x0, [(31, 0, .f32pos)]⟩
def Rw.HZN_Q_VEL : Row := ⟨0x70050, 0x4, 3, .rws, .atStage, 0x0, 0xFFFFFFFF, 0x0, 0x0, [(31, 0, .f32pos)]⟩
def Rw.HZN_R : Row := ⟨0x70060, 0x4, 3, .rws, .atStage, 0x0, 0xFFFFFFFF, 0x0, 0x0, [(31, 0, .f32pos)]⟩
def Rw.HZN_S : Row := ⟨0x70070, 0x4, 3, .rws, .atStage, 0x0, 0xFFFFFFFF, 0x0, 0x0, [(31, 0, .f32pos)]⟩
def Rw.HZN_QN : Row := ⟨0x70080, 0x0, 1, .rws, .atStage, 0x0, 0xFFFFFFFF, 0x0, 0x0, [(31, 0, .f32pos)]⟩
def Rw.HZN_RESULT : Row := ⟨0x70100, 0x0, 1, .ro, .leg, 0x0, 0x3F3F73, 0x0, 0x0, []⟩
def Rw.HZN_RES_P : Row := ⟨0x70104, 0x0, 1, .ro, .leg, 0x0, 0xFFFFFFFF, 0x0, 0x0, []⟩
def Rw.HZN_RES_D : Row := ⟨0x70108, 0x0, 1, .ro, .leg, 0x0, 0xFFFFFFFF, 0x0, 0x0, []⟩
def Rw.HZN_MU : Row := ⟨0x7010C, 0x0, 1, .ro, .leg, 0x0, 0xFFFFFFFF, 0x0, 0x0, []⟩
def Rw.HZN_MERIT : Row := ⟨0x70110, 0x0, 1, .ro, .leg, 0x0, 0xFFFFFFFF, 0x0, 0x0, []⟩
def Rw.HZN_COST : Row := ⟨0x70114, 0x0, 1, .ro, .leg, 0x0, 0xFFFFFFFF, 0x0, 0x0, []⟩
def Rw.HZN_STAGE : Row := ⟨0x70118, 0x0, 1, .ro, .leg, 0x0, 0xFFFFFFFF, 0x0, 0x0, []⟩
def Rw.HZN_SOLVE_T : Row := ⟨0x7011C, 0x0, 1, .ro, .leg, 0x0, 0xFFFFFFFF, 0x0, 0x0, []⟩
def Rw.HZN_BLEND : Row := ⟨0x70120, 0x0, 1, .ro, .leg, 0x60000, 0xFFFFF, 0x0, 0x0, []⟩
def Rw.HZN_TRUNCATED : Row := ⟨0x70130, 0x0, 1, .ro, .leg, 0x0, 0x1FFFF, 0x0, 0x0, []⟩
def Rw.HZN_NO_ITERATE : Row := ⟨0x70134, 0x0, 1, .ro, .leg, 0x0, 0x1FFFF, 0x0, 0x0, []⟩
def Rw.HZN_INELIG : Row := ⟨0x70138, 0x0, 1, .ro, .leg, 0x0, 0x1FFFF, 0x0, 0x0, []⟩
def Rw.HZN_CNT_CLR : Row := ⟨0x7013C, 0x0, 1, .wo, .imm, 0x0, 0x7, 0x0, 0x0, []⟩
def Rw.HZN_ID_CFG : Row := ⟨0x70200, 0x0, 1, .rws, .atStage, 0xCCD0DC8, 0xFFFFFFFF, 0x0, 0x0, [(7, 0, .range 1 255)]⟩
def Rw.HZN_ID_CMD : Row := ⟨0x70204, 0x0, 1, .wo, .imm, 0x0, 0x3, 0x0, 0x0, []⟩
def Rw.HZN_ID_STATUS : Row := ⟨0x70208, 0x0, 1, .ro, .leg, 0x0, 0x1FF01FF, 0x0, 0x0, []⟩
def Rw.HZN_MODEL_IMG : Row := ⟨0x70220, 0x4, 9, .ro, .imm, 0x0, 0xFFFFFFFF, 0x0, 0x0, []⟩
def Rw.HZN_MODEL_USE : Row := ⟨0x70250, 0x4, 9, .ro, .leg, 0x0, 0xFFFFFFFF, 0x0, 0x0, []⟩
def Rw.HZN_ID_EST : Row := ⟨0x70280, 0x4, 9, .ro, .leg, 0x0, 0xFFFFFFFF, 0x0, 0x0, []⟩
def Rw.HZN_ID_LO : Row := ⟨0x702C0, 0x4, 9, .ro, .imm, 0x0, 0xFFFFFFFF, 0x0, 0x0, []⟩
def Rw.HZN_ID_HI : Row := ⟨0x70300, 0x4, 9, .ro, .imm, 0x0, 0xFFFFFFFF, 0x0, 0x0, []⟩
def Rw.HZN_TRAJ_X : Row := ⟨0x71000, 0x10, 101, .ro, .leg, 0x0, 0xFFFFFFFF, 0x0, 0x0, []⟩
def Rw.HZN_TRAJ_Y : Row := ⟨0x71004, 0x10, 101, .ro, .leg, 0x0, 0xFFFFFFFF, 0x0, 0x0, []⟩
def Rw.HZN_TRAJ_N : Row := ⟨0x71008, 0x10, 101, .ro, .leg, 0x0, 0xFFFFFFFF, 0x0, 0x0, []⟩
/-- Block 0x07_0000. -/
def rows_hzn : List Row := [
  Rw.HZN_CTL,
  Rw.HZN_MODEL_ADAPT_EN,
  Rw.HZN_HORIZON,
  Rw.HZN_ENV_MARGIN,
  Rw.HZN_MAX_ITER,
  Rw.HZN_TOL,
  Rw.HZN_TOL_MU,
  Rw.HZN_RHO,
  Rw.HZN_ELIG_P,
  Rw.HZN_ELIG_D,
  Rw.HZN_Q_POS,
  Rw.HZN_Q_VEL,
  Rw.HZN_R,
  Rw.HZN_S,
  Rw.HZN_QN,
  Rw.HZN_RESULT,
  Rw.HZN_RES_P,
  Rw.HZN_RES_D,
  Rw.HZN_MU,
  Rw.HZN_MERIT,
  Rw.HZN_COST,
  Rw.HZN_STAGE,
  Rw.HZN_SOLVE_T,
  Rw.HZN_BLEND,
  Rw.HZN_TRUNCATED,
  Rw.HZN_NO_ITERATE,
  Rw.HZN_INELIG,
  Rw.HZN_CNT_CLR,
  Rw.HZN_ID_CFG,
  Rw.HZN_ID_CMD,
  Rw.HZN_ID_STATUS,
  Rw.HZN_MODEL_IMG,
  Rw.HZN_MODEL_USE,
  Rw.HZN_ID_EST,
  Rw.HZN_ID_LO,
  Rw.HZN_ID_HI,
  Rw.HZN_TRAJ_X,
  Rw.HZN_TRAJ_Y,
  Rw.HZN_TRAJ_N]

def Rw.LOOP_STATUS : Row := ⟨0x80000, 0x0, 1, .ro, .leg, 0x0, 0x3FF, 0xB0, 0x0, []⟩
def Rw.LOOP_LAW_CTL : Row := ⟨0x80004, 0x0, 1, .rws, .atLeg, 0x80000004, 0xFFFF0007, 0x0, 0x0, []⟩
def Rw.LOOP_LAW_KD : Row := ⟨0x80010, 0x4, 3, .rws, .atLeg, 0x0, 0xFFFFFFFF, 0x0, 0x0, []⟩
def Rw.LOOP_SP_N : Row := ⟨0x80020, 0x0, 1, .rw, .imm, 0x0, 0xFFFFFFFF, 0x0, 0x0, []⟩
def Rw.LOOP_SP_E : Row := ⟨0x80024, 0x0, 1, .rw, .imm, 0x0, 0xFFFFFFFF, 0x0, 0x0, []⟩
def Rw.LOOP_SP_HDG : Row := ⟨0x80028, 0x0, 1, .rw, .imm, 0x0, 0xFFFFFFFF, 0x0, 0x0, []⟩
def Rw.LOOP_MOVE_SPEED : Row := ⟨0x8002C, 0x0, 1, .rw, .imm, 0x0, 0xFFFFFFFF, 0x0, 0x0, []⟩
def Rw.LOOP_MOVE_TURN : Row := ⟨0x80030, 0x0, 1, .rw, .imm, 0x0, 0xFFFFFFFF, 0x0, 0x0, []⟩
def Rw.LOOP_MOVE_ACCEL : Row := ⟨0x80034, 0x0, 1, .rw, .imm, 0x0, 0xFFFFFFFF, 0x0, 0x0, []⟩
def Rw.LOOP_SP_GO : Row := ⟨0x80038, 0x0, 1, .wo, .imm, 0x0, 0xF, 0x0, 0x0, [(2, 1, .range 0 2)]⟩
def Rw.LOOP_ORIGIN_LAT : Row := ⟨0x80040, 0x0, 1, .rw, .imm, 0x0, 0xFFFFFFFF, 0x0, 0x0, []⟩
def Rw.LOOP_ORIGIN_LON : Row := ⟨0x80044, 0x0, 1, .rw, .imm, 0x0, 0xFFFFFFFF, 0x0, 0x0, []⟩
def Rw.LOOP_ORIGIN_HGT : Row := ⟨0x80048, 0x0, 1, .rw, .imm, 0x0, 0xFFFFFFFF, 0x0, 0x0, []⟩
def Rw.LOOP_ORIGIN_CTL : Row := ⟨0x8004C, 0x0, 1, .rw, .imm, 0x0, 0x1, 0x0, 0x0, []⟩
def Rw.LOOP_JOY_X : Row := ⟨0x80050, 0x0, 1, .rws, .atLeg, 0x0, 0xFFFFFFFF, 0x0, 0x0, []⟩
def Rw.LOOP_JOY_Y : Row := ⟨0x80054, 0x0, 1, .rws, .atLeg, 0x0, 0xFFFFFFFF, 0x0, 0x0, []⟩
def Rw.LOOP_JOY_N : Row := ⟨0x80058, 0x0, 1, .rws, .atLeg, 0x0, 0xFFFFFFFF, 0x0, 0x0, []⟩
def Rw.LOOP_JOY_TMO : Row := ⟨0x8005C, 0x0, 1, .rws, .atLeg, 0x3E8, 0xFFFF, 0x0, 0x0, [(15, 0, .range 100 10000)]⟩
def Rw.LOOP_TAU_CL : Row := ⟨0x80060, 0x4, 3, .ro, .leg, 0x0, 0xFFFFFFFF, 0x0, 0x0, []⟩
def Rw.LOOP_TAU_PL : Row := ⟨0x8006C, 0x4, 3, .ro, .leg, 0x0, 0xFFFFFFFF, 0x0, 0x0, []⟩
def Rw.LOOP_TAU : Row := ⟨0x80078, 0x4, 3, .ro, .leg, 0x0, 0xFFFFFFFF, 0x0, 0x0, []⟩
def Rw.LOOP_BLEND_W : Row := ⟨0x80084, 0x0, 1, .ro, .leg, 0x0, 0xFFFF, 0x0, 0x0, []⟩
def Rw.LOOP_TEST_CTL : Row := ⟨0x80100, 0x0, 1, .rwp, .imm, 0x0, 0xC000717F, 0x0, 0x0, [(14, 12, .range 0 4), (6, 0, .range 0 95)]⟩
def Rw.LOOP_TEST_AMP : Row := ⟨0x80104, 0x0, 1, .rwp, .imm, 0x0, 0xFFFFFFFF, 0x0, 0x0, []⟩
def Rw.LOOP_TEST_OFFSET : Row := ⟨0x80108, 0x0, 1, .rwp, .imm, 0x0, 0xFFFFFFFF, 0x0, 0x0, []⟩
def Rw.LOOP_TEST_FREQ : Row := ⟨0x8010C, 0x0, 1, .rwp, .imm, 0x0, 0xFFFFFFFF, 0x0, 0x0, []⟩
def Rw.LOOP_TEST_FREQ_END : Row := ⟨0x80110, 0x0, 1, .rwp, .imm, 0x0, 0xFFFFFFFF, 0x0, 0x0, []⟩
def Rw.LOOP_TEST_FREQ_STEP : Row := ⟨0x80114, 0x0, 1, .rwp, .imm, 0x0, 0xFFFFFFFF, 0x0, 0x0, []⟩
def Rw.LOOP_TEST_DUR : Row := ⟨0x80118, 0x0, 1, .rwp, .imm, 0x0, 0xFFFFFFFF, 0x0, 0x0, []⟩
def Rw.LOOP_TEST_STATUS : Row := ⟨0x8011C, 0x0, 1, .ro, .pace, 0x0, 0xFFFFFFFF, 0x0, 0x0, []⟩
def Rw.LOOP_CAP_CTL : Row := ⟨0x80200, 0x20, 2, .rw, .imm, 0x0, 0xC07F3FF0, 0x0, 0x0, [(22, 16, .range 0 95), (13, 10, .range 0 14), (9, 6, .range 0 14)]⟩
def Rw.LOOP_CAP_LEVEL : Row := ⟨0x80204, 0x20, 2, .rw, .imm, 0x0, 0xFFFFFFFF, 0x0, 0x0, []⟩
def Rw.LOOP_CAP_PRE : Row := ⟨0x80208, 0x20, 2, .rw, .imm, 0x0, 0xFFF, 0x0, 0x0, []⟩
def Rw.LOOP_CAP_STATUS : Row := ⟨0x8020C, 0x20, 2, .ro, .imm, 0x0, 0xE0001FFF, 0x0, 0x0, []⟩
def Rw.LOOP_CAP_RDPTR : Row := ⟨0x80210, 0x20, 2, .rw, .imm, 0x0, 0x1FFF, 0x0, 0x0, []⟩
def Rw.LOOP_CAP_RDDATA : Row := ⟨0x80214, 0x20, 2, .ro, .imm, 0x0, 0xFFFFFFFF, 0x0, 0x0, []⟩
def Rw.LOOP_CAP_TRIG_PACE : Row := ⟨0x80218, 0x20, 2, .ro, .imm, 0x0, 0xFFFFFFFF, 0x0, 0x0, []⟩
def Rw.LOOP_SLOT_CFG : Row := ⟨0x81000, 0x40, 96, .ro, .imm, 0x0, 0x3FFF03, 0x0, 0x0, []⟩
def Rw.LOOP_SLOT_CTL : Row := ⟨0x81004, 0x40, 96, .rws, .atSlot, 0x0, 0xC0000030, 0x0, 0x0, []⟩
def Rw.LOOP_SLOT_G : Row := ⟨0x81008, 0x40, 96, .rws, .atSlot, 0x0, 0xFFFFFFFF, 0x0, 0x0, []⟩
def Rw.LOOP_SLOT_KI : Row := ⟨0x8100C, 0x40, 96, .rws, .atSlot, 0x0, 0xFFFFFFFF, 0x0, 0x0, []⟩
def Rw.LOOP_SLOT_KT : Row := ⟨0x81010, 0x40, 96, .rws, .atSlot, 0x0, 0xFFFFFFFF, 0x0, 0x0, []⟩
def Rw.LOOP_SLOT_SHIFTS : Row := ⟨0x81014, 0x40, 96, .rws, .atSlot, 0x0, 0x1F1F1F, 0x0, 0x0, []⟩
def Rw.LOOP_SLOT_LIM_LO : Row := ⟨0x81018, 0x40, 96, .rws, .atSlot, 0x80000000, 0xFFFFFFFF, 0x0, 0x0, []⟩
def Rw.LOOP_SLOT_LIM_HI : Row := ⟨0x8101C, 0x40, 96, .rws, .atSlot, 0x7FFFFFFF, 0xFFFFFFFF, 0x0, 0x0, []⟩
def Rw.LOOP_SLOT_I_PRESET : Row := ⟨0x81020, 0x40, 96, .rws, .atSlot, 0x0, 0xFFFFFFFF, 0x0, 0x0, []⟩
def Rw.LOOP_SLOT_FLAGS : Row := ⟨0x81024, 0x40, 96, .w1c, .pace, 0x0, 0xFF1F, 0xFF1F, 0x0, []⟩
def Rw.LOOP_SLOT_OUT : Row := ⟨0x81028, 0x40, 96, .ro, .pace, 0x0, 0xFFFFFFFF, 0x0, 0x0, []⟩
def Rw.LOOP_SLOT_I : Row := ⟨0x8102C, 0x40, 96, .ro, .pace, 0x0, 0xFFFFFFFF, 0x0, 0x0, []⟩
def Rw.LOOP_SLOT_IN : Row := ⟨0x81030, 0x40, 96, .ro, .pace, 0x0, 0xFFFFFFFF, 0x0, 0x0, []⟩
def Rw.LOOP_SLOT_FF : Row := ⟨0x81034, 0x40, 96, .ro, .pace, 0x0, 0xFFFFFFFF, 0x0, 0x0, []⟩
def Rw.LOOP_SEC_B0 : Row := ⟨0x84000, 0x20, 768, .rws, .atSlot, 0x0, 0xFFFFFFFF, 0x0, 0x0, []⟩
def Rw.LOOP_SEC_B1 : Row := ⟨0x84004, 0x20, 768, .rws, .atSlot, 0x0, 0xFFFFFFFF, 0x0, 0x0, []⟩
def Rw.LOOP_SEC_B2 : Row := ⟨0x84008, 0x20, 768, .rws, .atSlot, 0x0, 0xFFFFFFFF, 0x0, 0x0, []⟩
def Rw.LOOP_SEC_A1 : Row := ⟨0x8400C, 0x20, 768, .rws, .atSlot, 0x0, 0xFFFFFFFF, 0x0, 0x0, []⟩
def Rw.LOOP_SEC_A2 : Row := ⟨0x84010, 0x20, 768, .rws, .atSlot, 0x0, 0xFFFFFFFF, 0x0, 0x0, []⟩
def Rw.LOOP_SEC_SH : Row := ⟨0x84014, 0x20, 768, .rws, .atSlot, 0x0, 0x1FFFFFF, 0x0, 0x0, []⟩
/-- Block 0x08_0000. -/
def rows_loop : List Row := [
  Rw.LOOP_STATUS,
  Rw.LOOP_LAW_CTL,
  Rw.LOOP_LAW_KD,
  Rw.LOOP_SP_N,
  Rw.LOOP_SP_E,
  Rw.LOOP_SP_HDG,
  Rw.LOOP_MOVE_SPEED,
  Rw.LOOP_MOVE_TURN,
  Rw.LOOP_MOVE_ACCEL,
  Rw.LOOP_SP_GO,
  Rw.LOOP_ORIGIN_LAT,
  Rw.LOOP_ORIGIN_LON,
  Rw.LOOP_ORIGIN_HGT,
  Rw.LOOP_ORIGIN_CTL,
  Rw.LOOP_JOY_X,
  Rw.LOOP_JOY_Y,
  Rw.LOOP_JOY_N,
  Rw.LOOP_JOY_TMO,
  Rw.LOOP_TAU_CL,
  Rw.LOOP_TAU_PL,
  Rw.LOOP_TAU,
  Rw.LOOP_BLEND_W,
  Rw.LOOP_TEST_CTL,
  Rw.LOOP_TEST_AMP,
  Rw.LOOP_TEST_OFFSET,
  Rw.LOOP_TEST_FREQ,
  Rw.LOOP_TEST_FREQ_END,
  Rw.LOOP_TEST_FREQ_STEP,
  Rw.LOOP_TEST_DUR,
  Rw.LOOP_TEST_STATUS,
  Rw.LOOP_CAP_CTL,
  Rw.LOOP_CAP_LEVEL,
  Rw.LOOP_CAP_PRE,
  Rw.LOOP_CAP_STATUS,
  Rw.LOOP_CAP_RDPTR,
  Rw.LOOP_CAP_RDDATA,
  Rw.LOOP_CAP_TRIG_PACE,
  Rw.LOOP_SLOT_CFG,
  Rw.LOOP_SLOT_CTL,
  Rw.LOOP_SLOT_G,
  Rw.LOOP_SLOT_KI,
  Rw.LOOP_SLOT_KT,
  Rw.LOOP_SLOT_SHIFTS,
  Rw.LOOP_SLOT_LIM_LO,
  Rw.LOOP_SLOT_LIM_HI,
  Rw.LOOP_SLOT_I_PRESET,
  Rw.LOOP_SLOT_FLAGS,
  Rw.LOOP_SLOT_OUT,
  Rw.LOOP_SLOT_I,
  Rw.LOOP_SLOT_IN,
  Rw.LOOP_SLOT_FF,
  Rw.LOOP_SEC_B0,
  Rw.LOOP_SEC_B1,
  Rw.LOOP_SEC_B2,
  Rw.LOOP_SEC_A1,
  Rw.LOOP_SEC_A2,
  Rw.LOOP_SEC_SH]

def Rw.FIR_POOL : Row := ⟨0x90000, 0x0, 1, .ro, .imm, 0x0, 0x3FF3FFF, 0x0, 0x0, []⟩
def Rw.FIR_COEF_SEL : Row := ⟨0x90010, 0x0, 1, .rw, .imm, 0x0, 0x3F, 0x0, 0x0, [(5, 0, .range 0 47)]⟩
def Rw.FIR_COEF : Row := ⟨0x94000, 0x4, 768, .rw, .imm, 0x0, 0xFFFFFFFF, 0x0, 0x0, []⟩
def Rw.FIR_CH_CFG : Row := ⟨0x90100, 0x20, 48, .ro, .imm, 0x0, 0x7FFFFFF, 0x0, 0x0, []⟩
def Rw.FIR_CH_DELAY : Row := ⟨0x90104, 0x20, 48, .rws, .atLeg, 0x0, 0xFFFF, 0x0, 0x0, []⟩
def Rw.FIR_CH_GD_ACT : Row := ⟨0x90108, 0x20, 48, .ro, .imm, 0x0, 0x3FFFF, 0x0, 0x0, []⟩
def Rw.FIR_CH_GD_INACT : Row := ⟨0x9010C, 0x20, 48, .rw, .imm, 0x0, 0x3FFFF, 0x0, 0x0, []⟩
def Rw.FIR_CH_FADE : Row := ⟨0x90110, 0x20, 48, .rws, .atLeg, 0x0, 0x800007FF, 0x0, 0x0, []⟩
def Rw.FIR_CH_STATUS : Row := ⟨0x90114, 0x20, 48, .ro, .pace, 0x0, 0x37FFF, 0x30000, 0x0, []⟩
/-- Block 0x09_0000. -/
def rows_fir : List Row := [
  Rw.FIR_POOL,
  Rw.FIR_COEF_SEL,
  Rw.FIR_COEF,
  Rw.FIR_CH_CFG,
  Rw.FIR_CH_DELAY,
  Rw.FIR_CH_GD_ACT,
  Rw.FIR_CH_GD_INACT,
  Rw.FIR_CH_FADE,
  Rw.FIR_CH_STATUS]

def Rw.SNS_SMP_CFG : Row := ⟨0xA0000, 0x0, 1, .rws, .atLeg, 0x0, 0x1F7, 0x0, 0x0, []⟩
def Rw.SNS_TRIG_PERIOD : Row := ⟨0xA0010, 0x10, 2, .rws, .atLeg, 0x0, 0xFFFFF, 0x0, 0x0, []⟩
def Rw.SNS_TRIG_PHASE : Row := ⟨0xA0014, 0x10, 2, .rws, .atLeg, 0x0, 0xFFFFF, 0x0, 0x0, []⟩
def Rw.SNS_TRIG_CTL : Row := ⟨0xA0018, 0x10, 2, .rws, .atLeg, 0x0, 0x3FFFF, 0x0, 0x0, []⟩
def Rw.SNS_CNT_CLR : Row := ⟨0xA0030, 0x0, 1, .wo, .imm, 0x0, 0x7FF, 0x0, 0x0, [(10, 8, .range 0 4), (5, 0, .range 0 47)]⟩
def Rw.SNS_PORT_CFG : Row := ⟨0xA0100, 0x40, 5, .rws, .atLeg, 0x0, 0x3FFF, 0x0, 0x0, [(7, 6, .range 0 2), (5, 4, .range 0 2), (3, 0, .range 0 8)]⟩
def Rw.SNS_PORT_STATUS : Row := ⟨0xA0104, 0x40, 5, .ro, .imm, 0x0, 0x1FF07, 0x0, 0x0, []⟩
def Rw.SNS_PORT_ERR_FRAME : Row := ⟨0xA0108, 0x40, 5, .ro, .pace, 0x0, 0x1FFFF, 0x0, 0x0, []⟩
def Rw.SNS_PORT_ERR_CHECK : Row := ⟨0xA010C, 0x40, 5, .ro, .pace, 0x0, 0x1FFFF, 0x0, 0x0, []⟩
def Rw.SNS_PORT_ERR_OVERRUN : Row := ⟨0xA0110, 0x40, 5, .ro, .pace, 0x0, 0x1FFFF, 0x0, 0x0, []⟩
def Rw.SNS_PORT_ERR_OTHER : Row := ⟨0xA0114, 0x40, 5, .ro, .pace, 0x0, 0x1FFFF, 0x0, 0x0, []⟩
def Rw.SNS_PORT_TXDATA : Row := ⟨0xA0120, 0x40, 5, .wo, .imm, 0x0, 0xFF, 0x0, 0x0, []⟩
def Rw.SNS_STR_LAT : Row := ⟨0xA1004, 0x20, 48, .rws, .atLeg, 0x0, 0xFFFFF, 0x0, 0x0, []⟩
def Rw.SNS_STR_STATUS : Row := ⟨0xA1008, 0x20, 48, .ro, .pace, 0x0, 0xF, 0x0, 0x0, []⟩
def Rw.SNS_STR_SKEW : Row := ⟨0xA100C, 0x20, 48, .ro, .leg, 0x0, 0xFFFFFFFF, 0x0, 0x0, []⟩
def Rw.SNS_STR_TRACK : Row := ⟨0xA1010, 0x20, 48, .ro, .leg, 0x0, 0xFFFF, 0x0, 0x0, []⟩
def Rw.SNS_STR_SLIP : Row := ⟨0xA1014, 0x20, 48, .ro, .leg, 0x0, 0x1FFFF, 0x0, 0x0, []⟩
def Rw.SNS_STR_GAP : Row := ⟨0xA1018, 0x20, 48, .ro, .leg, 0x0, 0x1FFFF, 0x0, 0x0, []⟩
def Rw.SNS_STR_DISCARD : Row := ⟨0xA101C, 0x20, 48, .ro, .leg, 0x0, 0x1FFFF, 0x0, 0x0, []⟩
/-- Block 0x0A_0000. -/
def rows_sns : List Row := [
  Rw.SNS_SMP_CFG,
  Rw.SNS_TRIG_PERIOD,
  Rw.SNS_TRIG_PHASE,
  Rw.SNS_TRIG_CTL,
  Rw.SNS_CNT_CLR,
  Rw.SNS_PORT_CFG,
  Rw.SNS_PORT_STATUS,
  Rw.SNS_PORT_ERR_FRAME,
  Rw.SNS_PORT_ERR_CHECK,
  Rw.SNS_PORT_ERR_OVERRUN,
  Rw.SNS_PORT_ERR_OTHER,
  Rw.SNS_PORT_TXDATA,
  Rw.SNS_STR_LAT,
  Rw.SNS_STR_STATUS,
  Rw.SNS_STR_SKEW,
  Rw.SNS_STR_TRACK,
  Rw.SNS_STR_SLIP,
  Rw.SNS_STR_GAP,
  Rw.SNS_STR_DISCARD]

def Rw.FUS_CTL : Row := ⟨0xB0000, 0x0, 1, .rws, .atLeg, 0xF, 0xF, 0x0, 0x0, []⟩
def Rw.FUS_GATE : Row := ⟨0xB0004, 0x0, 1, .rws, .atLeg, 0xAD40DD2, 0xFFFFFFFF, 0x0, 0x0, []⟩
def Rw.FUS_VOTE : Row := ⟨0xB0008, 0x0, 1, .rws, .atLeg, 0x400C8064, 0xFFFFFFFF, 0x0, 0x0, []⟩
def Rw.FUS_TIMING : Row := ⟨0xB000C, 0x0, 1, .rws, .atLeg, 0xA050A0A, 0xFFFFFFFF, 0x0, 0x0, [(31, 24, .range 1 255), (23, 16, .range 1 255), (7, 0, .range 1 255)]⟩
def Rw.FUS_REJECT_T : Row := ⟨0xB0010, 0x0, 1, .rws, .atLeg, 0x78, 0xFFFF, 0x0, 0x0, [(15, 0, .range 10 65535)]⟩
def Rw.FUS_COAST_LIM : Row := ⟨0xB0014, 0x0, 1, .rws, .atLeg, 0x3C001E, 0xFFFFFFFF, 0x0, 0x0, [(31, 16, .range 1 600), (15, 0, .range 1 600)]⟩
def Rw.FUS_BIAS_RATE : Row := ⟨0xB0018, 0x0, 1, .rws, .atLeg, 0xA000032, 0xFF00FFFF, 0x0, 0x0, [(31, 24, .range 1 255)]⟩
def Rw.FUS_AUX_GATE : Row := ⟨0xB001C, 0x0, 1, .rws, .atLeg, 0x140064, 0xFFFFFFFF, 0x0, 0x0, []⟩
def Rw.FUS_DETOUR : Row := ⟨0xB0020, 0x0, 1, .ro, .leg, 0x33, 0xFF7F1777, 0x0, 0x0, []⟩
def Rw.FUS_COAST : Row := ⟨0xB0024, 0x0, 1, .ro, .leg, 0x0, 0xFFFFFFFF, 0x0, 0x0, []⟩
def Rw.FUS_CMD : Row := ⟨0xB0030, 0x0, 1, .wo, .imm, 0x0, 0xF000001F, 0x0, 0x0, [(31, 28, .range 1 5), (31, 0, .fusCmd)]⟩
def Rw.FUS_STATUS : Row := ⟨0xB0034, 0x0, 1, .ro, .leg, 0x0, 0x3F011F, 0x100, 0x0, []⟩
def Rw.FUS_EST_N : Row := ⟨0xB0040, 0x0, 1, .ro, .leg, 0x0, 0xFFFFFFFF, 0x0, 0x0, []⟩
def Rw.FUS_EST_E : Row := ⟨0xB0044, 0x0, 1, .ro, .leg, 0x0, 0xFFFFFFFF, 0x0, 0x0, []⟩
def Rw.FUS_EST_HDG : Row := ⟨0xB0048, 0x0, 1, .ro, .leg, 0x0, 0xFFFFFFFF, 0x0, 0x0, []⟩
def Rw.FUS_EST_U : Row := ⟨0xB004C, 0x0, 1, .ro, .leg, 0x0, 0xFFFFFFFF, 0x0, 0x0, []⟩
def Rw.FUS_EST_V : Row := ⟨0xB0050, 0x0, 1, .ro, .leg, 0x0, 0xFFFFFFFF, 0x0, 0x0, []⟩
def Rw.FUS_EST_R : Row := ⟨0xB0054, 0x0, 1, .ro, .leg, 0x0, 0xFFFFFFFF, 0x0, 0x0, []⟩
def Rw.FUS_BIAS_N : Row := ⟨0xB0058, 0x0, 1, .ro, .leg, 0x0, 0xFFFFFFFF, 0x0, 0x0, []⟩
def Rw.FUS_BIAS_E : Row := ⟨0xB005C, 0x0, 1, .ro, .leg, 0x0, 0xFFFFFFFF, 0x0, 0x0, []⟩
def Rw.FUS_BIAS_M : Row := ⟨0xB0060, 0x0, 1, .ro, .leg, 0x0, 0xFFFFFFFF, 0x0, 0x0, []⟩
def Rw.FUS_SIGMA_N : Row := ⟨0xB0064, 0x0, 1, .ro, .leg, 0x0, 0xFFFFFFFF, 0x0, 0x0, []⟩
def Rw.FUS_SIGMA_E : Row := ⟨0xB0068, 0x0, 1, .ro, .leg, 0x0, 0xFFFFFFFF, 0x0, 0x0, []⟩
def Rw.FUS_SIGMA_HDG : Row := ⟨0xB006C, 0x0, 1, .ro, .leg, 0x0, 0xFFFFFFFF, 0x0, 0x0, []⟩
def Rw.FUS_ATT_ROLL : Row := ⟨0xB0070, 0x0, 1, .ro, .leg, 0x0, 0xFFFFFFFF, 0x0, 0x0, []⟩
def Rw.FUS_ATT_PITCH : Row := ⟨0xB0074, 0x0, 1, .ro, .leg, 0x0, 0xFFFFFFFF, 0x0, 0x0, []⟩
def Rw.FUS_ATT_HEAVE : Row := ⟨0xB0078, 0x0, 1, .ro, .leg, 0x0, 0xFFFFFFFF, 0x0, 0x0, []⟩
def Rw.FUS_WIND_DIR : Row := ⟨0xB007C, 0x0, 1, .ro, .leg, 0x0, 0xFFFFFFFF, 0x0, 0x0, []⟩
def Rw.FUS_WIND_SPD : Row := ⟨0xB0080, 0x0, 1, .ro, .leg, 0x0, 0xFFFFFFFF, 0x0, 0x0, []⟩
def Rw.FUS_TRK_STATUS : Row := ⟨0xB0100, 0x4, 18, .ro, .leg, 0x0, 0xFFFFFF07, 0x0, 0x0, []⟩
def Rw.FUS_TRK_GATE_FAIL : Row := ⟨0xB0200, 0x8, 18, .ro, .leg, 0x0, 0x1FFFF, 0x0, 0x0, []⟩
def Rw.FUS_TRK_VOTE_OUT : Row := ⟨0xB0204, 0x8, 18, .ro, .leg, 0x0, 0x1FFFF, 0x0, 0x0, []⟩
def Rw.FUS_CNT_CLR : Row := ⟨0xB0300, 0x0, 1, .wo, .imm, 0x0, 0x3FFFF, 0x0, 0x0, []⟩
def Rw.FUS_REF_DEPTH : Row := ⟨0xB0400, 0x4, 8, .rws, .atLeg, 0x0, 0xFFFFFFFF, 0x0, 0x0, []⟩
/-- Block 0x0B_0000. -/
def rows_fus : List Row := [
  Rw.FUS_CTL,
  Rw.FUS_GATE,
  Rw.FUS_VOTE,
  Rw.FUS_TIMING,
  Rw.FUS_REJECT_T,
  Rw.FUS_COAST_LIM,
  Rw.FUS_BIAS_RATE,
  Rw.FUS_AUX_GATE,
  Rw.FUS_DETOUR,
  Rw.FUS_COAST,
  Rw.FUS_CMD,
  Rw.FUS_STATUS,
  Rw.FUS_EST_N,
  Rw.FUS_EST_E,
  Rw.FUS_EST_HDG,
  Rw.FUS_EST_U,
  Rw.FUS_EST_V,
  Rw.FUS_EST_R,
  Rw.FUS_BIAS_N,
  Rw.FUS_BIAS_E,
  Rw.FUS_BIAS_M,
  Rw.FUS_SIGMA_N,
  Rw.FUS_SIGMA_E,
  Rw.FUS_SIGMA_HDG,
  Rw.FUS_ATT_ROLL,
  Rw.FUS_ATT_PITCH,
  Rw.FUS_ATT_HEAVE,
  Rw.FUS_WIND_DIR,
  Rw.FUS_WIND_SPD,
  Rw.FUS_TRK_STATUS,
  Rw.FUS_TRK_GATE_FAIL,
  Rw.FUS_TRK_VOTE_OUT,
  Rw.FUS_CNT_CLR,
  Rw.FUS_REF_DEPTH]

def Rw.GNS_CTL : Row := ⟨0xC0000, 0x0, 1, .rws, .atLeg, 0x0, 0x3F0F, 0x0, 0x0, [(13, 12, .range 0 2)]⟩
def Rw.GNS_STATUS : Row := ⟨0xC0004, 0x0, 1, .ro, .leg, 0x0, 0xFF0F8F33, 0x0, 0x0, []⟩
def Rw.GNS_INTEGRITY : Row := ⟨0xC0008, 0x0, 1, .w1c, .leg, 0x0, 0x7F, 0x7F, 0x0, []⟩
def Rw.GNS_IF_CFG : Row := ⟨0xC0010, 0x4, 4, .rws, .atLeg, 0x4FEC, 0x17FFF, 0x0, 0x0, [(14, 0, .range 12000 28920)]⟩
def Rw.GNS_FE_CMD : Row := ⟨0xC0020, 0x0, 1, .rwp, .imm, 0x0, 0x83003F3F, 0x0, 0x0, [(13, 8, .range 0 32), (5, 0, .range 1 32)]⟩
def Rw.GNS_FE_DATA : Row := ⟨0xC0024, 0x0, 1, .rwp, .imm, 0x0, 0xFFFFFFFF, 0x0, 0x0, []⟩
def Rw.GNS_MASK : Row := ⟨0xC0030, 0x0, 1, .rws, .atLeg, 0x5, 0x1F, 0x0, 0x0, [(4, 0, .range 0 30)]⟩
def Rw.GNS_CHK_RAIM : Row := ⟨0xC0040, 0x0, 1, .rws, .atLeg, 0x500, 0xFFFF, 0x0, 0x0, []⟩
def Rw.GNS_CHK_BAND : Row := ⟨0xC0044, 0x0, 1, .rws, .atLeg, 0x1F4, 0xFFFF, 0x0, 0x0, []⟩
def Rw.GNS_CHK_ANT : Row := ⟨0xC0048, 0x0, 1, .rws, .atLeg, 0x12C, 0xFFFF, 0x0, 0x0, []⟩
def Rw.GNS_CHK_CLK : Row := ⟨0xC004C, 0x0, 1, .rws, .atLeg, 0x64, 0xFFFF, 0x0, 0x0, []⟩
def Rw.GNS_CHK_CN0 : Row := ⟨0xC0050, 0x0, 1, .rws, .atLeg, 0x3200096, 0xFFFFFFFF, 0x0, 0x0, []⟩
def Rw.GNS_CHK_DOP : Row := ⟨0xC0054, 0x0, 1, .rws, .atLeg, 0x12C, 0xFFFF, 0x0, 0x0, []⟩
def Rw.GNS_CHK_CLEAR : Row := ⟨0xC0058, 0x0, 1, .rws, .atLeg, 0xA, 0xFF, 0x0, 0x0, []⟩
def Rw.GNS_NOTCH_CFG : Row := ⟨0xC0060, 0x0, 1, .rws, .atLeg, 0xF0F, 0xFF0F, 0x0, 0x0, []⟩
def Rw.GNS_NOTCH_STATUS : Row := ⟨0xC0160, 0x4, 8, .ro, .leg, 0x0, 0xFF00FFFF, 0x0, 0x0, []⟩
def Rw.GNS_BASE_X : Row := ⟨0xC0080, 0x0, 1, .rws, .atLeg, 0x0, 0xFFFFFFFF, 0x0, 0x0, []⟩
def Rw.GNS_BASE_Y : Row := ⟨0xC0084, 0x0, 1, .rws, .atLeg, 0x0, 0xFFFFFFFF, 0x0, 0x0, []⟩
def Rw.GNS_BASE_Z : Row := ⟨0xC0088, 0x0, 1, .rws, .atLeg, 0x0, 0xFFFFFFFF, 0x0, 0x0, []⟩
def Rw.GNS_BASE_TOL : Row := ⟨0xC008C, 0x0, 1, .rws, .atLeg, 0x14, 0xFFFF, 0x0, 0x0, []⟩
def Rw.GNS_HDG : Row := ⟨0xC0090, 0x0, 1, .ro, .leg, 0x0, 0xFFFFFFFF, 0x0, 0x0, []⟩
def Rw.GNS_HDG_Q : Row := ⟨0xC0094, 0x0, 1, .ro, .leg, 0x0, 0x80FFFFFF, 0x0, 0x0, []⟩
def Rw.GNS_BASE_MEAS : Row := ⟨0xC00A0, 0x4, 3, .ro, .leg, 0x0, 0xFFFFFFFF, 0x0, 0x0, []⟩
def Rw.GNS_PVT_LAT : Row := ⟨0xC00C0, 0x0, 1, .ro, .leg, 0x0, 0xFFFFFFFF, 0x0, 0x0, []⟩
def Rw.GNS_PVT_LON : Row := ⟨0xC00C4, 0x0, 1, .ro, .leg, 0x0, 0xFFFFFFFF, 0x0, 0x0, []⟩
def Rw.GNS_PVT_HGT : Row := ⟨0xC00C8, 0x0, 1, .ro, .leg, 0x0, 0xFFFFFFFF, 0x0, 0x0, []⟩
def Rw.GNS_PVT_Q : Row := ⟨0xC00CC, 0x0, 1, .ro, .leg, 0xFF00, 0xFFFFFF00, 0x0, 0x0, []⟩
def Rw.GNS_RTCM_DATA : Row := ⟨0xC0100, 0x0, 1, .wo, .imm, 0x0, 0xFF, 0x0, 0x0, []⟩
def Rw.GNS_RTCM_STATUS : Row := ⟨0xC0104, 0x0, 1, .ro, .leg, 0xFF00, 0xFFF0FF00, 0x0, 0x0, []⟩
def Rw.GNS_RTCM_ERR : Row := ⟨0xC0108, 0x0, 1, .ro, .pace, 0x0, 0x1FFFF, 0x0, 0x0, []⟩
def Rw.GNS_RTCM_IGNORED : Row := ⟨0xC010C, 0x0, 1, .ro, .pace, 0x0, 0x1FFFF, 0x0, 0x0, []⟩
def Rw.GNS_RTCM_CFG : Row := ⟨0xC0110, 0x0, 1, .rws, .atLeg, 0xA, 0x3F, 0x0, 0x0, [(5, 0, .range 1 60)]⟩
def Rw.GNS_CNT_CLR : Row := ⟨0xC0114, 0x0, 1, .wo, .imm, 0x0, 0x3, 0x0, 0x0, []⟩
def Rw.GNS_PPS_CTL : Row := ⟨0xC0120, 0x0, 1, .rws, .atLeg, 0x64, 0x701FF, 0x0, 0x0, [(8, 0, .range 1 500)]⟩
def Rw.GNS_PPS_OFFSET : Row := ⟨0xC0124, 0x0, 1, .rws, .atLeg, 0x0, 0xFFFF, 0x0, 0x0, [(15, 0, .srange (-500) 500)]⟩
def Rw.GNS_HOLD_U0 : Row := ⟨0xC0130, 0x0, 1, .ro, .imm, 0x0, 0xFFFFFFFF, 0x0, 0x0, []⟩
def Rw.GNS_HOLD_F : Row := ⟨0xC0134, 0x0, 1, .ro, .imm, 0x0, 0xFFFFFFFF, 0x0, 0x0, []⟩
def Rw.GNS_HOLD_A : Row := ⟨0xC0138, 0x0, 1, .ro, .imm, 0x0, 0xFFFFFFFF, 0x0, 0x0, []⟩
def Rw.GNS_HOLD_LIMIT : Row := ⟨0xC013C, 0x0, 1, .rws, .atLeg, 0x258, 0xFFFF, 0x0, 0x0, [(15, 0, .range 60 65535)]⟩
def Rw.GNS_HOLD_U : Row := ⟨0xC0140, 0x0, 1, .ro, .pace, 0x0, 0xFFFFFFFF, 0x0, 0x0, []⟩
def Rw.GNS_TIME_RET : Row := ⟨0xC0144, 0x0, 1, .ro, .leg, 0x0, 0xF, 0x0, 0x0, []⟩
def Rw.GNS_TIME_OFFSET : Row := ⟨0xC0148, 0x0, 1, .ro, .leg, 0x0, 0xFFFFFFFF, 0x0, 0x0, []⟩
def Rw.GNS_VERGE : Row := ⟨0xC0150, 0x0, 1, .ro, .imm, 0x10, 0xFF001F, 0x0, 0x0, []⟩
def Rw.GNS_CH_STATUS : Row := ⟨0xC1000, 0x4, 192, .ro, .leg, 0x0, 0xFFFFC0FF, 0x0, 0x0, []⟩
/-- Block 0x0C_0000. -/
def rows_gns : List Row := [
  Rw.GNS_CTL,
  Rw.GNS_STATUS,
  Rw.GNS_INTEGRITY,
  Rw.GNS_IF_CFG,
  Rw.GNS_FE_CMD,
  Rw.GNS_FE_DATA,
  Rw.GNS_MASK,
  Rw.GNS_CHK_RAIM,
  Rw.GNS_CHK_BAND,
  Rw.GNS_CHK_ANT,
  Rw.GNS_CHK_CLK,
  Rw.GNS_CHK_CN0,
  Rw.GNS_CHK_DOP,
  Rw.GNS_CHK_CLEAR,
  Rw.GNS_NOTCH_CFG,
  Rw.GNS_NOTCH_STATUS,
  Rw.GNS_BASE_X,
  Rw.GNS_BASE_Y,
  Rw.GNS_BASE_Z,
  Rw.GNS_BASE_TOL,
  Rw.GNS_HDG,
  Rw.GNS_HDG_Q,
  Rw.GNS_BASE_MEAS,
  Rw.GNS_PVT_LAT,
  Rw.GNS_PVT_LON,
  Rw.GNS_PVT_HGT,
  Rw.GNS_PVT_Q,
  Rw.GNS_RTCM_DATA,
  Rw.GNS_RTCM_STATUS,
  Rw.GNS_RTCM_ERR,
  Rw.GNS_RTCM_IGNORED,
  Rw.GNS_RTCM_CFG,
  Rw.GNS_CNT_CLR,
  Rw.GNS_PPS_CTL,
  Rw.GNS_PPS_OFFSET,
  Rw.GNS_HOLD_U0,
  Rw.GNS_HOLD_F,
  Rw.GNS_HOLD_A,
  Rw.GNS_HOLD_LIMIT,
  Rw.GNS_HOLD_U,
  Rw.GNS_TIME_RET,
  Rw.GNS_TIME_OFFSET,
  Rw.GNS_VERGE,
  Rw.GNS_CH_STATUS]

def Rw.TIM_STATUS : Row := ⟨0xD0000, 0x0, 1, .ro, .imm, 0x0, 0x170703, 0x100000, 0x0, []⟩
def Rw.TIM_SRC : Row := ⟨0xD0004, 0x0, 1, .rws, .atLeg, 0x0, 0x777, 0x0, 0x0, [(10, 8, .range 0 4), (6, 4, .range 0 4), (2, 0, .range 0 4)]⟩
def Rw.TIM_JUMP_TH : Row := ⟨0xD0008, 0x0, 1, .rws, .atLeg, 0x3E8, 0xFFFFF, 0x0, 0x0, [(19, 0, .range 100 1000000)]⟩
def Rw.TIM_SLEW : Row := ⟨0xD000C, 0x0, 1, .rws, .atLeg, 0x64, 0xFF, 0x0, 0x0, [(7, 0, .range 10 100)]⟩
def Rw.TIM_JUMP_CTL : Row := ⟨0xD0010, 0x0, 1, .wop, .imm, 0x0, 0x1, 0x0, 0x0, []⟩
def Rw.TIM_JUMP_OFF_LO : Row := ⟨0xD0014, 0x0, 1, .ros, .imm, 0x0, 0xFFFFFFFF, 0x0, 0x0, []⟩
def Rw.TIM_JUMP_OFF_HI : Row := ⟨0xD0018, 0x0, 1, .ro, .imm, 0x0, 0xFFFFFFFF, 0x0, 0x0, []⟩
def Rw.TIM_OFFSET : Row := ⟨0xD001C, 0x0, 1, .ro, .leg, 0x0, 0xFFFFFFFF, 0x0, 0x0, []⟩
def Rw.TIM_FREQ : Row := ⟨0xD0020, 0x0, 1, .ro, .leg, 0x0, 0xFFFFFFFF, 0x0, 0x0, []⟩
def Rw.TIM_NOW_NS : Row := ⟨0xD0024, 0x0, 1, .ro, .imm, 0x0, 0xFFFFFFFF, 0x0, 0x0, []⟩
def Rw.TIM_NOW_SEC_LO : Row := ⟨0xD0028, 0x0, 1, .ro, .imm, 0x0, 0xFFFFFFFF, 0x0, 0x0, []⟩
def Rw.TIM_NOW_SEC_HI : Row := ⟨0xD002C, 0x0, 1, .ro, .imm, 0x0, 0xFFFF, 0x0, 0x0, []⟩
def Rw.TIM_UTC : Row := ⟨0xD0030, 0x0, 1, .rw, .imm, 0x0, 0x8303FFFF, 0x0, 0x80030000, [(25, 24, .range 0 2)]⟩
def Rw.TIM_PTP_CFG : Row := ⟨0xD0040, 0x0, 1, .rws, .atLeg, 0x8080000D, 0xFFFFFF0F, 0x0, 0x0, [(15, 8, .range 0 127)]⟩
def Rw.TIM_PTP_INTV : Row := ⟨0xD0044, 0x0, 1, .rws, .atLeg, 0x30010, 0xFFFFF, 0x0, 0x0, [(19, 16, .range 2 15), (15, 12, .srange (-4) 2), (11, 8, .srange (-4) 2), (7, 4, .range 0 3), (3, 0, .srange (-4) 1)]⟩
def Rw.TIM_PTP_GM_LO : Row := ⟨0xD0048, 0x0, 1, .ros, .leg, 0x0, 0xFFFFFFFF, 0x0, 0x0, []⟩
def Rw.TIM_PTP_GM_HI : Row := ⟨0xD004C, 0x0, 1, .ro, .leg, 0x0, 0xFFFFFFFF, 0x0, 0x0, []⟩
def Rw.TIM_JUMPS : Row := ⟨0xD0050, 0x0, 1, .ro, .pace, 0x0, 0x1FFFF, 0x0, 0x0, []⟩
def Rw.TIM_CNT_CLR : Row := ⟨0xD0054, 0x0, 1, .wo, .imm, 0x0, 0x1, 0x0, 0x0, []⟩
/-- Block 0x0D_0000. -/
def rows_tim : List Row := [
  Rw.TIM_STATUS,
  Rw.TIM_SRC,
  Rw.TIM_JUMP_TH,
  Rw.TIM_SLEW,
  Rw.TIM_JUMP_CTL,
  Rw.TIM_JUMP_OFF_LO,
  Rw.TIM_JUMP_OFF_HI,
  Rw.TIM_OFFSET,
  Rw.TIM_FREQ,
  Rw.TIM_NOW_NS,
  Rw.TIM_NOW_SEC_LO,
  Rw.TIM_NOW_SEC_HI,
  Rw.TIM_UTC,
  Rw.TIM_PTP_CFG,
  Rw.TIM_PTP_INTV,
  Rw.TIM_PTP_GM_LO,
  Rw.TIM_PTP_GM_HI,
  Rw.TIM_JUMPS,
  Rw.TIM_CNT_CLR]

def Rw.FBK_PDIV_CFG : Row := ⟨0xE0000, 0x4, 2, .rws, .atLeg, 0x0, 0xFFFF0073, 0x0, 0x0, [(6, 4, .range 0 5), (1, 0, .range 0 2)]⟩
def Rw.FBK_CNT_CLR : Row := ⟨0xE0010, 0x0, 1, .wo, .imm, 0x0, 0x3F3F, 0x0, 0x0, []⟩
def Rw.FB_CFG : Row := ⟨0xE0100, 0x80, 6, .rws, .atLeg, 0x320A0300, 0xFFFFFF7F, 0x0, 0x0, [(31, 24, .range 1 255), (23, 16, .range 1 255), (2, 0, .range 0 4)]⟩
def Rw.FB_POS : Row := ⟨0xE0104, 0x80, 6, .ro, .imm, 0x0, 0xFFFFFFFF, 0x0, 0x0, []⟩
def Rw.FB_FLAGS : Row := ⟨0xE0108, 0x80, 6, .w1c, .imm, 0x0, 0xF, 0xF, 0x0, []⟩
def Rw.FB_WM_POS : Row := ⟨0xE0110, 0x80, 6, .ro, .pace, 0x0, 0xFFFFFFFF, 0x0, 0x0, []⟩
def Rw.FB_WM_NS : Row := ⟨0xE0114, 0x80, 6, .ro, .pace, 0x0, 0xFFFFFFFF, 0x0, 0x0, []⟩
def Rw.FB_WM_SEC_LO : Row := ⟨0xE0118, 0x80, 6, .ros, .pace, 0x0, 0xFFFFFFFF, 0x0, 0x0, []⟩
def Rw.FB_WM_SEC_HI : Row := ⟨0xE011C, 0x80, 6, .ro, .pace, 0x0, 0xFFFF, 0x0, 0x0, []⟩
def Rw.FB_SPEED : Row := ⟨0xE0120, 0x80, 6, .ro, .pace, 0x0, 0xFFFFFFFF, 0x0, 0x0, []⟩
def Rw.FB_STATE : Row := ⟨0xE0124, 0x80, 6, .ro, .pace, 0x4, 0x7F, 0x0, 0x0, []⟩
def Rw.FB_ILLEGAL : Row := ⟨0xE0128, 0x80, 6, .ro, .pace, 0x0, 0x1FFFF, 0x0, 0x0, []⟩
def Rw.FB_CMP : Row := ⟨0xE0130, 0x80, 6, .rw, .imm, 0x0, 0xFFFFFFFF, 0x0, 0x0, []⟩
def Rw.FB_CMP_STEP : Row := ⟨0xE0134, 0x80, 6, .rw, .imm, 0x1, 0x3FFFFFFF, 0x0, 0x0, [(29, 0, .range 1 1073741823)]⟩
def Rw.FB_CMP_CTL : Row := ⟨0xE0138, 0x80, 6, .rw, .imm, 0x0, 0x7, 0x0, 0x0, []⟩
def Rw.FB_CMP_STATUS : Row := ⟨0xE013C, 0x80, 6, .ro, .imm, 0x0, 0xF, 0x8, 0x0, []⟩
def Rw.FB_CMP_WM_POS : Row := ⟨0xE0140, 0x80, 6, .ro, .pace, 0x0, 0xFFFFFFFF, 0x0, 0x0, []⟩
def Rw.FB_CMP_WM_NS : Row := ⟨0xE0144, 0x80, 6, .ro, .pace, 0x0, 0xFFFFFFFF, 0x0, 0x0, []⟩
def Rw.FB_CMP_WM_SEC_LO : Row := ⟨0xE0148, 0x80, 6, .ros, .pace, 0x0, 0xFFFFFFFF, 0x0, 0x0, []⟩
def Rw.FB_CMP_WM_SEC_HI : Row := ⟨0xE014C, 0x80, 6, .ro, .pace, 0x0, 0xFFFF, 0x0, 0x0, []⟩
def Rw.FB_IDX_WM_POS : Row := ⟨0xE0150, 0x80, 6, .ro, .pace, 0x0, 0xFFFFFFFF, 0x0, 0x0, []⟩
def Rw.FB_IDX_WM_NS : Row := ⟨0xE0154, 0x80, 6, .ro, .pace, 0x0, 0xFFFFFFFF, 0x0, 0x0, []⟩
def Rw.FB_IDX_WM_SEC_LO : Row := ⟨0xE0158, 0x80, 6, .ros, .pace, 0x0, 0xFFFFFFFF, 0x0, 0x0, []⟩
def Rw.FB_IDX_WM_SEC_HI : Row := ⟨0xE015C, 0x80, 6, .ro, .pace, 0x0, 0xFFFF, 0x0, 0x0, []⟩
def Rw.FB_CMP_FIRES : Row := ⟨0xE0160, 0x80, 6, .ro, .pace, 0x0, 0x1FFFF, 0x0, 0x0, []⟩
/-- Block 0x0E_0000. -/
def rows_fbk : List Row := [
  Rw.FBK_PDIV_CFG,
  Rw.FBK_CNT_CLR,
  Rw.FB_CFG,
  Rw.FB_POS,
  Rw.FB_FLAGS,
  Rw.FB_WM_POS,
  Rw.FB_WM_NS,
  Rw.FB_WM_SEC_LO,
  Rw.FB_WM_SEC_HI,
  Rw.FB_SPEED,
  Rw.FB_STATE,
  Rw.FB_ILLEGAL,
  Rw.FB_CMP,
  Rw.FB_CMP_STEP,
  Rw.FB_CMP_CTL,
  Rw.FB_CMP_STATUS,
  Rw.FB_CMP_WM_POS,
  Rw.FB_CMP_WM_NS,
  Rw.FB_CMP_WM_SEC_LO,
  Rw.FB_CMP_WM_SEC_HI,
  Rw.FB_IDX_WM_POS,
  Rw.FB_IDX_WM_NS,
  Rw.FB_IDX_WM_SEC_LO,
  Rw.FB_IDX_WM_SEC_HI,
  Rw.FB_CMP_FIRES]

def Rw.LANE_CTL : Row := ⟨0xF0000, 0x400, 64, .rws, .atPace, 0x0, 0x3, 0x0, 0x0, []⟩
def Rw.LANE_STATE : Row := ⟨0xF0004, 0x400, 64, .ro, .pace, 0x0, 0x1FF7, 0x1000, 0x0, []⟩
def Rw.LANE_AZ : Row := ⟨0xF0008, 0x400, 64, .ro, .pace, 0x0, 0xFFFFFFFF, 0x0, 0x0, []⟩
def Rw.LANE_T : Row := ⟨0xF000C, 0x400, 64, .ro, .pace, 0x0, 0xFFFFFFFF, 0x0, 0x0, []⟩
def Rw.LANE_AZ_RATE : Row := ⟨0xF0010, 0x400, 64, .ro, .pace, 0x0, 0xFFFFFFFF, 0x0, 0x0, []⟩
def Rw.LANE_CMD_AZ : Row := ⟨0xF0014, 0x400, 64, .ro, .pace, 0x0, 0xFFFFFFFF, 0x0, 0x0, []⟩
def Rw.LANE_CMD_T : Row := ⟨0xF0018, 0x400, 64, .ro, .pace, 0x0, 0xFFFFFFFF, 0x0, 0x0, []⟩
def Rw.LANE_U_AZ : Row := ⟨0xF001C, 0x400, 64, .ro, .pace, 0x0, 0xFFFFFFFF, 0x0, 0x0, []⟩
def Rw.LANE_U_T : Row := ⟨0xF0020, 0x400, 64, .ro, .pace, 0x0, 0xFFFFFFFF, 0x0, 0x0, []⟩
def Rw.LANE_AZ_SET : Row := ⟨0xF0024, 0x400, 64, .rws, .atPace, 0x0, 0xFFFFFFFF, 0x0, 0x0, []⟩
def Rw.LANE_AUX_SP : Row := ⟨0xF0028, 0x400, 64, .rws, .atPace, 0x0, 0xFFFFFFFF, 0x0, 0x0, []⟩
def Rw.LANE_FAULTS : Row := ⟨0xF002C, 0x400, 64, .ro, .pace, 0x0, 0x1FFFF, 0x0, 0x0, []⟩
def Rw.LANE_CNT_CLR : Row := ⟨0xF0030, 0x400, 64, .wo, .imm, 0x0, 0x1, 0x0, 0x0, []⟩
def Rw.LANE_BIND : Row := ⟨0xF0100, 0x400, 64, .ro, .imm, 0x0, 0x17F7FF7, 0x0, 0x0, []⟩
def Rw.LANE_CMD_DEST : Row := ⟨0xF0104, 0x400, 64, .ro, .imm, 0x0, 0xFFFF000F, 0x0, 0x0, []⟩
def Rw.LANE_FB_REMOTE : Row := ⟨0xF0108, 0x400, 64, .ro, .imm, 0x0, 0xFFFF00FF, 0x0, 0x0, []⟩
def Rw.LANE_SAFE : Row := ⟨0xF010C, 0x400, 64, .ro, .imm, 0x0, 0xFFFF0F3F, 0x0, 0x0, []⟩
def Rw.LANE_CPR : Row := ⟨0xF0110, 0x400, 64, .ro, .imm, 0x0, 0xFFFFFF, 0x0, 0x0, []⟩
def Rw.LANE_HOME : Row := ⟨0xF0114, 0x400, 64, .ro, .imm, 0x0, 0xFFFFFF, 0x0, 0x0, []⟩
def Rw.LANE_THRUST_K : Row := ⟨0xF0118, 0x400, 64, .ro, .imm, 0x0, 0xFFFFFFFF, 0x0, 0x0, []⟩
def Rw.LANE_FOLLOW : Row := ⟨0xF011C, 0x400, 64, .ro, .imm, 0x0, 0xFFFFFFFF, 0x0, 0x0, []⟩
def Rw.LANE_RAMP : Row := ⟨0xF0120, 0x400, 64, .ro, .imm, 0x0, 0xFFFF, 0x0, 0x0, []⟩
/-- Block 0x0F_0000. -/
def rows_lane : List Row := [
  Rw.LANE_CTL,
  Rw.LANE_STATE,
  Rw.LANE_AZ,
  Rw.LANE_T,
  Rw.LANE_AZ_RATE,
  Rw.LANE_CMD_AZ,
  Rw.LANE_CMD_T,
  Rw.LANE_U_AZ,
  Rw.LANE_U_T,
  Rw.LANE_AZ_SET,
  Rw.LANE_AUX_SP,
  Rw.LANE_FAULTS,
  Rw.LANE_CNT_CLR,
  Rw.LANE_BIND,
  Rw.LANE_CMD_DEST,
  Rw.LANE_FB_REMOTE,
  Rw.LANE_SAFE,
  Rw.LANE_CPR,
  Rw.LANE_HOME,
  Rw.LANE_THRUST_K,
  Rw.LANE_FOLLOW,
  Rw.LANE_RAMP]

def Rw.KRB_STATUS : Row := ⟨0x100000, 0x0, 1, .ro, .pace, 0x0, 0xFF0F0303, 0x40000, 0x0, []⟩
def Rw.KRB_SEAL : Row := ⟨0x100004, 0x0, 1, .ro, .imm, 0x0, 0xFFFFFFFF, 0x0, 0x0, []⟩
def Rw.KRB_SEAL_LAST : Row := ⟨0x100008, 0x0, 1, .ro, .imm, 0x0, 0xFFFFFFFF, 0x0, 0x0, []⟩
def Rw.KRB_FATAL : Row := ⟨0x10000C, 0x0, 1, .ro, .imm, 0x0, 0xF, 0x0, 0x0, []⟩
def Rw.KRB_SO_EN : Row := ⟨0x100010, 0x0, 1, .rwp, .imm, 0x0, 0xF, 0x0, 0x0, []⟩
def Rw.KRB_ACK : Row := ⟨0x100014, 0x0, 1, .wop, .imm, 0x0, 0xFF803F, 0x0, 0x0, []⟩
def Rw.KRB_SO_STATUS : Row := ⟨0x100020, 0x4, 4, .ro, .pace, 0x0, 0xF3FF7, 0x0, 0x0, []⟩
def Rw.KRB_TRIPS : Row := ⟨0x100040, 0x0, 1, .ro, .pace, 0x0, 0x1FFFF, 0x0, 0x0, []⟩
def Rw.KRB_CMD_VIOL : Row := ⟨0x100044, 0x0, 1, .ro, .pace, 0x0, 0x1FFFF, 0x0, 0x0, []⟩
def Rw.KRB_PREALARM_WITHDRAWN : Row := ⟨0x100048, 0x0, 1, .ro, .pace, 0x0, 0x1FFFF, 0x0, 0x0, []⟩
def Rw.KRB_TEST_DISCARD : Row := ⟨0x10004C, 0x0, 1, .ro, .pace, 0x0, 0x1FFFF, 0x0, 0x0, []⟩
def Rw.KRB_SEAL_UNSTABLE : Row := ⟨0x100050, 0x0, 1, .ro, .pace, 0x0, 0x1FFFF, 0x0, 0x0, []⟩
def Rw.KRB_CNT_CLR : Row := ⟨0x100060, 0x0, 1, .wo, .imm, 0x0, 0x1F, 0x0, 0x0, []⟩
def Rw.KRB_CONN_CLR : Row := ⟨0x100064, 0x0, 1, .wo, .imm, 0x0, 0x1FF, 0x0, 0x0, []⟩
def Rw.KRB_LANE_STATUS : Row := ⟨0x101000, 0x20, 64, .ro, .pace, 0x0, 0x5FF, 0x0, 0x0, []⟩
def Rw.KRB_LANE_AZ_P : Row := ⟨0x101004, 0x20, 64, .ro, .pace, 0x0, 0xFFFFFFFF, 0x0, 0x0, []⟩
def Rw.KRB_LANE_AZ_L : Row := ⟨0x101008, 0x20, 64, .ro, .pace, 0x0, 0xFFFFFFFF, 0x0, 0x0, []⟩
def Rw.KRB_LANE_T_P : Row := ⟨0x10100C, 0x20, 64, .ro, .pace, 0x0, 0xFFFFFFFF, 0x0, 0x0, []⟩
def Rw.KRB_LANE_T_L : Row := ⟨0x101010, 0x20, 64, .ro, .pace, 0x0, 0xFFFFFFFF, 0x0, 0x0, []⟩
def Rw.KRB_CONN_STATUS : Row := ⟨0x104000, 0x10, 256, .ro, .pace, 0x0, 0xFFFFFFF7, 0x0, 0x0, []⟩
def Rw.KRB_CONN_CRC_ERR : Row := ⟨0x104004, 0x10, 256, .ro, .pace, 0x0, 0x1FFFF, 0x0, 0x0, []⟩
def Rw.KRB_CONN_SEQ_ERR : Row := ⟨0x104008, 0x10, 256, .ro, .pace, 0x0, 0x1FFFF, 0x0, 0x0, []⟩
def Rw.KRB_CONN_TIMEOUTS : Row := ⟨0x10400C, 0x10, 256, .ro, .pace, 0x0, 0x1FFFF, 0x0, 0x0, []⟩
/-- Block 0x10_0000. -/
def rows_krb : List Row := [
  Rw.KRB_STATUS,
  Rw.KRB_SEAL,
  Rw.KRB_SEAL_LAST,
  Rw.KRB_FATAL,
  Rw.KRB_SO_EN,
  Rw.KRB_ACK,
  Rw.KRB_SO_STATUS,
  Rw.KRB_TRIPS,
  Rw.KRB_CMD_VIOL,
  Rw.KRB_PREALARM_WITHDRAWN,
  Rw.KRB_TEST_DISCARD,
  Rw.KRB_SEAL_UNSTABLE,
  Rw.KRB_CNT_CLR,
  Rw.KRB_CONN_CLR,
  Rw.KRB_LANE_STATUS,
  Rw.KRB_LANE_AZ_P,
  Rw.KRB_LANE_AZ_L,
  Rw.KRB_LANE_T_P,
  Rw.KRB_LANE_T_L,
  Rw.KRB_CONN_STATUS,
  Rw.KRB_CONN_CRC_ERR,
  Rw.KRB_CONN_SEQ_ERR,
  Rw.KRB_CONN_TIMEOUTS]

def Rw.RING_CFG : Row := ⟨0x110000, 0x0, 1, .ro, .imm, 0x5000, 0xFFFFF000, 0x0, 0x0, []⟩
def Rw.RING_ETYPE : Row := ⟨0x110004, 0x0, 1, .ro, .imm, 0x0, 0xFFFF, 0x0, 0x0, []⟩
def Rw.RING_CTL : Row := ⟨0x110008, 0x0, 1, .rwp, .imm, 0x0, 0x33, 0x0, 0x0, []⟩
def Rw.RING_STATUS : Row := ⟨0x11000C, 0x0, 1, .ro, .imm, 0x0, 0xFFFF0F73, 0x0, 0x0, []⟩
def Rw.RING_CYCLE : Row := ⟨0x110010, 0x0, 1, .ro, .imm, 0x0, 0xFFFFFFFF, 0x0, 0x0, []⟩
def Rw.RING_NODES_A : Row := ⟨0x110020, 0x4, 8, .ro, .pace, 0x0, 0xFFFFFFFF, 0x0, 0x0, []⟩
def Rw.RING_NODES_B : Row := ⟨0x110040, 0x4, 8, .ro, .pace, 0x0, 0xFFFFFFFF, 0x0, 0x0, []⟩
def Rw.RING_CNT_CLR : Row := ⟨0x110060, 0x0, 1, .wo, .imm, 0x0, 0x30F, 0x0, 0x0, []⟩
def Rw.RING_BREAKS : Row := ⟨0x110064, 0x0, 1, .ro, .pace, 0x0, 0x1FFFF, 0x0, 0x0, []⟩
def Rw.RING_MGMT_LOST : Row := ⟨0x110068, 0x0, 1, .ro, .pace, 0x0, 0x1FFFF, 0x0, 0x0, []⟩
def Rw.RING_MGMT_TX_HDR : Row := ⟨0x110080, 0x0, 1, .rwp, .imm, 0x0, 0xFFFFFF07, 0x0, 0x0, [(1, 0, .range 0 2)]⟩
def Rw.RING_MGMT_TX_CTL : Row := ⟨0x110084, 0x0, 1, .rwp, .imm, 0x0, 0x87FFFFFF, 0x0, 0x0, [(26, 16, .range 0 1024)]⟩
def Rw.RING_MGMT_RX_STATUS : Row := ⟨0x110088, 0x0, 1, .ro, .imm, 0x0, 0x87FFFFFF, 0x0, 0x0, []⟩
def Rw.RING_MGMT_RX_HDR : Row := ⟨0x11008C, 0x0, 1, .ro, .imm, 0x0, 0xFFFFFF03, 0x0, 0x0, []⟩
def Rw.RING_MGMT_RX_POP : Row := ⟨0x110090, 0x0, 1, .wo, .imm, 0x0, 0x1, 0x0, 0x0, []⟩
def Rw.RING_PORT_STATUS : Row := ⟨0x110100, 0x40, 4, .ro, .imm, 0xFFFF0000, 0xFFFF003E, 0x0, 0x0, []⟩
def Rw.RING_PORT_FCS_ERR : Row := ⟨0x110104, 0x40, 4, .ro, .pace, 0x0, 0x1FFFF, 0x0, 0x0, []⟩
def Rw.RING_PORT_FOREIGN : Row := ⟨0x110108, 0x40, 4, .ro, .pace, 0x0, 0x1FFFF, 0x0, 0x0, []⟩
def Rw.RING_PORT_HOPS_EXPIRED : Row := ⟨0x11010C, 0x40, 4, .ro, .pace, 0x0, 0x1FFFF, 0x0, 0x0, []⟩
def Rw.RING_PORT_BAD_STAMP : Row := ⟨0x110110, 0x40, 4, .ro, .pace, 0x0, 0x1FFFF, 0x0, 0x0, []⟩
def Rw.RING_PORT_LATE : Row := ⟨0x110114, 0x40, 4, .ro, .pace, 0x0, 0x1FFFF, 0x0, 0x0, []⟩
def Rw.RING_NODE_STATUS : Row := ⟨0x111000, 0x4, 256, .ro, .pace, 0x0, 0x7FFFF, 0x0, 0x0, []⟩
def Rw.RING_MGMT_TXBUF : Row := ⟨0x112000, 0x4, 256, .rwp, .imm, 0x0, 0xFFFFFFFF, 0x0, 0x0, []⟩
def Rw.RING_MGMT_RXBUF : Row := ⟨0x112400, 0x4, 256, .ro, .imm, 0x0, 0xFFFFFFFF, 0x0, 0x0, []⟩
/-- Block 0x11_0000. -/
def rows_ring : List Row := [
  Rw.RING_CFG,
  Rw.RING_ETYPE,
  Rw.RING_CTL,
  Rw.RING_STATUS,
  Rw.RING_CYCLE,
  Rw.RING_NODES_A,
  Rw.RING_NODES_B,
  Rw.RING_CNT_CLR,
  Rw.RING_BREAKS,
  Rw.RING_MGMT_LOST,
  Rw.RING_MGMT_TX_HDR,
  Rw.RING_MGMT_TX_CTL,
  Rw.RING_MGMT_RX_STATUS,
  Rw.RING_MGMT_RX_HDR,
  Rw.RING_MGMT_RX_POP,
  Rw.RING_PORT_STATUS,
  Rw.RING_PORT_FCS_ERR,
  Rw.RING_PORT_FOREIGN,
  Rw.RING_PORT_HOPS_EXPIRED,
  Rw.RING_PORT_BAD_STAMP,
  Rw.RING_PORT_LATE,
  Rw.RING_NODE_STATUS,
  Rw.RING_MGMT_TXBUF,
  Rw.RING_MGMT_RXBUF]

def Rw.RED_CFG : Row := ⟨0x120000, 0x0, 1, .ro, .imm, 0x500, 0xFFFF0F03, 0x0, 0x0, []⟩
def Rw.RED_STATUS : Row := ⟨0x120004, 0x0, 1, .ro, .imm, 0x70000, 0xF700F7, 0x0, 0x0, []⟩
def Rw.RED_CMD : Row := ⟨0x120008, 0x0, 1, .wop, .imm, 0x0, 0x3, 0x0, 0x0, []⟩
def Rw.RED_EPOCH : Row := ⟨0x120010, 0x0, 1, .ro, .pace, 0x0, 0xFFFFFFFF, 0x0, 0x0, []⟩
def Rw.RED_OWNER : Row := ⟨0x120014, 0x0, 1, .ro, .pace, 0x0, 0xFFFF, 0x0, 0x0, []⟩
def Rw.RED_MS_FAST : Row := ⟨0x120018, 0x0, 1, .ro, .pace, 0x0, 0xFFFFFFFF, 0x0, 0x0, []⟩
def Rw.RED_MS_FULL : Row := ⟨0x12001C, 0x0, 1, .ro, .leg, 0x0, 0xFFFFFFFF, 0x0, 0x0, []⟩
def Rw.RED_LAST_TO : Row := ⟨0x120020, 0x0, 1, .ro, .imm, 0x0, 0xFFFFFFFF, 0x0, 0x0, []⟩
def Rw.RED_RESYNC_T : Row := ⟨0x120024, 0x0, 1, .ro, .imm, 0x0, 0xFFFF, 0x0, 0x0, []⟩
def Rw.RED_IMAGE_LO : Row := ⟨0x120028, 0x0, 1, .ros, .imm, 0x0, 0xFFFFFFFF, 0x0, 0x0, []⟩
def Rw.RED_IMAGE_HI : Row := ⟨0x12002C, 0x0, 1, .ro, .imm, 0x0, 0xFFFFFFFF, 0x0, 0x0, []⟩
def Rw.RED_LAYOUT_LO : Row := ⟨0x120030, 0x0, 1, .ros, .imm, 0x0, 0xFFFFFFFF, 0x0, 0x0, []⟩
def Rw.RED_LAYOUT_HI : Row := ⟨0x120034, 0x0, 1, .ro, .imm, 0x0, 0xFFFFFFFF, 0x0, 0x0, []⟩
def Rw.RED_TAKEOVERS : Row := ⟨0x120040, 0x0, 1, .ro, .pace, 0x0, 0x1FFFF, 0x0, 0x0, []⟩
def Rw.RED_DEMOTIONS : Row := ⟨0x120044, 0x0, 1, .ro, .pace, 0x0, 0x1FFFF, 0x0, 0x0, []⟩
def Rw.RED_PATH_FAULTS : Row := ⟨0x120048, 0x0, 1, .ro, .pace, 0x0, 0x1FFFF, 0x0, 0x0, []⟩
def Rw.RED_MS_LOST : Row := ⟨0x12004C, 0x0, 1, .ro, .pace, 0x0, 0x1FFFF, 0x0, 0x0, []⟩
def Rw.RED_CNT_CLR : Row := ⟨0x120050, 0x0, 1, .wo, .imm, 0x0, 0xF, 0x0, 0x0, []⟩
/-- Block 0x12_0000. -/
def rows_red : List Row := [
  Rw.RED_CFG,
  Rw.RED_STATUS,
  Rw.RED_CMD,
  Rw.RED_EPOCH,
  Rw.RED_OWNER,
  Rw.RED_MS_FAST,
  Rw.RED_MS_FULL,
  Rw.RED_LAST_TO,
  Rw.RED_RESYNC_T,
  Rw.RED_IMAGE_LO,
  Rw.RED_IMAGE_HI,
  Rw.RED_LAYOUT_LO,
  Rw.RED_LAYOUT_HI,
  Rw.RED_TAKEOVERS,
  Rw.RED_DEMOTIONS,
  Rw.RED_PATH_FAULTS,
  Rw.RED_MS_LOST,
  Rw.RED_CNT_CLR]

def Rw.LOG_STATUS : Row := ⟨0x130000, 0x0, 1, .ro, .imm, 0x0, 0xF0007FFF, 0x0, 0x0, []⟩
def Rw.LOG_TAIL : Row := ⟨0x130004, 0x0, 1, .ro, .imm, 0x0, 0x100FF, 0x0, 0x0, []⟩
def Rw.LOG_OPSEC : Row := ⟨0x130008, 0x0, 1, .ro, .imm, 0x0, 0xFFFFFFFF, 0x0, 0x0, []⟩
def Rw.LOG_PCC : Row := ⟨0x13000C, 0x0, 1, .ro, .imm, 0x0, 0xFFFFFF, 0x0, 0x0, []⟩
def Rw.LOG_DROPPED : Row := ⟨0x130010, 0x0, 1, .ro, .pace, 0x0, 0x1FFFF, 0x0, 0x0, []⟩
def Rw.LOG_CNT_CLR : Row := ⟨0x130014, 0x0, 1, .wo, .imm, 0x0, 0x1, 0x0, 0x0, []⟩
def Rw.LOG_RD_INDEX : Row := ⟨0x130020, 0x0, 1, .rw, .imm, 0x0, 0x80007FFF, 0x0, 0x80000000, []⟩
def Rw.LOG_RD_DATA : Row := ⟨0x130024, 0x4, 8, .ro, .imm, 0x0, 0xFFFFFFFF, 0x0, 0x0, []⟩
def Rw.LOG_CMD : Row := ⟨0x130048, 0x0, 1, .wop, .imm, 0x0, 0x7, 0x0, 0x0, []⟩
def Rw.LOG_MARK : Row := ⟨0x13004C, 0x0, 1, .rwp, .imm, 0x0, 0xFFFFFFFF, 0x0, 0x0, []⟩
def Rw.LOG_VERIFY : Row := ⟨0x130050, 0x0, 1, .ro, .imm, 0x0, 0xC701FFFF, 0x0, 0x0, []⟩
def Rw.LOG_SEALED : Row := ⟨0x130054, 0x0, 1, .ro, .imm, 0x0, 0x1FF, 0x0, 0x0, []⟩
def Rw.LOG_SEAL_HEAD : Row := ⟨0x130060, 0x4, 8, .ro, .imm, 0x0, 0xFFFFFFFF, 0x0, 0x0, []⟩
/-- Block 0x13_0000. -/
def rows_log : List Row := [
  Rw.LOG_STATUS,
  Rw.LOG_TAIL,
  Rw.LOG_OPSEC,
  Rw.LOG_PCC,
  Rw.LOG_DROPPED,
  Rw.LOG_CNT_CLR,
  Rw.LOG_RD_INDEX,
  Rw.LOG_RD_DATA,
  Rw.LOG_CMD,
  Rw.LOG_MARK,
  Rw.LOG_VERIFY,
  Rw.LOG_SEALED,
  Rw.LOG_SEAL_HEAD]

def Rw.SEC_STATUS : Row := ⟨0x140000, 0x0, 1, .ro, .imm, 0x0, 0x7FC7F3, 0x0, 0x0, []⟩
def Rw.SEC_POLICY : Row := ⟨0x140004, 0x0, 1, .ro, .imm, 0x0, 0x3FFF, 0x0, 0x0, []⟩
def Rw.SEC_ALARM_CLR : Row := ⟨0x140008, 0x0, 1, .wop, .imm, 0x0, 0x7F, 0x0, 0x0, []⟩
def Rw.SEC_CMD : Row := ⟨0x14000C, 0x0, 1, .wop, .imm, 0x0, 0x37F, 0x0, 0x0, []⟩
def Rw.SEC_RESULT : Row := ⟨0x140010, 0x0, 1, .ro, .imm, 0x0, 0x8000000F, 0x0, 0x0, []⟩
def Rw.SEC_JTAG_CTL : Row := ⟨0x140014, 0x0, 1, .rwp, .imm, 0x0, 0x1, 0x0, 0x0, []⟩
def Rw.SEC_KEK : Row := ⟨0x140020, 0x4, 8, .wop, .imm, 0x0, 0xFFFFFFFF, 0x0, 0x0, []⟩
def Rw.SEC_SKEY_BUF : Row := ⟨0x140040, 0x4, 15, .wop, .imm, 0x0, 0xFFFFFFFF, 0x0, 0x0, []⟩
def Rw.SEC_NONCE : Row := ⟨0x140080, 0x4, 8, .wop, .imm, 0x0, 0xFFFFFFFF, 0x0, 0x0, []⟩
def Rw.SEC_ATTEST_R : Row := ⟨0x1400A0, 0x4, 8, .ro, .imm, 0x0, 0xFFFFFFFF, 0x0, 0x0, []⟩
def Rw.SEC_ATTEST_S : Row := ⟨0x1400C0, 0x4, 8, .ro, .imm, 0x0, 0xFFFFFFFF, 0x0, 0x0, []⟩
def Rw.SEC_DIK_X : Row := ⟨0x1400E0, 0x4, 8, .ro, .imm, 0x0, 0xFFFFFFFF, 0x0, 0x0, []⟩
def Rw.SEC_DIK_Y : Row := ⟨0x140100, 0x4, 8, .ro, .imm, 0x0, 0xFFFFFFFF, 0x0, 0x0, []⟩
def Rw.SEC_VKH : Row := ⟨0x140120, 0x4, 8, .ro, .imm, 0x0, 0xFFFFFFFF, 0x0, 0x0, []⟩
def Rw.SEC_EXPORT_FIRST : Row := ⟨0x140140, 0x0, 1, .rwp, .imm, 0x0, 0xFFFFFFFF, 0x0, 0x0, []⟩
def Rw.SEC_EXPORT_COUNT : Row := ⟨0x140144, 0x0, 1, .rwp, .imm, 0x0, 0x1FF, 0x0, 0x0, [(8, 0, .range 1 256)]⟩
def Rw.SEC_EXPORT_DATA : Row := ⟨0x140148, 0x0, 1, .rop, .imm, 0x0, 0xFFFFFFFF, 0x0, 0x0, []⟩
def Rw.SEC_UNPRIV : Row := ⟨0x140150, 0x0, 1, .ro, .pace, 0x0, 0x1FFFF, 0x0, 0x0, []⟩
def Rw.SEC_TAG_FAIL : Row := ⟨0x140154, 0x0, 1, .ro, .pace, 0x0, 0x1FFFF, 0x0, 0x0, []⟩
def Rw.SEC_CNT_CLR : Row := ⟨0x140158, 0x0, 1, .wop, .imm, 0x0, 0x3, 0x0, 0x0, []⟩
/-- Block 0x14_0000. -/
def rows_sec : List Row := [
  Rw.SEC_STATUS,
  Rw.SEC_POLICY,
  Rw.SEC_ALARM_CLR,
  Rw.SEC_CMD,
  Rw.SEC_RESULT,
  Rw.SEC_JTAG_CTL,
  Rw.SEC_KEK,
  Rw.SEC_SKEY_BUF,
  Rw.SEC_NONCE,
  Rw.SEC_ATTEST_R,
  Rw.SEC_ATTEST_S,
  Rw.SEC_DIK_X,
  Rw.SEC_DIK_Y,
  Rw.SEC_VKH,
  Rw.SEC_EXPORT_FIRST,
  Rw.SEC_EXPORT_COUNT,
  Rw.SEC_EXPORT_DATA,
  Rw.SEC_UNPRIV,
  Rw.SEC_TAG_FAIL,
  Rw.SEC_CNT_CLR]

def Rw.HLT_STATUS : Row := ⟨0x150000, 0x0, 1, .ro, .imm, 0x0, 0x8F010100, 0x0, 0x0, []⟩
def Rw.HLT_PACE_MARGIN : Row := ⟨0x150004, 0x0, 1, .ro, .leg, 0xFFFFFFFF, 0xFFFFFFFF, 0x0, 0x0, []⟩
def Rw.HLT_MARGIN_SEL : Row := ⟨0x150008, 0x0, 1, .rw, .imm, 0x0, 0xFF, 0x0, 0x0, []⟩
def Rw.HLT_MARGIN_HIST : Row := ⟨0x15000C, 0x0, 1, .ro, .leg, 0xFFFFFFFF, 0xFFFFFFFF, 0x0, 0x0, []⟩
def Rw.HLT_MARGIN_MIN : Row := ⟨0x150010, 0x0, 1, .ro, .leg, 0xFFFFFFFF, 0xFFFFFFFF, 0x0, 0x0, []⟩
def Rw.HLT_LEG_OVERRUN : Row := ⟨0x150014, 0x0, 1, .ro, .leg, 0x0, 0xF01FFFF, 0x0, 0x0, []⟩
def Rw.HLT_CNT_CLR : Row := ⟨0x150018, 0x0, 1, .wo, .imm, 0x0, 0x1, 0x0, 0x0, []⟩
def Rw.HLT_VERGE_CTL : Row := ⟨0x150020, 0x0, 1, .rws, .atLeg, 0x5000400, 0xFFFF0F01, 0x0, 0x0, [(31, 16, .range 1100 2048), (11, 8, .range 1 15)]⟩
def Rw.HLT_VERGE_CMD : Row := ⟨0x150024, 0x0, 1, .wop, .imm, 0x0, 0xC000000F, 0x0, 0x0, []⟩
def Rw.HLT_VERGE_STATUS : Row := ⟨0x150028, 0x0, 1, .ro, .imm, 0x0, 0x1F0F77, 0x0, 0x0, []⟩
def Rw.HLT_SPARES : Row := ⟨0x15002C, 0x0, 1, .ro, .imm, 0x10021082, 0x3F031FF3, 0x0, 0x0, []⟩
def Rw.HLT_MON_VALUE : Row := ⟨0x150100, 0x8, 66, .ro, .leg, 0x0, 0xFFFF, 0x0, 0x0, []⟩
def Rw.HLT_MON_STATUS : Row := ⟨0x150104, 0x8, 66, .ro, .leg, 0x1000, 0x3F03, 0x0, 0x0, []⟩
/-- Block 0x15_0000. -/
def rows_hlt : List Row := [
  Rw.HLT_STATUS,
  Rw.HLT_PACE_MARGIN,
  Rw.HLT_MARGIN_SEL,
  Rw.HLT_MARGIN_HIST,
  Rw.HLT_MARGIN_MIN,
  Rw.HLT_LEG_OVERRUN,
  Rw.HLT_CNT_CLR,
  Rw.HLT_VERGE_CTL,
  Rw.HLT_VERGE_CMD,
  Rw.HLT_VERGE_STATUS,
  Rw.HLT_SPARES,
  Rw.HLT_MON_VALUE,
  Rw.HLT_MON_STATUS]

def Rw.HIF_STATUS : Row := ⟨0x160000, 0x0, 1, .w1c, .imm, 0x0, 0x7E, 0x7E, 0x0, []⟩
def Rw.HIF_IRQ_STATUS : Row := ⟨0x160004, 0x0, 1, .w1c, .imm, 0x0, 0xFFFFF, 0xFFFFF, 0x0, []⟩
def Rw.HIF_IRQ_EN : Row := ⟨0x160008, 0x0, 1, .rw, .imm, 0x0, 0xFFFFF, 0x0, 0x0, []⟩
def Rw.HIF_LAST_ERR : Row := ⟨0x16000C, 0x0, 1, .ro, .imm, 0x0, 0xFFFFFFF, 0x0, 0x0, []⟩
def Rw.HIF_FRAMES : Row := ⟨0x160010, 0x0, 1, .ro, .pace, 0x0, 0x1FFFF, 0x0, 0x0, []⟩
def Rw.HIF_FRAME_ERRS : Row := ⟨0x160014, 0x0, 1, .ro, .pace, 0x0, 0x1FFFF, 0x0, 0x0, []⟩
def Rw.HIF_CNT_CLR : Row := ⟨0x160018, 0x0, 1, .wo, .imm, 0x0, 0x7, 0x0, 0x0, []⟩
def Rw.HIF_STALL_MAX : Row := ⟨0x16001C, 0x0, 1, .ro, .imm, 0x0, 0xFFFF, 0x0, 0x0, []⟩
/-- Block 0x16_0000. -/
def rows_hif : List Row := [
  Rw.HIF_STATUS,
  Rw.HIF_IRQ_STATUS,
  Rw.HIF_IRQ_EN,
  Rw.HIF_LAST_ERR,
  Rw.HIF_FRAMES,
  Rw.HIF_FRAME_ERRS,
  Rw.HIF_CNT_CLR,
  Rw.HIF_STALL_MAX]

/-- The tables in block order. -/
def blockRows : List (List Row) := [
  rows_glb, rows_pwr, rows_tg, rows_fab, rows_eng, rows_slv, rows_alc, rows_hzn, rows_loop, rows_fir, rows_sns, rows_fus, rows_gns, rows_tim, rows_fbk, rows_lane, rows_krb, rows_ring, rows_red, rows_log, rows_sec, rows_hlt, rows_hif]

namespace Reg

abbrev GLB_ID : Nat := 0x0
abbrev GLB_REV : Nat := 0x4
abbrev GLB_DIE_LO : Nat := 0x8
abbrev GLB_DIE_HI : Nat := 0xC
abbrev GLB_PACE : Nat := 0x10
abbrev GLB_SNAP_EPOCH : Nat := 0x20
abbrev GLB_SNAP_LEG : Nat := 0x24
abbrev GLB_SNAP_RELEASE : Nat := 0x28
abbrev GLB_SNAP_STATUS : Nat := 0x2C
abbrev GLB_SCRATCH : Nat := 0x30
abbrev PWR_STATUS : Nat := 0x10000
abbrev PWR_CMD : Nat := 0x10004
abbrev PWR_PARK : Nat := 0x10008
abbrev PWR_PARKED : Nat := 0x1000C
abbrev PWR_UNIT_RESET : Nat := 0x10010
abbrev PWR_RESET_CAUSE : Nat := 0x10014
abbrev PWR_UNIT_RESETS : Nat := 0x10018
abbrev PWR_CNT_CLR : Nat := 0x1001C
abbrev TG_BOOT : Nat := 0x20000
abbrev TG_SLOT_CODE (n : Nat) : Nat := 0x20010 + n * 0x4
abbrev TG_SLOT_SEQ (n : Nat) : Nat := 0x20020 + n * 0x4
abbrev TG_CMD : Nat := 0x20040
abbrev TG_ADDR : Nat := 0x20044
abbrev TG_DATA : Nat := 0x20048
abbrev TG_WHEN_PACE : Nat := 0x2004C
abbrev TG_STATUS : Nat := 0x20050
abbrev TG_RESULT : Nat := 0x20054
abbrev TG_DIGEST_LO : Nat := 0x20058
abbrev TG_DIGEST_HI : Nat := 0x2005C
abbrev TG_COMMITS : Nat := 0x20060
abbrev TG_FAILS : Nat := 0x20064
abbrev TG_CNT_CLR : Nat := 0x20068
abbrev TG_NVW_PAGE : Nat := 0x20080
abbrev TG_NVW_CMD : Nat := 0x20084
abbrev TG_NVW_STATUS : Nat := 0x20088
abbrev TG_NOR_INFO : Nat := 0x2008C
abbrev FAB_STATUS : Nat := 0x30000
abbrev FAB_TAGS : Nat := 0x30004
abbrev FAB_TAG_STALL : Nat := 0x30010
abbrev FAB_STALE_DISCARD : Nat := 0x30014
abbrev FAB_CLOSED_CNT : Nat := 0x30018
abbrev FAB_WITHDRAWN : Nat := 0x3001C
abbrev FAB_PROV_REDIRECT : Nat := 0x30020
abbrev FAB_CNT_CLR : Nat := 0x30030
abbrev FAB_PORT_STATE : Nat := 0x30040
abbrev FAB_INCARN (n : Nat) : Nat := 0x30104 + n * 0x4
abbrev ENG_SPARE : Nat := 0x40000
abbrev ENG_CNT_CLR : Nat := 0x40010
abbrev ENG_STATUS (n : Nat) : Nat := 0x40100 + n * 0x40
abbrev ENG_INCARN (n : Nat) : Nat := 0x40104 + n * 0x40
abbrev ENG_LOAD (n : Nat) : Nat := 0x40108 + n * 0x40
abbrev ENG_STAGE_LOAD (n : Nat) : Nat := 0x4010C + n * 0x40
abbrev ENG_GRAPHS (n : Nat) : Nat := 0x40110 + n * 0x40
abbrev ENG_SRAM (n : Nat) : Nat := 0x40114 + n * 0x40
abbrev ENG_INVALID (n : Nat) : Nat := 0x40118 + n * 0x40
abbrev ENG_SAT (n : Nat) : Nat := 0x4011C + n * 0x40
abbrev ENG_FLAGS (n : Nat) : Nat := 0x40120 + n * 0x40
abbrev SLV_STATUS : Nat := 0x50000
abbrev SLV_EPS_PIV : Nat := 0x50004
abbrev SLV_FLAGS : Nat := 0x50008
abbrev SLV_A_PIVOT_REG : Nat := 0x50010
abbrev SLV_A_PIVOT_ZERO : Nat := 0x50014
abbrev SLV_A_OVF : Nat := 0x50018
abbrev SLV_H_PIVOT_REG : Nat := 0x5001C
abbrev SLV_H_PIVOT_ZERO : Nat := 0x50020
abbrev SLV_H_OVF : Nat := 0x50024
abbrev SLV_PREEMPT : Nat := 0x50028
abbrev SLV_CNT_CLR : Nat := 0x50030
abbrev SLV_VERGE : Nat := 0x50040
abbrev ALC_CTL : Nat := 0x60000
abbrev ALC_STATUS : Nat := 0x60004
abbrev ALC_MISS : Nat := 0x60008
abbrev ALC_CNT_CLR : Nat := 0x6000C
abbrev ALC_TOL : Nat := 0x60010
abbrev ALC_BRANCH : Nat := 0x60014
abbrev ALC_TRANSIT : Nat := 0x60018
abbrev ALC_LEVEL_HOLD : Nat := 0x6001C
abbrev ALC_SLACK_W : Nat := 0x60020
abbrev ALC_TAU (n : Nat) : Nat := 0x60030 + n * 0x4
abbrev ALC_ACH (n : Nat) : Nat := 0x6003C + n * 0x4
abbrev ALC_J : Nat := 0x60048
abbrev ALC_J_NOM : Nat := 0x6004C
abbrev ALC_J_CAND : Nat := 0x60050
abbrev ALC_CAND : Nat := 0x60054
abbrev ALC_SOLVE_T : Nat := 0x60058
abbrev ALC_BUS_LIMIT (n : Nat) : Nat := 0x60100 + n * 0x8
abbrev ALC_BUS_LOAD (n : Nat) : Nat := 0x60104 + n * 0x8
abbrev ALC_ENV (n : Nat) : Nat := 0x60200 + n * 0x4
abbrev ALC_ENV_MPOS : Nat := 0x60280
abbrev ALC_ENV_MNEG : Nat := 0x60284
abbrev ALC_ENV_RATE (n : Nat) : Nat := 0x60288 + n * 0x4
abbrev ALC_LANE_STATUS (n : Nat) : Nat := 0x61000 + n * 0x10
abbrev ALC_LANE_CMD_T (n : Nat) : Nat := 0x61004 + n * 0x10
abbrev ALC_LANE_CMD_ANG (n : Nat) : Nat := 0x61008 + n * 0x10
abbrev HZN_CTL : Nat := 0x70000
abbrev HZN_MODEL_ADAPT_EN : Nat := 0x70004
abbrev HZN_HORIZON : Nat := 0x70008
abbrev HZN_ENV_MARGIN : Nat := 0x7000C
abbrev HZN_MAX_ITER : Nat := 0x70010
abbrev HZN_TOL : Nat := 0x70014
abbrev HZN_TOL_MU : Nat := 0x70018
abbrev HZN_RHO : Nat := 0x7001C
abbrev HZN_ELIG_P : Nat := 0x70020
abbrev HZN_ELIG_D : Nat := 0x70024
abbrev HZN_Q_POS (n : Nat) : Nat := 0x70040 + n * 0x4
abbrev HZN_Q_VEL (n : Nat) : Nat := 0x70050 + n * 0x4
abbrev HZN_R (n : Nat) : Nat := 0x70060 + n * 0x4
abbrev HZN_S (n : Nat) : Nat := 0x70070 + n * 0x4
abbrev HZN_QN : Nat := 0x70080
abbrev HZN_RESULT : Nat := 0x70100
abbrev HZN_RES_P : Nat := 0x70104
abbrev HZN_RES_D : Nat := 0x70108
abbrev HZN_MU : Nat := 0x7010C
abbrev HZN_MERIT : Nat := 0x70110
abbrev HZN_COST : Nat := 0x70114
abbrev HZN_STAGE : Nat := 0x70118
abbrev HZN_SOLVE_T : Nat := 0x7011C
abbrev HZN_BLEND : Nat := 0x70120
abbrev HZN_TRUNCATED : Nat := 0x70130
abbrev HZN_NO_ITERATE : Nat := 0x70134
abbrev HZN_INELIG : Nat := 0x70138
abbrev HZN_CNT_CLR : Nat := 0x7013C
abbrev HZN_ID_CFG : Nat := 0x70200
abbrev HZN_ID_CMD : Nat := 0x70204
abbrev HZN_ID_STATUS : Nat := 0x70208
abbrev HZN_MODEL_IMG (n : Nat) : Nat := 0x70220 + n * 0x4
abbrev HZN_MODEL_USE (n : Nat) : Nat := 0x70250 + n * 0x4
abbrev HZN_ID_EST (n : Nat) : Nat := 0x70280 + n * 0x4
abbrev HZN_ID_LO (n : Nat) : Nat := 0x702C0 + n * 0x4
abbrev HZN_ID_HI (n : Nat) : Nat := 0x70300 + n * 0x4
abbrev HZN_TRAJ_X (n : Nat) : Nat := 0x71000 + n * 0x10
abbrev HZN_TRAJ_Y (n : Nat) : Nat := 0x71004 + n * 0x10
abbrev HZN_TRAJ_N (n : Nat) : Nat := 0x71008 + n * 0x10
abbrev LOOP_STATUS : Nat := 0x80000
abbrev LOOP_LAW_CTL : Nat := 0x80004
abbrev LOOP_LAW_KD (n : Nat) : Nat := 0x80010 + n * 0x4
abbrev LOOP_SP_N : Nat := 0x80020
abbrev LOOP_SP_E : Nat := 0x80024
abbrev LOOP_SP_HDG : Nat := 0x80028
abbrev LOOP_MOVE_SPEED : Nat := 0x8002C
abbrev LOOP_MOVE_TURN : Nat := 0x80030
abbrev LOOP_MOVE_ACCEL : Nat := 0x80034
abbrev LOOP_SP_GO : Nat := 0x80038
abbrev LOOP_ORIGIN_LAT : Nat := 0x80040
abbrev LOOP_ORIGIN_LON : Nat := 0x80044
abbrev LOOP_ORIGIN_HGT : Nat := 0x80048
abbrev LOOP_ORIGIN_CTL : Nat := 0x8004C
abbrev LOOP_JOY_X : Nat := 0x80050
abbrev LOOP_JOY_Y : Nat := 0x80054
abbrev LOOP_JOY_N : Nat := 0x80058
abbrev LOOP_JOY_TMO : Nat := 0x8005C
abbrev LOOP_TAU_CL (n : Nat) : Nat := 0x80060 + n * 0x4
abbrev LOOP_TAU_PL (n : Nat) : Nat := 0x8006C + n * 0x4
abbrev LOOP_TAU (n : Nat) : Nat := 0x80078 + n * 0x4
abbrev LOOP_BLEND_W : Nat := 0x80084
abbrev LOOP_TEST_CTL : Nat := 0x80100
abbrev LOOP_TEST_AMP : Nat := 0x80104
abbrev LOOP_TEST_OFFSET : Nat := 0x80108
abbrev LOOP_TEST_FREQ : Nat := 0x8010C
abbrev LOOP_TEST_FREQ_END : Nat := 0x80110
abbrev LOOP_TEST_FREQ_STEP : Nat := 0x80114
abbrev LOOP_TEST_DUR : Nat := 0x80118
abbrev LOOP_TEST_STATUS : Nat := 0x8011C
abbrev LOOP_CAP_CTL (n : Nat) : Nat := 0x80200 + n * 0x20
abbrev LOOP_CAP_LEVEL (n : Nat) : Nat := 0x80204 + n * 0x20
abbrev LOOP_CAP_PRE (n : Nat) : Nat := 0x80208 + n * 0x20
abbrev LOOP_CAP_STATUS (n : Nat) : Nat := 0x8020C + n * 0x20
abbrev LOOP_CAP_RDPTR (n : Nat) : Nat := 0x80210 + n * 0x20
abbrev LOOP_CAP_RDDATA (n : Nat) : Nat := 0x80214 + n * 0x20
abbrev LOOP_CAP_TRIG_PACE (n : Nat) : Nat := 0x80218 + n * 0x20
abbrev LOOP_SLOT_CFG (n : Nat) : Nat := 0x81000 + n * 0x40
abbrev LOOP_SLOT_CTL (n : Nat) : Nat := 0x81004 + n * 0x40
abbrev LOOP_SLOT_G (n : Nat) : Nat := 0x81008 + n * 0x40
abbrev LOOP_SLOT_KI (n : Nat) : Nat := 0x8100C + n * 0x40
abbrev LOOP_SLOT_KT (n : Nat) : Nat := 0x81010 + n * 0x40
abbrev LOOP_SLOT_SHIFTS (n : Nat) : Nat := 0x81014 + n * 0x40
abbrev LOOP_SLOT_LIM_LO (n : Nat) : Nat := 0x81018 + n * 0x40
abbrev LOOP_SLOT_LIM_HI (n : Nat) : Nat := 0x8101C + n * 0x40
abbrev LOOP_SLOT_I_PRESET (n : Nat) : Nat := 0x81020 + n * 0x40
abbrev LOOP_SLOT_FLAGS (n : Nat) : Nat := 0x81024 + n * 0x40
abbrev LOOP_SLOT_OUT (n : Nat) : Nat := 0x81028 + n * 0x40
abbrev LOOP_SLOT_I (n : Nat) : Nat := 0x8102C + n * 0x40
abbrev LOOP_SLOT_IN (n : Nat) : Nat := 0x81030 + n * 0x40
abbrev LOOP_SLOT_FF (n : Nat) : Nat := 0x81034 + n * 0x40
abbrev LOOP_SEC_B0 (n : Nat) : Nat := 0x84000 + n * 0x20
abbrev LOOP_SEC_B1 (n : Nat) : Nat := 0x84004 + n * 0x20
abbrev LOOP_SEC_B2 (n : Nat) : Nat := 0x84008 + n * 0x20
abbrev LOOP_SEC_A1 (n : Nat) : Nat := 0x8400C + n * 0x20
abbrev LOOP_SEC_A2 (n : Nat) : Nat := 0x84010 + n * 0x20
abbrev LOOP_SEC_SH (n : Nat) : Nat := 0x84014 + n * 0x20
abbrev FIR_POOL : Nat := 0x90000
abbrev FIR_COEF_SEL : Nat := 0x90010
abbrev FIR_COEF (n : Nat) : Nat := 0x94000 + n * 0x4
abbrev FIR_CH_CFG (n : Nat) : Nat := 0x90100 + n * 0x20
abbrev FIR_CH_DELAY (n : Nat) : Nat := 0x90104 + n * 0x20
abbrev FIR_CH_GD_ACT (n : Nat) : Nat := 0x90108 + n * 0x20
abbrev FIR_CH_GD_INACT (n : Nat) : Nat := 0x9010C + n * 0x20
abbrev FIR_CH_FADE (n : Nat) : Nat := 0x90110 + n * 0x20
abbrev FIR_CH_STATUS (n : Nat) : Nat := 0x90114 + n * 0x20
abbrev SNS_SMP_CFG : Nat := 0xA0000
abbrev SNS_TRIG_PERIOD (n : Nat) : Nat := 0xA0010 + n * 0x10
abbrev SNS_TRIG_PHASE (n : Nat) : Nat := 0xA0014 + n * 0x10
abbrev SNS_TRIG_CTL (n : Nat) : Nat := 0xA0018 + n * 0x10
abbrev SNS_CNT_CLR : Nat := 0xA0030
abbrev SNS_PORT_CFG (n : Nat) : Nat := 0xA0100 + n * 0x40
abbrev SNS_PORT_STATUS (n : Nat) : Nat := 0xA0104 + n * 0x40
abbrev SNS_PORT_ERR_FRAME (n : Nat) : Nat := 0xA0108 + n * 0x40
abbrev SNS_PORT_ERR_CHECK (n : Nat) : Nat := 0xA010C + n * 0x40
abbrev SNS_PORT_ERR_OVERRUN (n : Nat) : Nat := 0xA0110 + n * 0x40
abbrev SNS_PORT_ERR_OTHER (n : Nat) : Nat := 0xA0114 + n * 0x40
abbrev SNS_PORT_TXDATA (n : Nat) : Nat := 0xA0120 + n * 0x40
abbrev SNS_STR_LAT (n : Nat) : Nat := 0xA1004 + n * 0x20
abbrev SNS_STR_STATUS (n : Nat) : Nat := 0xA1008 + n * 0x20
abbrev SNS_STR_SKEW (n : Nat) : Nat := 0xA100C + n * 0x20
abbrev SNS_STR_TRACK (n : Nat) : Nat := 0xA1010 + n * 0x20
abbrev SNS_STR_SLIP (n : Nat) : Nat := 0xA1014 + n * 0x20
abbrev SNS_STR_GAP (n : Nat) : Nat := 0xA1018 + n * 0x20
abbrev SNS_STR_DISCARD (n : Nat) : Nat := 0xA101C + n * 0x20
abbrev FUS_CTL : Nat := 0xB0000
abbrev FUS_GATE : Nat := 0xB0004
abbrev FUS_VOTE : Nat := 0xB0008
abbrev FUS_TIMING : Nat := 0xB000C
abbrev FUS_REJECT_T : Nat := 0xB0010
abbrev FUS_COAST_LIM : Nat := 0xB0014
abbrev FUS_BIAS_RATE : Nat := 0xB0018
abbrev FUS_AUX_GATE : Nat := 0xB001C
abbrev FUS_DETOUR : Nat := 0xB0020
abbrev FUS_COAST : Nat := 0xB0024
abbrev FUS_CMD : Nat := 0xB0030
abbrev FUS_STATUS : Nat := 0xB0034
abbrev FUS_EST_N : Nat := 0xB0040
abbrev FUS_EST_E : Nat := 0xB0044
abbrev FUS_EST_HDG : Nat := 0xB0048
abbrev FUS_EST_U : Nat := 0xB004C
abbrev FUS_EST_V : Nat := 0xB0050
abbrev FUS_EST_R : Nat := 0xB0054
abbrev FUS_BIAS_N : Nat := 0xB0058
abbrev FUS_BIAS_E : Nat := 0xB005C
abbrev FUS_BIAS_M : Nat := 0xB0060
abbrev FUS_SIGMA_N : Nat := 0xB0064
abbrev FUS_SIGMA_E : Nat := 0xB0068
abbrev FUS_SIGMA_HDG : Nat := 0xB006C
abbrev FUS_ATT_ROLL : Nat := 0xB0070
abbrev FUS_ATT_PITCH : Nat := 0xB0074
abbrev FUS_ATT_HEAVE : Nat := 0xB0078
abbrev FUS_WIND_DIR : Nat := 0xB007C
abbrev FUS_WIND_SPD : Nat := 0xB0080
abbrev FUS_TRK_STATUS (n : Nat) : Nat := 0xB0100 + n * 0x4
abbrev FUS_TRK_GATE_FAIL (n : Nat) : Nat := 0xB0200 + n * 0x8
abbrev FUS_TRK_VOTE_OUT (n : Nat) : Nat := 0xB0204 + n * 0x8
abbrev FUS_CNT_CLR : Nat := 0xB0300
abbrev FUS_REF_DEPTH (n : Nat) : Nat := 0xB0400 + n * 0x4
abbrev GNS_CTL : Nat := 0xC0000
abbrev GNS_STATUS : Nat := 0xC0004
abbrev GNS_INTEGRITY : Nat := 0xC0008
abbrev GNS_IF_CFG (n : Nat) : Nat := 0xC0010 + n * 0x4
abbrev GNS_FE_CMD : Nat := 0xC0020
abbrev GNS_FE_DATA : Nat := 0xC0024
abbrev GNS_MASK : Nat := 0xC0030
abbrev GNS_CHK_RAIM : Nat := 0xC0040
abbrev GNS_CHK_BAND : Nat := 0xC0044
abbrev GNS_CHK_ANT : Nat := 0xC0048
abbrev GNS_CHK_CLK : Nat := 0xC004C
abbrev GNS_CHK_CN0 : Nat := 0xC0050
abbrev GNS_CHK_DOP : Nat := 0xC0054
abbrev GNS_CHK_CLEAR : Nat := 0xC0058
abbrev GNS_NOTCH_CFG : Nat := 0xC0060
abbrev GNS_NOTCH_STATUS (n : Nat) : Nat := 0xC0160 + n * 0x4
abbrev GNS_BASE_X : Nat := 0xC0080
abbrev GNS_BASE_Y : Nat := 0xC0084
abbrev GNS_BASE_Z : Nat := 0xC0088
abbrev GNS_BASE_TOL : Nat := 0xC008C
abbrev GNS_HDG : Nat := 0xC0090
abbrev GNS_HDG_Q : Nat := 0xC0094
abbrev GNS_BASE_MEAS (n : Nat) : Nat := 0xC00A0 + n * 0x4
abbrev GNS_PVT_LAT : Nat := 0xC00C0
abbrev GNS_PVT_LON : Nat := 0xC00C4
abbrev GNS_PVT_HGT : Nat := 0xC00C8
abbrev GNS_PVT_Q : Nat := 0xC00CC
abbrev GNS_RTCM_DATA : Nat := 0xC0100
abbrev GNS_RTCM_STATUS : Nat := 0xC0104
abbrev GNS_RTCM_ERR : Nat := 0xC0108
abbrev GNS_RTCM_IGNORED : Nat := 0xC010C
abbrev GNS_RTCM_CFG : Nat := 0xC0110
abbrev GNS_CNT_CLR : Nat := 0xC0114
abbrev GNS_PPS_CTL : Nat := 0xC0120
abbrev GNS_PPS_OFFSET : Nat := 0xC0124
abbrev GNS_HOLD_U0 : Nat := 0xC0130
abbrev GNS_HOLD_F : Nat := 0xC0134
abbrev GNS_HOLD_A : Nat := 0xC0138
abbrev GNS_HOLD_LIMIT : Nat := 0xC013C
abbrev GNS_HOLD_U : Nat := 0xC0140
abbrev GNS_TIME_RET : Nat := 0xC0144
abbrev GNS_TIME_OFFSET : Nat := 0xC0148
abbrev GNS_VERGE : Nat := 0xC0150
abbrev GNS_CH_STATUS (n : Nat) : Nat := 0xC1000 + n * 0x4
abbrev TIM_STATUS : Nat := 0xD0000
abbrev TIM_SRC : Nat := 0xD0004
abbrev TIM_JUMP_TH : Nat := 0xD0008
abbrev TIM_SLEW : Nat := 0xD000C
abbrev TIM_JUMP_CTL : Nat := 0xD0010
abbrev TIM_JUMP_OFF_LO : Nat := 0xD0014
abbrev TIM_JUMP_OFF_HI : Nat := 0xD0018
abbrev TIM_OFFSET : Nat := 0xD001C
abbrev TIM_FREQ : Nat := 0xD0020
abbrev TIM_NOW_NS : Nat := 0xD0024
abbrev TIM_NOW_SEC_LO : Nat := 0xD0028
abbrev TIM_NOW_SEC_HI : Nat := 0xD002C
abbrev TIM_UTC : Nat := 0xD0030
abbrev TIM_PTP_CFG : Nat := 0xD0040
abbrev TIM_PTP_INTV : Nat := 0xD0044
abbrev TIM_PTP_GM_LO : Nat := 0xD0048
abbrev TIM_PTP_GM_HI : Nat := 0xD004C
abbrev TIM_JUMPS : Nat := 0xD0050
abbrev TIM_CNT_CLR : Nat := 0xD0054
abbrev FBK_PDIV_CFG (n : Nat) : Nat := 0xE0000 + n * 0x4
abbrev FBK_CNT_CLR : Nat := 0xE0010
abbrev FB_CFG (n : Nat) : Nat := 0xE0100 + n * 0x80
abbrev FB_POS (n : Nat) : Nat := 0xE0104 + n * 0x80
abbrev FB_FLAGS (n : Nat) : Nat := 0xE0108 + n * 0x80
abbrev FB_WM_POS (n : Nat) : Nat := 0xE0110 + n * 0x80
abbrev FB_WM_NS (n : Nat) : Nat := 0xE0114 + n * 0x80
abbrev FB_WM_SEC_LO (n : Nat) : Nat := 0xE0118 + n * 0x80
abbrev FB_WM_SEC_HI (n : Nat) : Nat := 0xE011C + n * 0x80
abbrev FB_SPEED (n : Nat) : Nat := 0xE0120 + n * 0x80
abbrev FB_STATE (n : Nat) : Nat := 0xE0124 + n * 0x80
abbrev FB_ILLEGAL (n : Nat) : Nat := 0xE0128 + n * 0x80
abbrev FB_CMP (n : Nat) : Nat := 0xE0130 + n * 0x80
abbrev FB_CMP_STEP (n : Nat) : Nat := 0xE0134 + n * 0x80
abbrev FB_CMP_CTL (n : Nat) : Nat := 0xE0138 + n * 0x80
abbrev FB_CMP_STATUS (n : Nat) : Nat := 0xE013C + n * 0x80
abbrev FB_CMP_WM_POS (n : Nat) : Nat := 0xE0140 + n * 0x80
abbrev FB_CMP_WM_NS (n : Nat) : Nat := 0xE0144 + n * 0x80
abbrev FB_CMP_WM_SEC_LO (n : Nat) : Nat := 0xE0148 + n * 0x80
abbrev FB_CMP_WM_SEC_HI (n : Nat) : Nat := 0xE014C + n * 0x80
abbrev FB_IDX_WM_POS (n : Nat) : Nat := 0xE0150 + n * 0x80
abbrev FB_IDX_WM_NS (n : Nat) : Nat := 0xE0154 + n * 0x80
abbrev FB_IDX_WM_SEC_LO (n : Nat) : Nat := 0xE0158 + n * 0x80
abbrev FB_IDX_WM_SEC_HI (n : Nat) : Nat := 0xE015C + n * 0x80
abbrev FB_CMP_FIRES (n : Nat) : Nat := 0xE0160 + n * 0x80
abbrev LANE_CTL (n : Nat) : Nat := 0xF0000 + n * 0x400
abbrev LANE_STATE (n : Nat) : Nat := 0xF0004 + n * 0x400
abbrev LANE_AZ (n : Nat) : Nat := 0xF0008 + n * 0x400
abbrev LANE_T (n : Nat) : Nat := 0xF000C + n * 0x400
abbrev LANE_AZ_RATE (n : Nat) : Nat := 0xF0010 + n * 0x400
abbrev LANE_CMD_AZ (n : Nat) : Nat := 0xF0014 + n * 0x400
abbrev LANE_CMD_T (n : Nat) : Nat := 0xF0018 + n * 0x400
abbrev LANE_U_AZ (n : Nat) : Nat := 0xF001C + n * 0x400
abbrev LANE_U_T (n : Nat) : Nat := 0xF0020 + n * 0x400
abbrev LANE_AZ_SET (n : Nat) : Nat := 0xF0024 + n * 0x400
abbrev LANE_AUX_SP (n : Nat) : Nat := 0xF0028 + n * 0x400
abbrev LANE_FAULTS (n : Nat) : Nat := 0xF002C + n * 0x400
abbrev LANE_CNT_CLR (n : Nat) : Nat := 0xF0030 + n * 0x400
abbrev LANE_BIND (n : Nat) : Nat := 0xF0100 + n * 0x400
abbrev LANE_CMD_DEST (n : Nat) : Nat := 0xF0104 + n * 0x400
abbrev LANE_FB_REMOTE (n : Nat) : Nat := 0xF0108 + n * 0x400
abbrev LANE_SAFE (n : Nat) : Nat := 0xF010C + n * 0x400
abbrev LANE_CPR (n : Nat) : Nat := 0xF0110 + n * 0x400
abbrev LANE_HOME (n : Nat) : Nat := 0xF0114 + n * 0x400
abbrev LANE_THRUST_K (n : Nat) : Nat := 0xF0118 + n * 0x400
abbrev LANE_FOLLOW (n : Nat) : Nat := 0xF011C + n * 0x400
abbrev LANE_RAMP (n : Nat) : Nat := 0xF0120 + n * 0x400
abbrev KRB_STATUS : Nat := 0x100000
abbrev KRB_SEAL : Nat := 0x100004
abbrev KRB_SEAL_LAST : Nat := 0x100008
abbrev KRB_FATAL : Nat := 0x10000C
abbrev KRB_SO_EN : Nat := 0x100010
abbrev KRB_ACK : Nat := 0x100014
abbrev KRB_SO_STATUS (n : Nat) : Nat := 0x100020 + n * 0x4
abbrev KRB_TRIPS : Nat := 0x100040
abbrev KRB_CMD_VIOL : Nat := 0x100044
abbrev KRB_PREALARM_WITHDRAWN : Nat := 0x100048
abbrev KRB_TEST_DISCARD : Nat := 0x10004C
abbrev KRB_SEAL_UNSTABLE : Nat := 0x100050
abbrev KRB_CNT_CLR : Nat := 0x100060
abbrev KRB_CONN_CLR : Nat := 0x100064
abbrev KRB_LANE_STATUS (n : Nat) : Nat := 0x101000 + n * 0x20
abbrev KRB_LANE_AZ_P (n : Nat) : Nat := 0x101004 + n * 0x20
abbrev KRB_LANE_AZ_L (n : Nat) : Nat := 0x101008 + n * 0x20
abbrev KRB_LANE_T_P (n : Nat) : Nat := 0x10100C + n * 0x20
abbrev KRB_LANE_T_L (n : Nat) : Nat := 0x101010 + n * 0x20
abbrev KRB_CONN_STATUS (n : Nat) : Nat := 0x104000 + n * 0x10
abbrev KRB_CONN_CRC_ERR (n : Nat) : Nat := 0x104004 + n * 0x10
abbrev KRB_CONN_SEQ_ERR (n : Nat) : Nat := 0x104008 + n * 0x10
abbrev KRB_CONN_TIMEOUTS (n : Nat) : Nat := 0x10400C + n * 0x10
abbrev RING_CFG : Nat := 0x110000
abbrev RING_ETYPE : Nat := 0x110004
abbrev RING_CTL : Nat := 0x110008
abbrev RING_STATUS : Nat := 0x11000C
abbrev RING_CYCLE : Nat := 0x110010
abbrev RING_NODES_A (n : Nat) : Nat := 0x110020 + n * 0x4
abbrev RING_NODES_B (n : Nat) : Nat := 0x110040 + n * 0x4
abbrev RING_CNT_CLR : Nat := 0x110060
abbrev RING_BREAKS : Nat := 0x110064
abbrev RING_MGMT_LOST : Nat := 0x110068
abbrev RING_MGMT_TX_HDR : Nat := 0x110080
abbrev RING_MGMT_TX_CTL : Nat := 0x110084
abbrev RING_MGMT_RX_STATUS : Nat := 0x110088
abbrev RING_MGMT_RX_HDR : Nat := 0x11008C
abbrev RING_MGMT_RX_POP : Nat := 0x110090
abbrev RING_PORT_STATUS (n : Nat) : Nat := 0x110100 + n * 0x40
abbrev RING_PORT_FCS_ERR (n : Nat) : Nat := 0x110104 + n * 0x40
abbrev RING_PORT_FOREIGN (n : Nat) : Nat := 0x110108 + n * 0x40
abbrev RING_PORT_HOPS_EXPIRED (n : Nat) : Nat := 0x11010C + n * 0x40
abbrev RING_PORT_BAD_STAMP (n : Nat) : Nat := 0x110110 + n * 0x40
abbrev RING_PORT_LATE (n : Nat) : Nat := 0x110114 + n * 0x40
abbrev RING_NODE_STATUS (n : Nat) : Nat := 0x111000 + n * 0x4
abbrev RING_MGMT_TXBUF (n : Nat) : Nat := 0x112000 + n * 0x4
abbrev RING_MGMT_RXBUF (n : Nat) : Nat := 0x112400 + n * 0x4
abbrev RED_CFG : Nat := 0x120000
abbrev RED_STATUS : Nat := 0x120004
abbrev RED_CMD : Nat := 0x120008
abbrev RED_EPOCH : Nat := 0x120010
abbrev RED_OWNER : Nat := 0x120014
abbrev RED_MS_FAST : Nat := 0x120018
abbrev RED_MS_FULL : Nat := 0x12001C
abbrev RED_LAST_TO : Nat := 0x120020
abbrev RED_RESYNC_T : Nat := 0x120024
abbrev RED_IMAGE_LO : Nat := 0x120028
abbrev RED_IMAGE_HI : Nat := 0x12002C
abbrev RED_LAYOUT_LO : Nat := 0x120030
abbrev RED_LAYOUT_HI : Nat := 0x120034
abbrev RED_TAKEOVERS : Nat := 0x120040
abbrev RED_DEMOTIONS : Nat := 0x120044
abbrev RED_PATH_FAULTS : Nat := 0x120048
abbrev RED_MS_LOST : Nat := 0x12004C
abbrev RED_CNT_CLR : Nat := 0x120050
abbrev LOG_STATUS : Nat := 0x130000
abbrev LOG_TAIL : Nat := 0x130004
abbrev LOG_OPSEC : Nat := 0x130008
abbrev LOG_PCC : Nat := 0x13000C
abbrev LOG_DROPPED : Nat := 0x130010
abbrev LOG_CNT_CLR : Nat := 0x130014
abbrev LOG_RD_INDEX : Nat := 0x130020
abbrev LOG_RD_DATA (n : Nat) : Nat := 0x130024 + n * 0x4
abbrev LOG_CMD : Nat := 0x130048
abbrev LOG_MARK : Nat := 0x13004C
abbrev LOG_VERIFY : Nat := 0x130050
abbrev LOG_SEALED : Nat := 0x130054
abbrev LOG_SEAL_HEAD (n : Nat) : Nat := 0x130060 + n * 0x4
abbrev SEC_STATUS : Nat := 0x140000
abbrev SEC_POLICY : Nat := 0x140004
abbrev SEC_ALARM_CLR : Nat := 0x140008
abbrev SEC_CMD : Nat := 0x14000C
abbrev SEC_RESULT : Nat := 0x140010
abbrev SEC_JTAG_CTL : Nat := 0x140014
abbrev SEC_KEK (n : Nat) : Nat := 0x140020 + n * 0x4
abbrev SEC_SKEY_BUF (n : Nat) : Nat := 0x140040 + n * 0x4
abbrev SEC_NONCE (n : Nat) : Nat := 0x140080 + n * 0x4
abbrev SEC_ATTEST_R (n : Nat) : Nat := 0x1400A0 + n * 0x4
abbrev SEC_ATTEST_S (n : Nat) : Nat := 0x1400C0 + n * 0x4
abbrev SEC_DIK_X (n : Nat) : Nat := 0x1400E0 + n * 0x4
abbrev SEC_DIK_Y (n : Nat) : Nat := 0x140100 + n * 0x4
abbrev SEC_VKH (n : Nat) : Nat := 0x140120 + n * 0x4
abbrev SEC_EXPORT_FIRST : Nat := 0x140140
abbrev SEC_EXPORT_COUNT : Nat := 0x140144
abbrev SEC_EXPORT_DATA : Nat := 0x140148
abbrev SEC_UNPRIV : Nat := 0x140150
abbrev SEC_TAG_FAIL : Nat := 0x140154
abbrev SEC_CNT_CLR : Nat := 0x140158
abbrev HLT_STATUS : Nat := 0x150000
abbrev HLT_PACE_MARGIN : Nat := 0x150004
abbrev HLT_MARGIN_SEL : Nat := 0x150008
abbrev HLT_MARGIN_HIST : Nat := 0x15000C
abbrev HLT_MARGIN_MIN : Nat := 0x150010
abbrev HLT_LEG_OVERRUN : Nat := 0x150014
abbrev HLT_CNT_CLR : Nat := 0x150018
abbrev HLT_VERGE_CTL : Nat := 0x150020
abbrev HLT_VERGE_CMD : Nat := 0x150024
abbrev HLT_VERGE_STATUS : Nat := 0x150028
abbrev HLT_SPARES : Nat := 0x15002C
abbrev HLT_MON_VALUE (n : Nat) : Nat := 0x150100 + n * 0x8
abbrev HLT_MON_STATUS (n : Nat) : Nat := 0x150104 + n * 0x8
abbrev HIF_STATUS : Nat := 0x160000
abbrev HIF_IRQ_STATUS : Nat := 0x160004
abbrev HIF_IRQ_EN : Nat := 0x160008
abbrev HIF_LAST_ERR : Nat := 0x16000C
abbrev HIF_FRAMES : Nat := 0x160010
abbrev HIF_FRAME_ERRS : Nat := 0x160014
abbrev HIF_CNT_CLR : Nat := 0x160018
abbrev HIF_STALL_MAX : Nat := 0x16001C

end Reg

namespace Fl

abbrev GLB_REV_FORMAT : Fld := ⟨0x4, 15, 8⟩
abbrev GLB_REV_REV : Fld := ⟨0x4, 7, 0⟩
abbrev GLB_SNAP_STATUS_FROZEN : Fld := ⟨0x2C, 31, 31⟩
abbrev GLB_SNAP_STATUS_LEFT : Fld := ⟨0x2C, 6, 0⟩
abbrev PWR_STATUS_TARGET : Fld := ⟨0x10000, 18, 16⟩
abbrev PWR_STATUS_RESULT : Fld := ⟨0x10000, 11, 8⟩
abbrev PWR_STATUS_FAULTED : Fld := ⟨0x10000, 5, 5⟩
abbrev PWR_STATUS_BUSY : Fld := ⟨0x10000, 4, 4⟩
abbrev PWR_STATUS_LEAVING : Fld := ⟨0x10000, 3, 3⟩
abbrev PWR_STATUS_STATE : Fld := ⟨0x10000, 2, 0⟩
abbrev PWR_CMD_GO : Fld := ⟨0x10004, 31, 31⟩
abbrev PWR_CMD_TARGET : Fld := ⟨0x10004, 2, 0⟩
abbrev PWR_PARK_ENGINE : Fld := ⟨0x10008, 31, 16⟩
abbrev PWR_PARK_RING_B : Fld := ⟨0x10008, 2, 2⟩
abbrev PWR_PARK_RING_A : Fld := ⟨0x10008, 1, 1⟩
abbrev PWR_PARK_GNSS : Fld := ⟨0x10008, 0, 0⟩
abbrev PWR_PARKED_UNIT : Fld := ⟨0x1000C, 22, 1⟩
abbrev PWR_UNIT_RESET_GO : Fld := ⟨0x10010, 31, 31⟩
abbrev PWR_UNIT_RESET_ENGINE : Fld := ⟨0x10010, 11, 8⟩
abbrev PWR_UNIT_RESET_UNIT : Fld := ⟨0x10010, 4, 0⟩
abbrev PWR_RESET_CAUSE_ERASE_RESUMED : Fld := ⟨0x10014, 11, 11⟩
abbrev PWR_RESET_CAUSE_CLEAR_RESUMED : Fld := ⟨0x10014, 10, 10⟩
abbrev PWR_RESET_CAUSE_LOG_RESCAN : Fld := ⟨0x10014, 9, 9⟩
abbrev PWR_RESET_CAUSE_SWAP_CUT : Fld := ⟨0x10014, 8, 8⟩
abbrev PWR_RESET_CAUSE_CAUSE : Fld := ⟨0x10014, 0, 0⟩
abbrev PWR_UNIT_RESETS_OVF : Fld := ⟨0x10018, 16, 16⟩
abbrev PWR_UNIT_RESETS_COUNT : Fld := ⟨0x10018, 15, 0⟩
abbrev TG_BOOT_BOOT_MS : Fld := ⟨0x20000, 31, 16⟩
abbrev TG_BOOT_FAILED : Fld := ⟨0x20000, 7, 7⟩
abbrev TG_BOOT_FALLBACK : Fld := ⟨0x20000, 6, 6⟩
abbrev TG_BOOT_SLOT : Fld := ⟨0x20000, 1, 0⟩
abbrev TG_SLOT_CODE_EXAMINED (n : Nat) : Fld := ⟨0x20010 + n * 0x4, 16, 16⟩
abbrev TG_SLOT_CODE_CODE (n : Nat) : Fld := ⟨0x20010 + n * 0x4, 15, 0⟩
abbrev TG_CMD_KIND : Fld := ⟨0x20040, 9, 8⟩
abbrev TG_CMD_ABORT : Fld := ⟨0x20040, 3, 3⟩
abbrev TG_CMD_COMMIT : Fld := ⟨0x20040, 2, 2⟩
abbrev TG_CMD_CHECK : Fld := ⟨0x20040, 1, 1⟩
abbrev TG_CMD_CLEAR : Fld := ⟨0x20040, 0, 0⟩
abbrev TG_STATUS_ABORT_LATE : Fld := ⟨0x20050, 18, 18⟩
abbrev TG_STATUS_OVERFLOW : Fld := ⟨0x20050, 17, 17⟩
abbrev TG_STATUS_COUNT : Fld := ⟨0x20050, 15, 3⟩
abbrev TG_STATUS_STATE : Fld := ⟨0x20050, 2, 0⟩
abbrev TG_RESULT_ENTRY : Fld := ⟨0x20054, 27, 16⟩
abbrev TG_RESULT_CODE : Fld := ⟨0x20054, 15, 0⟩
abbrev TG_COMMITS_OVF : Fld := ⟨0x20060, 16, 16⟩
abbrev TG_COMMITS_COUNT : Fld := ⟨0x20060, 15, 0⟩
abbrev TG_FAILS_OVF : Fld := ⟨0x20064, 16, 16⟩
abbrev TG_FAILS_COUNT : Fld := ⟨0x20064, 15, 0⟩
abbrev TG_NVW_CMD_SLOT : Fld := ⟨0x20084, 9, 8⟩
abbrev TG_NVW_CMD_VERIFY : Fld := ⟨0x20084, 2, 2⟩
abbrev TG_NVW_CMD_PROGRAM : Fld := ⟨0x20084, 1, 1⟩
abbrev TG_NVW_CMD_ERASE : Fld := ⟨0x20084, 0, 0⟩
abbrev TG_NVW_STATUS_BUSY : Fld := ⟨0x20088, 31, 31⟩
abbrev TG_NVW_STATUS_DONE : Fld := ⟨0x20088, 16, 16⟩
abbrev TG_NVW_STATUS_CODE : Fld := ⟨0x20088, 15, 0⟩
abbrev TG_NOR_INFO_DENSITY : Fld := ⟨0x2008C, 31, 24⟩
abbrev TG_NOR_INFO_JEDEC_ID : Fld := ⟨0x2008C, 23, 0⟩
abbrev FAB_STATUS_RESERVE_EMPTY : Fld := ⟨0x30000, 1, 1⟩
abbrev FAB_STATUS_RESERVE_LOW : Fld := ⟨0x30000, 0, 0⟩
abbrev FAB_TAGS_PEAK : Fld := ⟨0x30004, 25, 16⟩
abbrev FAB_TAGS_IN_USE : Fld := ⟨0x30004, 9, 0⟩
abbrev FAB_TAG_STALL_OVF : Fld := ⟨0x30010, 16, 16⟩
abbrev FAB_TAG_STALL_COUNT : Fld := ⟨0x30010, 15, 0⟩
abbrev FAB_STALE_DISCARD_LAST_UNIT : Fld := ⟨0x30014, 28, 24⟩
abbrev FAB_STALE_DISCARD_OVF : Fld := ⟨0x30014, 16, 16⟩
abbrev FAB_STALE_DISCARD_COUNT : Fld := ⟨0x30014, 15, 0⟩
abbrev FAB_CLOSED_CNT_OVF : Fld := ⟨0x30018, 16, 16⟩
abbrev FAB_CLOSED_CNT_COUNT : Fld := ⟨0x30018, 15, 0⟩
abbrev FAB_WITHDRAWN_OVF : Fld := ⟨0x3001C, 16, 16⟩
abbrev FAB_WITHDRAWN_COUNT : Fld := ⟨0x3001C, 15, 0⟩
abbrev FAB_PROV_REDIRECT_OVF : Fld := ⟨0x30020, 16, 16⟩
abbrev FAB_PROV_REDIRECT_COUNT : Fld := ⟨0x30020, 15, 0⟩
abbrev FAB_PORT_STATE_OPEN : Fld := ⟨0x30040, 22, 1⟩
abbrev ENG_SPARE_V1_FREE : Fld := ⟨0x40000, 1, 1⟩
abbrev ENG_SPARE_V0_FREE : Fld := ⟨0x40000, 0, 0⟩
abbrev ENG_CNT_CLR_SAT : Fld := ⟨0x40010, 31, 16⟩
abbrev ENG_CNT_CLR_INVALID : Fld := ⟨0x40010, 15, 0⟩
abbrev ENG_STATUS_LATE (n : Nat) : Fld := ⟨0x40100 + n * 0x40, 16, 16⟩
abbrev ENG_STATUS_PHYS (n : Nat) : Fld := ⟨0x40100 + n * 0x40, 12, 8⟩
abbrev ENG_STATUS_GROUP (n : Nat) : Fld := ⟨0x40100 + n * 0x40, 4, 2⟩
abbrev ENG_STATUS_STATE (n : Nat) : Fld := ⟨0x40100 + n * 0x40, 1, 0⟩
abbrev ENG_LOAD_LEG_LOAD (n : Nat) : Fld := ⟨0x40108 + n * 0x40, 25, 16⟩
abbrev ENG_LOAD_PACE_LOAD (n : Nat) : Fld := ⟨0x40108 + n * 0x40, 9, 0⟩
abbrev ENG_STAGE_LOAD_STAGE_LOAD (n : Nat) : Fld := ⟨0x4010C + n * 0x40, 9, 0⟩
abbrev ENG_GRAPHS_INSTANCES (n : Nat) : Fld := ⟨0x40110 + n * 0x40, 28, 16⟩
abbrev ENG_GRAPHS_COUNT (n : Nat) : Fld := ⟨0x40110 + n * 0x40, 6, 0⟩
abbrev ENG_SRAM_BYTES (n : Nat) : Fld := ⟨0x40114 + n * 0x40, 17, 0⟩
abbrev ENG_INVALID_OVF (n : Nat) : Fld := ⟨0x40118 + n * 0x40, 16, 16⟩
abbrev ENG_INVALID_COUNT (n : Nat) : Fld := ⟨0x40118 + n * 0x40, 15, 0⟩
abbrev ENG_SAT_OVF (n : Nat) : Fld := ⟨0x4011C + n * 0x40, 16, 16⟩
abbrev ENG_SAT_COUNT (n : Nat) : Fld := ⟨0x4011C + n * 0x40, 15, 0⟩
abbrev ENG_FLAGS_CLOSED_INPUT (n : Nat) : Fld := ⟨0x40120 + n * 0x40, 2, 2⟩
abbrev ENG_FLAGS_SAT_I32 (n : Nat) : Fld := ⟨0x40120 + n * 0x40, 1, 1⟩
abbrev ENG_FLAGS_OVF_F32 (n : Nat) : Fld := ⟨0x40120 + n * 0x40, 0, 0⟩
abbrev SLV_STATUS_H_BUSY : Fld := ⟨0x50000, 1, 1⟩
abbrev SLV_STATUS_A_BUSY : Fld := ⟨0x50000, 0, 0⟩
abbrev SLV_FLAGS_H_PIVOT_ZERO : Fld := ⟨0x50008, 5, 5⟩
abbrev SLV_FLAGS_H_PIVOT_REG : Fld := ⟨0x50008, 4, 4⟩
abbrev SLV_FLAGS_H_OVF : Fld := ⟨0x50008, 3, 3⟩
abbrev SLV_FLAGS_A_PIVOT_ZERO : Fld := ⟨0x50008, 2, 2⟩
abbrev SLV_FLAGS_A_PIVOT_REG : Fld := ⟨0x50008, 1, 1⟩
abbrev SLV_FLAGS_A_OVF : Fld := ⟨0x50008, 0, 0⟩
abbrev SLV_A_PIVOT_REG_OVF : Fld := ⟨0x50010, 16, 16⟩
abbrev SLV_A_PIVOT_REG_COUNT : Fld := ⟨0x50010, 15, 0⟩
abbrev SLV_A_PIVOT_ZERO_OVF : Fld := ⟨0x50014, 16, 16⟩
abbrev SLV_A_PIVOT_ZERO_COUNT : Fld := ⟨0x50014, 15, 0⟩
abbrev SLV_A_OVF_OVF : Fld := ⟨0x50018, 16, 16⟩
abbrev SLV_A_OVF_COUNT : Fld := ⟨0x50018, 15, 0⟩
abbrev SLV_H_PIVOT_REG_OVF : Fld := ⟨0x5001C, 16, 16⟩
abbrev SLV_H_PIVOT_REG_COUNT : Fld := ⟨0x5001C, 15, 0⟩
abbrev SLV_H_PIVOT_ZERO_OVF : Fld := ⟨0x50020, 16, 16⟩
abbrev SLV_H_PIVOT_ZERO_COUNT : Fld := ⟨0x50020, 15, 0⟩
abbrev SLV_H_OVF_OVF : Fld := ⟨0x50024, 16, 16⟩
abbrev SLV_H_OVF_COUNT : Fld := ⟨0x50024, 15, 0⟩
abbrev SLV_PREEMPT_OVF : Fld := ⟨0x50028, 16, 16⟩
abbrev SLV_PREEMPT_COUNT : Fld := ⟨0x50028, 15, 0⟩
abbrev SLV_VERGE_RETIRED : Fld := ⟨0x50040, 23, 16⟩
abbrev SLV_VERGE_SPARES_FREE : Fld := ⟨0x50040, 3, 0⟩
abbrev ALC_CTL_FORCE_FALLBACK : Fld := ⟨0x60000, 2, 2⟩
abbrev ALC_CTL_BRANCH_EN : Fld := ⟨0x60000, 1, 1⟩
abbrev ALC_CTL_RUNAHEAD_EN : Fld := ⟨0x60000, 0, 0⟩
abbrev ALC_STATUS_ITER : Fld := ⟨0x60004, 28, 24⟩
abbrev ALC_STATUS_CANDS : Fld := ⟨0x60004, 23, 20⟩
abbrev ALC_STATUS_FB_STALE : Fld := ⟨0x60004, 15, 15⟩
abbrev ALC_STATUS_ALLOC_LEVEL : Fld := ⟨0x60004, 14, 12⟩
abbrev ALC_STATUS_MISS_RUN : Fld := ⟨0x60004, 11, 10⟩
abbrev ALC_STATUS_SLACK : Fld := ⟨0x60004, 9, 9⟩
abbrev ALC_STATUS_FORCED : Fld := ⟨0x60004, 8, 8⟩
abbrev ALC_STATUS_MISS_CAUSE : Fld := ⟨0x60004, 7, 4⟩
abbrev ALC_STATUS_SOURCE : Fld := ⟨0x60004, 1, 0⟩
abbrev ALC_MISS_OVF : Fld := ⟨0x60008, 16, 16⟩
abbrev ALC_MISS_COUNT : Fld := ⟨0x60008, 15, 0⟩
abbrev ALC_TOL_AZ_TOL : Fld := ⟨0x60010, 31, 16⟩
abbrev ALC_TOL_T_TOL : Fld := ⟨0x60010, 15, 0⟩
abbrev ALC_BRANCH_HYST : Fld := ⟨0x60014, 31, 16⟩
abbrev ALC_BRANCH_DWELL : Fld := ⟨0x60014, 7, 0⟩
abbrev ALC_TRANSIT_TRANSIT_T : Fld := ⟨0x60018, 15, 0⟩
abbrev ALC_CAND_VALID : Fld := ⟨0x60054, 31, 31⟩
abbrev ALC_CAND_DWELL_RUN : Fld := ⟨0x60054, 23, 16⟩
abbrev ALC_CAND_LANE : Fld := ⟨0x60054, 13, 8⟩
abbrev ALC_CAND_WEDGE : Fld := ⟨0x60054, 2, 0⟩
abbrev ALC_BUS_LOAD_ACTIVE (n : Nat) : Fld := ⟨0x60104 + n * 0x8, 31, 31⟩
abbrev ALC_BUS_LOAD_LOAD (n : Nat) : Fld := ⟨0x60104 + n * 0x8, 30, 0⟩
abbrev ALC_LANE_STATUS_CANDIDATE (n : Nat) : Fld := ⟨0x61000 + n * 0x10, 12, 12⟩
abbrev ALC_LANE_STATUS_EDGE (n : Nat) : Fld := ⟨0x61000 + n * 0x10, 11, 11⟩
abbrev ALC_LANE_STATUS_TARGET (n : Nat) : Fld := ⟨0x61000 + n * 0x10, 10, 8⟩
abbrev ALC_LANE_STATUS_WEDGE (n : Nat) : Fld := ⟨0x61000 + n * 0x10, 6, 4⟩
abbrev ALC_LANE_STATUS_MODE (n : Nat) : Fld := ⟨0x61000 + n * 0x10, 2, 0⟩
abbrev HZN_CTL_EN : Fld := ⟨0x70000, 0, 0⟩
abbrev HZN_MODEL_ADAPT_EN_EN : Fld := ⟨0x70004, 0, 0⟩
abbrev HZN_HORIZON_STEP : Fld := ⟨0x70008, 20, 16⟩
abbrev HZN_HORIZON_N : Fld := ⟨0x70008, 6, 0⟩
abbrev HZN_ENV_MARGIN_RATE_M : Fld := ⟨0x7000C, 31, 16⟩
abbrev HZN_ENV_MARGIN_ENV_M : Fld := ⟨0x7000C, 15, 0⟩
abbrev HZN_RESULT_BEST : Fld := ⟨0x70100, 21, 16⟩
abbrev HZN_RESULT_ITER : Fld := ⟨0x70100, 13, 8⟩
abbrev HZN_RESULT_MID_ITER : Fld := ⟨0x70100, 6, 6⟩
abbrev HZN_RESULT_PIVOT_REG : Fld := ⟨0x70100, 5, 5⟩
abbrev HZN_RESULT_OVF_SEEN : Fld := ⟨0x70100, 4, 4⟩
abbrev HZN_RESULT_STATUS : Fld := ⟨0x70100, 1, 0⟩
abbrev HZN_BLEND_CAUSE : Fld := ⟨0x70120, 19, 17⟩
abbrev HZN_BLEND_ELIGIBLE : Fld := ⟨0x70120, 16, 16⟩
abbrev HZN_BLEND_W : Fld := ⟨0x70120, 15, 0⟩
abbrev HZN_TRUNCATED_OVF : Fld := ⟨0x70130, 16, 16⟩
abbrev HZN_TRUNCATED_COUNT : Fld := ⟨0x70130, 15, 0⟩
abbrev HZN_NO_ITERATE_OVF : Fld := ⟨0x70134, 16, 16⟩
abbrev HZN_NO_ITERATE_COUNT : Fld := ⟨0x70134, 15, 0⟩
abbrev HZN_INELIG_OVF : Fld := ⟨0x70138, 16, 16⟩
abbrev HZN_INELIG_COUNT : Fld := ⟨0x70138, 15, 0⟩
abbrev HZN_ID_CFG_STEP : Fld := ⟨0x70200, 31, 16⟩
abbrev HZN_ID_CFG_ID_SIGMA : Fld := ⟨0x70200, 15, 8⟩
abbrev HZN_ID_CFG_MIN_EXC : Fld := ⟨0x70200, 7, 0⟩
abbrev HZN_ID_CMD_RESET_EST : Fld := ⟨0x70204, 1, 1⟩
abbrev HZN_ID_CMD_RESTORE : Fld := ⟨0x70204, 0, 0⟩
abbrev HZN_ID_STATUS_BOUND : Fld := ⟨0x70208, 24, 16⟩
abbrev HZN_ID_STATUS_VALID : Fld := ⟨0x70208, 8, 0⟩
abbrev LOOP_STATUS_ORIGIN : Fld := ⟨0x80000, 9, 8⟩
abbrev LOOP_STATUS_REOPENED : Fld := ⟨0x80000, 7, 7⟩
abbrev LOOP_STATUS_ENV_OVERRIDE : Fld := ⟨0x80000, 6, 6⟩
abbrev LOOP_STATUS_REBASED : Fld := ⟨0x80000, 5, 5⟩
abbrev LOOP_STATUS_SP_REFUSED : Fld := ⟨0x80000, 4, 4⟩
abbrev LOOP_STATUS_JOY_STALE : Fld := ⟨0x80000, 3, 3⟩
abbrev LOOP_STATUS_MOVING : Fld := ⟨0x80000, 2, 2⟩
abbrev LOOP_STATUS_MODE : Fld := ⟨0x80000, 1, 0⟩
abbrev LOOP_LAW_CTL_W_FF : Fld := ⟨0x80004, 31, 16⟩
abbrev LOOP_LAW_CTL_ENV_LIM : Fld := ⟨0x80004, 2, 2⟩
abbrev LOOP_LAW_CTL_WIND_FF : Fld := ⟨0x80004, 1, 1⟩
abbrev LOOP_LAW_CTL_BIAS_FF : Fld := ⟨0x80004, 0, 0⟩
abbrev LOOP_SP_GO_HOLD_HERE : Fld := ⟨0x80038, 3, 3⟩
abbrev LOOP_SP_GO_TURN_DIR : Fld := ⟨0x80038, 2, 1⟩
abbrev LOOP_SP_GO_GO : Fld := ⟨0x80038, 0, 0⟩
abbrev LOOP_ORIGIN_CTL_SET : Fld := ⟨0x8004C, 0, 0⟩
abbrev LOOP_TEST_CTL_GO : Fld := ⟨0x80100, 31, 31⟩
abbrev LOOP_TEST_CTL_STOP : Fld := ⟨0x80100, 30, 30⟩
abbrev LOOP_TEST_CTL_SHAPE : Fld := ⟨0x80100, 14, 12⟩
abbrev LOOP_TEST_CTL_POINT : Fld := ⟨0x80100, 8, 8⟩
abbrev LOOP_TEST_CTL_SLOT : Fld := ⟨0x80100, 6, 0⟩
abbrev LOOP_TEST_STATUS_STATE : Fld := ⟨0x8011C, 31, 30⟩
abbrev LOOP_TEST_STATUS_CAUSE : Fld := ⟨0x8011C, 29, 27⟩
abbrev LOOP_TEST_STATUS_SAMPLES : Fld := ⟨0x8011C, 26, 0⟩
abbrev LOOP_CAP_CTL_ARM (n : Nat) : Fld := ⟨0x80200 + n * 0x20, 31, 31⟩
abbrev LOOP_CAP_CTL_ABORT (n : Nat) : Fld := ⟨0x80200 + n * 0x20, 30, 30⟩
abbrev LOOP_CAP_CTL_SLOT (n : Nat) : Fld := ⟨0x80200 + n * 0x20, 22, 16⟩
abbrev LOOP_CAP_CTL_SIG1 (n : Nat) : Fld := ⟨0x80200 + n * 0x20, 13, 10⟩
abbrev LOOP_CAP_CTL_SIG0 (n : Nat) : Fld := ⟨0x80200 + n * 0x20, 9, 6⟩
abbrev LOOP_CAP_CTL_TRIG (n : Nat) : Fld := ⟨0x80200 + n * 0x20, 5, 4⟩
abbrev LOOP_CAP_STATUS_STATE (n : Nat) : Fld := ⟨0x8020C + n * 0x20, 31, 30⟩
abbrev LOOP_CAP_STATUS_ABORTED (n : Nat) : Fld := ⟨0x8020C + n * 0x20, 29, 29⟩
abbrev LOOP_CAP_STATUS_COUNT (n : Nat) : Fld := ⟨0x8020C + n * 0x20, 12, 0⟩
abbrev LOOP_SLOT_CFG_FIRST_SEC (n : Nat) : Fld := ⟨0x81000 + n * 0x40, 21, 12⟩
abbrev LOOP_SLOT_CFG_N_SEC (n : Nat) : Fld := ⟨0x81000 + n * 0x40, 11, 8⟩
abbrev LOOP_SLOT_CFG_RATE (n : Nat) : Fld := ⟨0x81000 + n * 0x40, 1, 0⟩
abbrev LOOP_SLOT_CTL_CLR (n : Nat) : Fld := ⟨0x81004 + n * 0x40, 31, 31⟩
abbrev LOOP_SLOT_CTL_I_LOAD (n : Nat) : Fld := ⟨0x81004 + n * 0x40, 30, 30⟩
abbrev LOOP_SLOT_CTL_AW (n : Nat) : Fld := ⟨0x81004 + n * 0x40, 5, 4⟩
abbrev LOOP_SLOT_SHIFTS_SH_KT (n : Nat) : Fld := ⟨0x81014 + n * 0x40, 20, 16⟩
abbrev LOOP_SLOT_SHIFTS_SH_KI (n : Nat) : Fld := ⟨0x81014 + n * 0x40, 12, 8⟩
abbrev LOOP_SLOT_SHIFTS_SH_G (n : Nat) : Fld := ⟨0x81014 + n * 0x40, 4, 0⟩
abbrev LOOP_SLOT_FLAGS_SEC_SAT (n : Nat) : Fld := ⟨0x81024 + n * 0x40, 15, 8⟩
abbrev LOOP_SLOT_FLAGS_LIMIT (n : Nat) : Fld := ⟨0x81024 + n * 0x40, 4, 4⟩
abbrev LOOP_SLOT_FLAGS_OUT_SAT (n : Nat) : Fld := ⟨0x81024 + n * 0x40, 3, 3⟩
abbrev LOOP_SLOT_FLAGS_GAIN_SAT (n : Nat) : Fld := ⟨0x81024 + n * 0x40, 2, 2⟩
abbrev LOOP_SLOT_FLAGS_SUM_SAT (n : Nat) : Fld := ⟨0x81024 + n * 0x40, 1, 1⟩
abbrev LOOP_SLOT_FLAGS_INT_SAT (n : Nat) : Fld := ⟨0x81024 + n * 0x40, 0, 0⟩
abbrev LOOP_SEC_SH_SH_A2 (n : Nat) : Fld := ⟨0x84014 + n * 0x20, 24, 20⟩
abbrev LOOP_SEC_SH_SH_A1 (n : Nat) : Fld := ⟨0x84014 + n * 0x20, 19, 15⟩
abbrev LOOP_SEC_SH_SH_B2 (n : Nat) : Fld := ⟨0x84014 + n * 0x20, 14, 10⟩
abbrev LOOP_SEC_SH_SH_B1 (n : Nat) : Fld := ⟨0x84014 + n * 0x20, 9, 5⟩
abbrev LOOP_SEC_SH_SH_B0 (n : Nat) : Fld := ⟨0x84014 + n * 0x20, 4, 0⟩
abbrev FIR_POOL_LOAD : Fld := ⟨0x90000, 25, 16⟩
abbrev FIR_POOL_USED : Fld := ⟨0x90000, 13, 0⟩
abbrev FIR_CH_CFG_ANGLE (n : Nat) : Fld := ⟨0x90100 + n * 0x20, 26, 26⟩
abbrev FIR_CH_CFG_DECIM_M1 (n : Nat) : Fld := ⟨0x90100 + n * 0x20, 25, 20⟩
abbrev FIR_CH_CFG_TAPS_B (n : Nat) : Fld := ⟨0x90100 + n * 0x20, 19, 10⟩
abbrev FIR_CH_CFG_TAPS_A (n : Nat) : Fld := ⟨0x90100 + n * 0x20, 9, 0⟩
abbrev FIR_CH_DELAY_DELAY_INT (n : Nat) : Fld := ⟨0x90104 + n * 0x20, 15, 8⟩
abbrev FIR_CH_DELAY_DELAY_FRAC (n : Nat) : Fld := ⟨0x90104 + n * 0x20, 7, 0⟩
abbrev FIR_CH_FADE_GO (n : Nat) : Fld := ⟨0x90110 + n * 0x20, 31, 31⟩
abbrev FIR_CH_FADE_LEN (n : Nat) : Fld := ⟨0x90110 + n * 0x20, 10, 0⟩
abbrev FIR_CH_STATUS_COEF_LOST (n : Nat) : Fld := ⟨0x90114 + n * 0x20, 17, 17⟩
abbrev FIR_CH_STATUS_SAT (n : Nat) : Fld := ⟨0x90114 + n * 0x20, 16, 16⟩
abbrev FIR_CH_STATUS_RESULT (n : Nat) : Fld := ⟨0x90114 + n * 0x20, 14, 12⟩
abbrev FIR_CH_STATUS_FADE_POS (n : Nat) : Fld := ⟨0x90114 + n * 0x20, 11, 2⟩
abbrev FIR_CH_STATUS_FADING (n : Nat) : Fld := ⟨0x90114 + n * 0x20, 1, 1⟩
abbrev FIR_CH_STATUS_ACTIVE (n : Nat) : Fld := ⟨0x90114 + n * 0x20, 0, 0⟩
abbrev SNS_SMP_CFG_EN : Fld := ⟨0xA0000, 8, 8⟩
abbrev SNS_SMP_CFG_LANES : Fld := ⟨0xA0000, 7, 4⟩
abbrev SNS_SMP_CFG_FS_DELAY : Fld := ⟨0xA0000, 2, 2⟩
abbrev SNS_SMP_CFG_RATE : Fld := ⟨0xA0000, 1, 0⟩
abbrev SNS_TRIG_CTL_EN (n : Nat) : Fld := ⟨0xA0018 + n * 0x10, 17, 17⟩
abbrev SNS_TRIG_CTL_POL (n : Nat) : Fld := ⟨0xA0018 + n * 0x10, 16, 16⟩
abbrev SNS_TRIG_CTL_WIDTH (n : Nat) : Fld := ⟨0xA0018 + n * 0x10, 15, 0⟩
abbrev SNS_CNT_CLR_PORT : Fld := ⟨0xA0030, 10, 8⟩
abbrev SNS_CNT_CLR_PORT_CNT : Fld := ⟨0xA0030, 7, 7⟩
abbrev SNS_CNT_CLR_STR_CNT : Fld := ⟨0xA0030, 6, 6⟩
abbrev SNS_CNT_CLR_STREAM : Fld := ⟨0xA0030, 5, 0⟩
abbrev SNS_PORT_CFG_FRAMING (n : Nat) : Fld := ⟨0xA0100 + n * 0x40, 13, 10⟩
abbrev SNS_PORT_CFG_CSUM_OPT (n : Nat) : Fld := ⟨0xA0100 + n * 0x40, 9, 9⟩
abbrev SNS_PORT_CFG_STOP2 (n : Nat) : Fld := ⟨0xA0100 + n * 0x40, 8, 8⟩
abbrev SNS_PORT_CFG_PARITY (n : Nat) : Fld := ⟨0xA0100 + n * 0x40, 7, 6⟩
abbrev SNS_PORT_CFG_MODE (n : Nat) : Fld := ⟨0xA0100 + n * 0x40, 5, 4⟩
abbrev SNS_PORT_CFG_BAUD (n : Nat) : Fld := ⟨0xA0100 + n * 0x40, 3, 0⟩
abbrev SNS_PORT_STATUS_TX_LEVEL (n : Nat) : Fld := ⟨0xA0104 + n * 0x40, 16, 8⟩
abbrev SNS_PORT_STATUS_TX_LOST (n : Nat) : Fld := ⟨0xA0104 + n * 0x40, 2, 2⟩
abbrev SNS_PORT_STATUS_LINE_BREAK (n : Nat) : Fld := ⟨0xA0104 + n * 0x40, 1, 1⟩
abbrev SNS_PORT_STATUS_RX_ACTIVE (n : Nat) : Fld := ⟨0xA0104 + n * 0x40, 0, 0⟩
abbrev SNS_PORT_ERR_FRAME_OVF (n : Nat) : Fld := ⟨0xA0108 + n * 0x40, 16, 16⟩
abbrev SNS_PORT_ERR_FRAME_COUNT (n : Nat) : Fld := ⟨0xA0108 + n * 0x40, 15, 0⟩
abbrev SNS_PORT_ERR_CHECK_OVF (n : Nat) : Fld := ⟨0xA010C + n * 0x40, 16, 16⟩
abbrev SNS_PORT_ERR_CHECK_COUNT (n : Nat) : Fld := ⟨0xA010C + n * 0x40, 15, 0⟩
abbrev SNS_PORT_ERR_OVERRUN_OVF (n : Nat) : Fld := ⟨0xA0110 + n * 0x40, 16, 16⟩
abbrev SNS_PORT_ERR_OVERRUN_COUNT (n : Nat) : Fld := ⟨0xA0110 + n * 0x40, 15, 0⟩
abbrev SNS_PORT_ERR_OTHER_OVF (n : Nat) : Fld := ⟨0xA0114 + n * 0x40, 16, 16⟩
abbrev SNS_PORT_ERR_OTHER_COUNT (n : Nat) : Fld := ⟨0xA0114 + n * 0x40, 15, 0⟩
abbrev SNS_STR_STATUS_DATUM_HOLD (n : Nat) : Fld := ⟨0xA1008 + n * 0x20, 3, 3⟩
abbrev SNS_STR_STATUS_RETIMED (n : Nat) : Fld := ⟨0xA1008 + n * 0x20, 2, 2⟩
abbrev SNS_STR_STATUS_STATE (n : Nat) : Fld := ⟨0xA1008 + n * 0x20, 1, 0⟩
abbrev SNS_STR_SLIP_OVF (n : Nat) : Fld := ⟨0xA1014 + n * 0x20, 16, 16⟩
abbrev SNS_STR_SLIP_COUNT (n : Nat) : Fld := ⟨0xA1014 + n * 0x20, 15, 0⟩
abbrev SNS_STR_GAP_OVF (n : Nat) : Fld := ⟨0xA1018 + n * 0x20, 16, 16⟩
abbrev SNS_STR_GAP_COUNT (n : Nat) : Fld := ⟨0xA1018 + n * 0x20, 15, 0⟩
abbrev SNS_STR_DISCARD_OVF (n : Nat) : Fld := ⟨0xA101C + n * 0x20, 16, 16⟩
abbrev SNS_STR_DISCARD_COUNT (n : Nat) : Fld := ⟨0xA101C + n * 0x20, 15, 0⟩
abbrev FUS_CTL_BIAS_RATE_EN : Fld := ⟨0xB0000, 3, 3⟩
abbrev FUS_CTL_FREEZE_EN : Fld := ⟨0xB0000, 2, 2⟩
abbrev FUS_CTL_AUTO_REJECT : Fld := ⟨0xB0000, 1, 1⟩
abbrev FUS_CTL_DA_WITNESS : Fld := ⟨0xB0000, 0, 0⟩
abbrev FUS_GATE_GATE_H : Fld := ⟨0xB0004, 31, 16⟩
abbrev FUS_GATE_GATE_P : Fld := ⟨0xB0004, 15, 0⟩
abbrev FUS_VOTE_VOTE_K : Fld := ⟨0xB0008, 31, 24⟩
abbrev FUS_VOTE_HDG_VOTE : Fld := ⟨0xB0008, 23, 12⟩
abbrev FUS_VOTE_VOTE_MIN : Fld := ⟨0xB0008, 11, 0⟩
abbrev FUS_TIMING_REQUAL_T : Fld := ⟨0xB000C, 31, 24⟩
abbrev FUS_TIMING_FREEZE_T : Fld := ⟨0xB000C, 23, 16⟩
abbrev FUS_TIMING_DETOUR_HOLD : Fld := ⟨0xB000C, 15, 8⟩
abbrev FUS_TIMING_GATE_N : Fld := ⟨0xB000C, 7, 0⟩
abbrev FUS_COAST_LIM_HDG : Fld := ⟨0xB0014, 31, 16⟩
abbrev FUS_COAST_LIM_POS : Fld := ⟨0xB0014, 15, 0⟩
abbrev FUS_BIAS_RATE_WIN : Fld := ⟨0xB0018, 31, 24⟩
abbrev FUS_BIAS_RATE_RATE : Fld := ⟨0xB0018, 15, 0⟩
abbrev FUS_AUX_GATE_WIND : Fld := ⟨0xB001C, 31, 16⟩
abbrev FUS_AUX_GATE_ATT : Fld := ⟨0xB001C, 15, 0⟩
abbrev FUS_DETOUR_CAUSE : Fld := ⟨0xB0020, 31, 24⟩
abbrev FUS_DETOUR_H : Fld := ⟨0xB0020, 22, 20⟩
abbrev FUS_DETOUR_P : Fld := ⟨0xB0020, 19, 16⟩
abbrev FUS_DETOUR_HOST_D4 : Fld := ⟨0xB0020, 12, 12⟩
abbrev FUS_DETOUR_ALLOC_LEVEL : Fld := ⟨0xB0020, 10, 8⟩
abbrev FUS_DETOUR_REF_LEVEL : Fld := ⟨0xB0020, 6, 4⟩
abbrev FUS_DETOUR_LEVEL : Fld := ⟨0xB0020, 2, 0⟩
abbrev FUS_COAST_HDG : Fld := ⟨0xB0024, 31, 16⟩
abbrev FUS_COAST_POS : Fld := ⟨0xB0024, 15, 0⟩
abbrev FUS_CMD_ACTION : Fld := ⟨0xB0030, 31, 28⟩
abbrev FUS_CMD_TRACK : Fld := ⟨0xB0030, 4, 0⟩
abbrev FUS_STATUS_STATES : Fld := ⟨0xB0034, 21, 16⟩
abbrev FUS_STATUS_CMD_REFUSED : Fld := ⟨0xB0034, 8, 8⟩
abbrev FUS_STATUS_WIND_DISAGREE : Fld := ⟨0xB0034, 4, 4⟩
abbrev FUS_STATUS_MRU_DISAGREE : Fld := ⟨0xB0034, 3, 3⟩
abbrev FUS_STATUS_HDG_COAST : Fld := ⟨0xB0034, 2, 2⟩
abbrev FUS_STATUS_POS_COAST : Fld := ⟨0xB0034, 1, 1⟩
abbrev FUS_STATUS_POS_SET : Fld := ⟨0xB0034, 0, 0⟩
abbrev FUS_TRK_STATUS_REASON (n : Nat) : Fld := ⟨0xB0100 + n * 0x4, 31, 16⟩
abbrev FUS_TRK_STATUS_FLAGS (n : Nat) : Fld := ⟨0xB0100 + n * 0x4, 15, 8⟩
abbrev FUS_TRK_STATUS_STATE (n : Nat) : Fld := ⟨0xB0100 + n * 0x4, 2, 0⟩
abbrev FUS_TRK_GATE_FAIL_OVF (n : Nat) : Fld := ⟨0xB0200 + n * 0x8, 16, 16⟩
abbrev FUS_TRK_GATE_FAIL_COUNT (n : Nat) : Fld := ⟨0xB0200 + n * 0x8, 15, 0⟩
abbrev FUS_TRK_VOTE_OUT_OVF (n : Nat) : Fld := ⟨0xB0204 + n * 0x8, 16, 16⟩
abbrev FUS_TRK_VOTE_OUT_COUNT (n : Nat) : Fld := ⟨0xB0204 + n * 0x8, 15, 0⟩
abbrev FUS_CNT_CLR_TRACK : Fld := ⟨0xB0300, 17, 0⟩
abbrev GNS_CTL_RTK_SRC : Fld := ⟨0xC0000, 13, 12⟩
abbrev GNS_CTL_SBAS_CORR : Fld := ⟨0xC0000, 11, 11⟩
abbrev GNS_CTL_HDG_CAL : Fld := ⟨0xC0000, 10, 10⟩
abbrev GNS_CTL_HDG_EN : Fld := ⟨0xC0000, 9, 9⟩
abbrev GNS_CTL_VECTOR_EN : Fld := ⟨0xC0000, 8, 8⟩
abbrev GNS_CTL_SBAS : Fld := ⟨0xC0000, 3, 3⟩
abbrev GNS_CTL_BDS : Fld := ⟨0xC0000, 2, 2⟩
abbrev GNS_CTL_GAL : Fld := ⟨0xC0000, 1, 1⟩
abbrev GNS_CTL_GPS : Fld := ⟨0xC0000, 0, 0⟩
abbrev GNS_STATUS_SATS_USED : Fld := ⟨0xC0004, 31, 24⟩
abbrev GNS_STATUS_GCLK_LOST : Fld := ⟨0xC0004, 19, 19⟩
abbrev GNS_STATUS_GCLK_UNLOCK : Fld := ⟨0xC0004, 18, 18⟩
abbrev GNS_STATUS_FE_FAULT : Fld := ⟨0xC0004, 17, 17⟩
abbrev GNS_STATUS_NOTCH_FULL : Fld := ⟨0xC0004, 16, 16⟩
abbrev GNS_STATUS_INTEGRITY : Fld := ⟨0xC0004, 15, 15⟩
abbrev GNS_STATUS_FIX : Fld := ⟨0xC0004, 11, 9⟩
abbrev GNS_STATUS_HDG_CAL_DONE : Fld := ⟨0xC0004, 8, 8⟩
abbrev GNS_STATUS_START : Fld := ⟨0xC0004, 5, 4⟩
abbrev GNS_STATUS_MODE : Fld := ⟨0xC0004, 1, 0⟩
abbrev GNS_INTEGRITY_FDE_LIMIT : Fld := ⟨0xC0008, 6, 6⟩
abbrev GNS_INTEGRITY_DOP : Fld := ⟨0xC0008, 5, 5⟩
abbrev GNS_INTEGRITY_CN0 : Fld := ⟨0xC0008, 4, 4⟩
abbrev GNS_INTEGRITY_CLK : Fld := ⟨0xC0008, 3, 3⟩
abbrev GNS_INTEGRITY_ANT : Fld := ⟨0xC0008, 2, 2⟩
abbrev GNS_INTEGRITY_BAND : Fld := ⟨0xC0008, 1, 1⟩
abbrev GNS_INTEGRITY_RAIM : Fld := ⟨0xC0008, 0, 0⟩
abbrev GNS_IF_CFG_INVERT (n : Nat) : Fld := ⟨0xC0010 + n * 0x4, 16, 16⟩
abbrev GNS_IF_CFG_FREQ (n : Nat) : Fld := ⟨0xC0010 + n * 0x4, 14, 0⟩
abbrev GNS_FE_CMD_GO : Fld := ⟨0xC0020, 31, 31⟩
abbrev GNS_FE_CMD_RATE : Fld := ⟨0xC0020, 25, 24⟩
abbrev GNS_FE_CMD_LEN_IN : Fld := ⟨0xC0020, 13, 8⟩
abbrev GNS_FE_CMD_LEN_OUT : Fld := ⟨0xC0020, 5, 0⟩
abbrev GNS_CHK_CN0_EXCESS : Fld := ⟨0xC0050, 31, 16⟩
abbrev GNS_CHK_CN0_SPREAD_MIN : Fld := ⟨0xC0050, 15, 0⟩
abbrev GNS_NOTCH_CFG_TH : Fld := ⟨0xC0060, 15, 8⟩
abbrev GNS_NOTCH_CFG_EN : Fld := ⟨0xC0060, 3, 0⟩
abbrev GNS_NOTCH_STATUS_ACTIVE (n : Nat) : Fld := ⟨0xC0160 + n * 0x4, 31, 31⟩
abbrev GNS_NOTCH_STATUS_JNR (n : Nat) : Fld := ⟨0xC0160 + n * 0x4, 30, 24⟩
abbrev GNS_NOTCH_STATUS_FREQ (n : Nat) : Fld := ⟨0xC0160 + n * 0x4, 15, 0⟩
abbrev GNS_HDG_Q_VALID : Fld := ⟨0xC0094, 31, 31⟩
abbrev GNS_HDG_Q_SATS : Fld := ⟨0xC0094, 23, 16⟩
abbrev GNS_HDG_Q_SIGMA : Fld := ⟨0xC0094, 15, 0⟩
abbrev GNS_PVT_Q_HDOP : Fld := ⟨0xC00CC, 31, 16⟩
abbrev GNS_PVT_Q_AGE : Fld := ⟨0xC00CC, 15, 8⟩
abbrev GNS_RTCM_STATUS_STATION : Fld := ⟨0xC0104, 31, 20⟩
abbrev GNS_RTCM_STATUS_AGE : Fld := ⟨0xC0104, 15, 8⟩
abbrev GNS_RTCM_ERR_OVF : Fld := ⟨0xC0108, 16, 16⟩
abbrev GNS_RTCM_ERR_COUNT : Fld := ⟨0xC0108, 15, 0⟩
abbrev GNS_RTCM_IGNORED_OVF : Fld := ⟨0xC010C, 16, 16⟩
abbrev GNS_RTCM_IGNORED_COUNT : Fld := ⟨0xC010C, 15, 0⟩
abbrev GNS_PPS_CTL_SUPPRESS_UNQUAL : Fld := ⟨0xC0120, 18, 18⟩
abbrev GNS_PPS_CTL_POL : Fld := ⟨0xC0120, 17, 17⟩
abbrev GNS_PPS_CTL_EN : Fld := ⟨0xC0120, 16, 16⟩
abbrev GNS_PPS_CTL_WIDTH : Fld := ⟨0xC0120, 8, 0⟩
abbrev GNS_VERGE_RETIRED : Fld := ⟨0xC0150, 23, 16⟩
abbrev GNS_VERGE_SPARES_FREE : Fld := ⟨0xC0150, 4, 0⟩
abbrev GNS_CH_STATUS_CN0 (n : Nat) : Fld := ⟨0xC1000 + n * 0x4, 31, 24⟩
abbrev GNS_CH_STATUS_EXCL (n : Nat) : Fld := ⟨0xC1000 + n * 0x4, 23, 21⟩
abbrev GNS_CH_STATUS_STATE (n : Nat) : Fld := ⟨0xC1000 + n * 0x4, 20, 19⟩
abbrev GNS_CH_STATUS_STREAM (n : Nat) : Fld := ⟨0xC1000 + n * 0x4, 18, 17⟩
abbrev GNS_CH_STATUS_SYS (n : Nat) : Fld := ⟨0xC1000 + n * 0x4, 16, 14⟩
abbrev GNS_CH_STATUS_SVID (n : Nat) : Fld := ⟨0xC1000 + n * 0x4, 7, 0⟩
abbrev TIM_STATUS_JUMP_REFUSED : Fld := ⟨0xD0000, 20, 20⟩
abbrev TIM_STATUS_GM : Fld := ⟨0xD0000, 18, 18⟩
abbrev TIM_STATUS_SLEWING : Fld := ⟨0xD0000, 17, 17⟩
abbrev TIM_STATUS_JUMP_PENDING : Fld := ⟨0xD0000, 16, 16⟩
abbrev TIM_STATUS_SOURCE : Fld := ⟨0xD0000, 10, 8⟩
abbrev TIM_STATUS_QUALITY : Fld := ⟨0xD0000, 1, 0⟩
abbrev TIM_SRC_THIRD : Fld := ⟨0xD0004, 10, 8⟩
abbrev TIM_SRC_SECOND : Fld := ⟨0xD0004, 6, 4⟩
abbrev TIM_SRC_FIRST : Fld := ⟨0xD0004, 2, 0⟩
abbrev TIM_JUMP_CTL_ACCEPT : Fld := ⟨0xD0010, 0, 0⟩
abbrev TIM_UTC_VALID : Fld := ⟨0xD0030, 31, 31⟩
abbrev TIM_UTC_LEAP : Fld := ⟨0xD0030, 25, 24⟩
abbrev TIM_UTC_ORIGIN : Fld := ⟨0xD0030, 17, 16⟩
abbrev TIM_UTC_OFFSET : Fld := ⟨0xD0030, 15, 0⟩
abbrev TIM_PTP_CFG_PRIORITY1 : Fld := ⟨0xD0040, 31, 24⟩
abbrev TIM_PTP_CFG_PRIORITY2 : Fld := ⟨0xD0040, 23, 16⟩
abbrev TIM_PTP_CFG_DOMAIN : Fld := ⟨0xD0040, 15, 8⟩
abbrev TIM_PTP_CFG_TC_EN : Fld := ⟨0xD0040, 3, 3⟩
abbrev TIM_PTP_CFG_OC_EN : Fld := ⟨0xD0040, 2, 2⟩
abbrev TIM_PTP_CFG_GM_EN : Fld := ⟨0xD0040, 1, 1⟩
abbrev TIM_PTP_CFG_E2E_CW : Fld := ⟨0xD0040, 0, 0⟩
abbrev TIM_PTP_INTV_ANN_TMO : Fld := ⟨0xD0044, 19, 16⟩
abbrev TIM_PTP_INTV_LOG_DELAY : Fld := ⟨0xD0044, 15, 12⟩
abbrev TIM_PTP_INTV_LOG_PDELAY : Fld := ⟨0xD0044, 11, 8⟩
abbrev TIM_PTP_INTV_LOG_ANNOUNCE : Fld := ⟨0xD0044, 7, 4⟩
abbrev TIM_PTP_INTV_LOG_SYNC : Fld := ⟨0xD0044, 3, 0⟩
abbrev TIM_JUMPS_OVF : Fld := ⟨0xD0050, 16, 16⟩
abbrev TIM_JUMPS_COUNT : Fld := ⟨0xD0050, 15, 0⟩
abbrev FBK_PDIV_CFG_DIV_M1 (n : Nat) : Fld := ⟨0xE0000 + n * 0x4, 31, 16⟩
abbrev FBK_PDIV_CFG_CHAN (n : Nat) : Fld := ⟨0xE0000 + n * 0x4, 6, 4⟩
abbrev FBK_PDIV_CFG_SRC (n : Nat) : Fld := ⟨0xE0000 + n * 0x4, 1, 0⟩
abbrev FBK_CNT_CLR_CMP_FIRES : Fld := ⟨0xE0010, 13, 8⟩
abbrev FBK_CNT_CLR_ILLEGAL : Fld := ⟨0xE0010, 5, 0⟩
abbrev FB_CFG_STANDSTILL (n : Nat) : Fld := ⟨0xE0100 + n * 0x80, 31, 24⟩
abbrev FB_CFG_SPEED_WIN (n : Nat) : Fld := ⟨0xE0100 + n * 0x80, 23, 16⟩
abbrev FB_CFG_FILTER (n : Nat) : Fld := ⟨0xE0100 + n * 0x80, 15, 8⟩
abbrev FB_CFG_INV (n : Nat) : Fld := ⟨0xE0100 + n * 0x80, 6, 4⟩
abbrev FB_CFG_INDEX_EN (n : Nat) : Fld := ⟨0xE0100 + n * 0x80, 3, 3⟩
abbrev FB_CFG_MODE (n : Nat) : Fld := ⟨0xE0100 + n * 0x80, 2, 0⟩
abbrev FB_FLAGS_DIR_SETUP (n : Nat) : Fld := ⟨0xE0108 + n * 0x80, 3, 3⟩
abbrev FB_FLAGS_ILLEGAL (n : Nat) : Fld := ⟨0xE0108 + n * 0x80, 2, 2⟩
abbrev FB_FLAGS_WRAP_REV (n : Nat) : Fld := ⟨0xE0108 + n * 0x80, 1, 1⟩
abbrev FB_FLAGS_WRAP_FWD (n : Nat) : Fld := ⟨0xE0108 + n * 0x80, 0, 0⟩
abbrev FB_STATE_LINES (n : Nat) : Fld := ⟨0xE0124 + n * 0x80, 6, 4⟩
abbrev FB_STATE_INDEX_SEEN (n : Nat) : Fld := ⟨0xE0124 + n * 0x80, 3, 3⟩
abbrev FB_STATE_STANDSTILL (n : Nat) : Fld := ⟨0xE0124 + n * 0x80, 2, 2⟩
abbrev FB_STATE_DIR (n : Nat) : Fld := ⟨0xE0124 + n * 0x80, 1, 0⟩
abbrev FB_ILLEGAL_OVF (n : Nat) : Fld := ⟨0xE0128 + n * 0x80, 16, 16⟩
abbrev FB_ILLEGAL_COUNT (n : Nat) : Fld := ⟨0xE0128 + n * 0x80, 15, 0⟩
abbrev FB_CMP_CTL_IRQ (n : Nat) : Fld := ⟨0xE0138 + n * 0x80, 2, 2⟩
abbrev FB_CMP_CTL_AUTO (n : Nat) : Fld := ⟨0xE0138 + n * 0x80, 1, 1⟩
abbrev FB_CMP_CTL_EN (n : Nat) : Fld := ⟨0xE0138 + n * 0x80, 0, 0⟩
abbrev FB_CMP_STATUS_FIRED (n : Nat) : Fld := ⟨0xE013C + n * 0x80, 3, 3⟩
abbrev FB_CMP_STATUS_BEHIND (n : Nat) : Fld := ⟨0xE013C + n * 0x80, 2, 2⟩
abbrev FB_CMP_STATUS_ARM (n : Nat) : Fld := ⟨0xE013C + n * 0x80, 1, 0⟩
abbrev FB_CMP_FIRES_OVF (n : Nat) : Fld := ⟨0xE0160 + n * 0x80, 16, 16⟩
abbrev FB_CMP_FIRES_COUNT (n : Nat) : Fld := ⟨0xE0160 + n * 0x80, 15, 0⟩
abbrev LANE_CTL_CLEAR (n : Nat) : Fld := ⟨0xF0000 + n * 0x400, 1, 1⟩
abbrev LANE_CTL_EN (n : Nat) : Fld := ⟨0xF0000 + n * 0x400, 0, 0⟩
abbrev LANE_STATE_CLEAR_REFUSED (n : Nat) : Fld := ⟨0xF0004 + n * 0x400, 12, 12⟩
abbrev LANE_STATE_KERB_PERMIT (n : Nat) : Fld := ⟨0xF0004 + n * 0x400, 11, 11⟩
abbrev LANE_STATE_DRIVE_READY (n : Nat) : Fld := ⟨0xF0004 + n * 0x400, 10, 10⟩
abbrev LANE_STATE_FB_OK (n : Nat) : Fld := ⟨0xF0004 + n * 0x400, 9, 9⟩
abbrev LANE_STATE_AZ_VALID (n : Nat) : Fld := ⟨0xF0004 + n * 0x400, 8, 8⟩
abbrev LANE_STATE_CAUSE (n : Nat) : Fld := ⟨0xF0004 + n * 0x400, 7, 4⟩
abbrev LANE_STATE_STATE (n : Nat) : Fld := ⟨0xF0004 + n * 0x400, 2, 0⟩
abbrev LANE_FAULTS_OVF (n : Nat) : Fld := ⟨0xF002C + n * 0x400, 16, 16⟩
abbrev LANE_FAULTS_COUNT (n : Nat) : Fld := ⟨0xF002C + n * 0x400, 15, 0⟩
abbrev LANE_BIND_AZ_SENSE (n : Nat) : Fld := ⟨0xF0100 + n * 0x400, 24, 24⟩
abbrev LANE_BIND_SLOT_T (n : Nat) : Fld := ⟨0xF0100 + n * 0x400, 22, 16⟩
abbrev LANE_BIND_SLOT_AZ (n : Nat) : Fld := ⟨0xF0100 + n * 0x400, 14, 8⟩
abbrev LANE_BIND_ENABLED (n : Nat) : Fld := ⟨0xF0100 + n * 0x400, 7, 7⟩
abbrev LANE_BIND_FB_T (n : Nat) : Fld := ⟨0xF0100 + n * 0x400, 6, 4⟩
abbrev LANE_BIND_FB_AZ (n : Nat) : Fld := ⟨0xF0100 + n * 0x400, 2, 0⟩
abbrev LANE_CMD_DEST_CMD_NODE (n : Nat) : Fld := ⟨0xF0104 + n * 0x400, 31, 16⟩
abbrev LANE_CMD_DEST_CMD_INDEX (n : Nat) : Fld := ⟨0xF0104 + n * 0x400, 3, 0⟩
abbrev LANE_FB_REMOTE_FB_NODE (n : Nat) : Fld := ⟨0xF0108 + n * 0x400, 31, 16⟩
abbrev LANE_FB_REMOTE_FB_AZ_FIELD (n : Nat) : Fld := ⟨0xF0108 + n * 0x400, 7, 4⟩
abbrev LANE_FB_REMOTE_FB_T_FIELD (n : Nat) : Fld := ⟨0xF0108 + n * 0x400, 3, 0⟩
abbrev LANE_SAFE_ILL_LIM (n : Nat) : Fld := ⟨0xF010C + n * 0x400, 31, 24⟩
abbrev LANE_SAFE_FB_TMO (n : Nat) : Fld := ⟨0xF010C + n * 0x400, 23, 16⟩
abbrev LANE_SAFE_SO_GROUP (n : Nat) : Fld := ⟨0xF010C + n * 0x400, 11, 8⟩
abbrev LANE_SAFE_KERB_ENTRY (n : Nat) : Fld := ⟨0xF010C + n * 0x400, 5, 0⟩
abbrev LANE_FOLLOW_FOLLOW_AZ (n : Nat) : Fld := ⟨0xF011C + n * 0x400, 31, 16⟩
abbrev LANE_FOLLOW_FOLLOW_T (n : Nat) : Fld := ⟨0xF011C + n * 0x400, 15, 0⟩
abbrev LANE_RAMP_RAMP_T (n : Nat) : Fld := ⟨0xF0120 + n * 0x400, 15, 0⟩
abbrev KRB_STATUS_SET : Fld := ⟨0x100000, 31, 24⟩
abbrev KRB_STATUS_FATAL : Fld := ⟨0x100000, 19, 19⟩
abbrev KRB_STATUS_ACK_REFUSED : Fld := ⟨0x100000, 18, 18⟩
abbrev KRB_STATUS_L_RUN : Fld := ⟨0x100000, 17, 17⟩
abbrev KRB_STATUS_P_RUN : Fld := ⟨0x100000, 16, 16⟩
abbrev KRB_STATUS_COMM : Fld := ⟨0x100000, 9, 9⟩
abbrev KRB_STATUS_TEST_PERMIT : Fld := ⟨0x100000, 8, 8⟩
abbrev KRB_STATUS_SEAL_STATE : Fld := ⟨0x100000, 1, 0⟩
abbrev KRB_SO_EN_EN : Fld := ⟨0x100010, 3, 0⟩
abbrev KRB_ACK_CH_CLEAR : Fld := ⟨0x100014, 23, 20⟩
abbrev KRB_ACK_GROUP : Fld := ⟨0x100014, 19, 16⟩
abbrev KRB_ACK_LANE_ACK : Fld := ⟨0x100014, 15, 15⟩
abbrev KRB_ACK_LANE : Fld := ⟨0x100014, 5, 0⟩
abbrev KRB_SO_STATUS_FAULT (n : Nat) : Fld := ⟨0x100020 + n * 0x4, 19, 16⟩
abbrev KRB_SO_STATUS_LS_PASS (n : Nat) : Fld := ⟨0x100020 + n * 0x4, 13, 13⟩
abbrev KRB_SO_STATUS_HS_PASS (n : Nat) : Fld := ⟨0x100020 + n * 0x4, 12, 12⟩
abbrev KRB_SO_STATUS_MISSED (n : Nat) : Fld := ⟨0x100020 + n * 0x4, 11, 8⟩
abbrev KRB_SO_STATUS_RBL (n : Nat) : Fld := ⟨0x100020 + n * 0x4, 7, 7⟩
abbrev KRB_SO_STATUS_RBH (n : Nat) : Fld := ⟨0x100020 + n * 0x4, 6, 6⟩
abbrev KRB_SO_STATUS_LS (n : Nat) : Fld := ⟨0x100020 + n * 0x4, 5, 5⟩
abbrev KRB_SO_STATUS_HS (n : Nat) : Fld := ⟨0x100020 + n * 0x4, 4, 4⟩
abbrev KRB_SO_STATUS_STATE (n : Nat) : Fld := ⟨0x100020 + n * 0x4, 2, 0⟩
abbrev KRB_TRIPS_OVF : Fld := ⟨0x100040, 16, 16⟩
abbrev KRB_TRIPS_COUNT : Fld := ⟨0x100040, 15, 0⟩
abbrev KRB_CMD_VIOL_OVF : Fld := ⟨0x100044, 16, 16⟩
abbrev KRB_CMD_VIOL_COUNT : Fld := ⟨0x100044, 15, 0⟩
abbrev KRB_PREALARM_WITHDRAWN_OVF : Fld := ⟨0x100048, 16, 16⟩
abbrev KRB_PREALARM_WITHDRAWN_COUNT : Fld := ⟨0x100048, 15, 0⟩
abbrev KRB_TEST_DISCARD_OVF : Fld := ⟨0x10004C, 16, 16⟩
abbrev KRB_TEST_DISCARD_COUNT : Fld := ⟨0x10004C, 15, 0⟩
abbrev KRB_SEAL_UNSTABLE_OVF : Fld := ⟨0x100050, 16, 16⟩
abbrev KRB_SEAL_UNSTABLE_COUNT : Fld := ⟨0x100050, 15, 0⟩
abbrev KRB_CONN_CLR_GO : Fld := ⟨0x100064, 8, 8⟩
abbrev KRB_CONN_CLR_CONN : Fld := ⟨0x100064, 7, 0⟩
abbrev KRB_LANE_STATUS_DISC (n : Nat) : Fld := ⟨0x101000 + n * 0x20, 10, 10⟩
abbrev KRB_LANE_STATUS_VIOLATION (n : Nat) : Fld := ⟨0x101000 + n * 0x20, 8, 8⟩
abbrev KRB_LANE_STATUS_FUNC (n : Nat) : Fld := ⟨0x101000 + n * 0x20, 7, 4⟩
abbrev KRB_LANE_STATUS_LATCHED (n : Nat) : Fld := ⟨0x101000 + n * 0x20, 3, 3⟩
abbrev KRB_LANE_STATUS_HOMED_L (n : Nat) : Fld := ⟨0x101000 + n * 0x20, 2, 2⟩
abbrev KRB_LANE_STATUS_HOMED_P (n : Nat) : Fld := ⟨0x101000 + n * 0x20, 1, 1⟩
abbrev KRB_LANE_STATUS_PERMIT (n : Nat) : Fld := ⟨0x101000 + n * 0x20, 0, 0⟩
abbrev KRB_CONN_STATUS_CONN_ID (n : Nat) : Fld := ⟨0x104000 + n * 0x10, 31, 16⟩
abbrev KRB_CONN_STATUS_T_EXP (n : Nat) : Fld := ⟨0x104000 + n * 0x10, 15, 8⟩
abbrev KRB_CONN_STATUS_ERR_LEVEL (n : Nat) : Fld := ⟨0x104000 + n * 0x10, 7, 4⟩
abbrev KRB_CONN_STATUS_STATE (n : Nat) : Fld := ⟨0x104000 + n * 0x10, 2, 0⟩
abbrev KRB_CONN_CRC_ERR_OVF (n : Nat) : Fld := ⟨0x104004 + n * 0x10, 16, 16⟩
abbrev KRB_CONN_CRC_ERR_COUNT (n : Nat) : Fld := ⟨0x104004 + n * 0x10, 15, 0⟩
abbrev KRB_CONN_SEQ_ERR_OVF (n : Nat) : Fld := ⟨0x104008 + n * 0x10, 16, 16⟩
abbrev KRB_CONN_SEQ_ERR_COUNT (n : Nat) : Fld := ⟨0x104008 + n * 0x10, 15, 0⟩
abbrev KRB_CONN_TIMEOUTS_OVF (n : Nat) : Fld := ⟨0x10400C + n * 0x10, 16, 16⟩
abbrev KRB_CONN_TIMEOUTS_COUNT (n : Nat) : Fld := ⟨0x10400C + n * 0x10, 15, 0⟩
abbrev RING_CFG_ADDRESS : Fld := ⟨0x110000, 31, 16⟩
abbrev RING_CFG_CYCLE : Fld := ⟨0x110000, 15, 14⟩
abbrev RING_CFG_JUNCTION : Fld := ⟨0x110000, 13, 13⟩
abbrev RING_CFG_AN_EN : Fld := ⟨0x110000, 12, 12⟩
abbrev RING_CTL_RELEASE_B : Fld := ⟨0x110008, 5, 5⟩
abbrev RING_CTL_RELEASE_A : Fld := ⟨0x110008, 4, 4⟩
abbrev RING_CTL_LEAVE_B : Fld := ⟨0x110008, 1, 1⟩
abbrev RING_CTL_LEAVE_A : Fld := ⟨0x110008, 0, 0⟩
abbrev RING_STATUS_OWNER : Fld := ⟨0x11000C, 31, 16⟩
abbrev RING_STATUS_SYNC_LOST : Fld := ⟨0x11000C, 11, 11⟩
abbrev RING_STATUS_STATE_B : Fld := ⟨0x11000C, 10, 8⟩
abbrev RING_STATUS_STATE_A : Fld := ⟨0x11000C, 6, 4⟩
abbrev RING_STATUS_MASTER_B : Fld := ⟨0x11000C, 1, 1⟩
abbrev RING_STATUS_MASTER_A : Fld := ⟨0x11000C, 0, 0⟩
abbrev RING_CNT_CLR_MGMT_LOST : Fld := ⟨0x110060, 9, 9⟩
abbrev RING_CNT_CLR_BREAKS : Fld := ⟨0x110060, 8, 8⟩
abbrev RING_CNT_CLR_PORT : Fld := ⟨0x110060, 3, 0⟩
abbrev RING_BREAKS_OVF : Fld := ⟨0x110064, 16, 16⟩
abbrev RING_BREAKS_COUNT : Fld := ⟨0x110064, 15, 0⟩
abbrev RING_MGMT_LOST_OVF : Fld := ⟨0x110068, 16, 16⟩
abbrev RING_MGMT_LOST_COUNT : Fld := ⟨0x110068, 15, 0⟩
abbrev RING_MGMT_TX_HDR_DST : Fld := ⟨0x110080, 31, 16⟩
abbrev RING_MGMT_TX_HDR_MSG : Fld := ⟨0x110080, 15, 8⟩
abbrev RING_MGMT_TX_HDR_ALL : Fld := ⟨0x110080, 2, 2⟩
abbrev RING_MGMT_TX_HDR_RING : Fld := ⟨0x110080, 1, 0⟩
abbrev RING_MGMT_TX_CTL_GO : Fld := ⟨0x110084, 31, 31⟩
abbrev RING_MGMT_TX_CTL_LEN : Fld := ⟨0x110084, 26, 16⟩
abbrev RING_MGMT_TX_CTL_TAG : Fld := ⟨0x110084, 15, 0⟩
abbrev RING_MGMT_RX_STATUS_AVAIL : Fld := ⟨0x110088, 31, 31⟩
abbrev RING_MGMT_RX_STATUS_LEN : Fld := ⟨0x110088, 26, 16⟩
abbrev RING_MGMT_RX_STATUS_TAG : Fld := ⟨0x110088, 15, 0⟩
abbrev RING_MGMT_RX_HDR_SRC : Fld := ⟨0x11008C, 31, 16⟩
abbrev RING_MGMT_RX_HDR_MSG : Fld := ⟨0x11008C, 15, 8⟩
abbrev RING_MGMT_RX_HDR_RING : Fld := ⟨0x11008C, 1, 0⟩
abbrev RING_PORT_STATUS_PDELAY (n : Nat) : Fld := ⟨0x110100 + n * 0x40, 31, 16⟩
abbrev RING_PORT_STATUS_LINK_REFUSED (n : Nat) : Fld := ⟨0x110100 + n * 0x40, 5, 5⟩
abbrev RING_PORT_STATUS_LOOPING (n : Nat) : Fld := ⟨0x110100 + n * 0x40, 4, 4⟩
abbrev RING_PORT_STATUS_AN_DONE (n : Nat) : Fld := ⟨0x110100 + n * 0x40, 3, 3⟩
abbrev RING_PORT_STATUS_PCS_SYNC (n : Nat) : Fld := ⟨0x110100 + n * 0x40, 2, 2⟩
abbrev RING_PORT_STATUS_LINK (n : Nat) : Fld := ⟨0x110100 + n * 0x40, 1, 1⟩
abbrev RING_PORT_FCS_ERR_OVF (n : Nat) : Fld := ⟨0x110104 + n * 0x40, 16, 16⟩
abbrev RING_PORT_FCS_ERR_COUNT (n : Nat) : Fld := ⟨0x110104 + n * 0x40, 15, 0⟩
abbrev RING_PORT_FOREIGN_OVF (n : Nat) : Fld := ⟨0x110108 + n * 0x40, 16, 16⟩
abbrev RING_PORT_FOREIGN_COUNT (n : Nat) : Fld := ⟨0x110108 + n * 0x40, 15, 0⟩
abbrev RING_PORT_HOPS_EXPIRED_OVF (n : Nat) : Fld := ⟨0x11010C + n * 0x40, 16, 16⟩
abbrev RING_PORT_HOPS_EXPIRED_COUNT (n : Nat) : Fld := ⟨0x11010C + n * 0x40, 15, 0⟩
abbrev RING_PORT_BAD_STAMP_OVF (n : Nat) : Fld := ⟨0x110110 + n * 0x40, 16, 16⟩
abbrev RING_PORT_BAD_STAMP_COUNT (n : Nat) : Fld := ⟨0x110110 + n * 0x40, 15, 0⟩
abbrev RING_PORT_LATE_OVF (n : Nat) : Fld := ⟨0x110114 + n * 0x40, 16, 16⟩
abbrev RING_PORT_LATE_COUNT (n : Nat) : Fld := ⟨0x110114 + n * 0x40, 15, 0⟩
abbrev RING_NODE_STATUS_OVF (n : Nat) : Fld := ⟨0x111000 + n * 0x4, 18, 18⟩
abbrev RING_NODE_STATUS_PRESENT_B (n : Nat) : Fld := ⟨0x111000 + n * 0x4, 17, 17⟩
abbrev RING_NODE_STATUS_PRESENT_A (n : Nat) : Fld := ⟨0x111000 + n * 0x4, 16, 16⟩
abbrev RING_NODE_STATUS_MISSES (n : Nat) : Fld := ⟨0x111000 + n * 0x4, 15, 0⟩
abbrev RED_CFG_PARTNER : Fld := ⟨0x120000, 31, 16⟩
abbrev RED_CFG_TAKE_WAIT : Fld := ⟨0x120000, 11, 8⟩
abbrev RED_CFG_ROLE_SEL : Fld := ⟨0x120000, 1, 1⟩
abbrev RED_CFG_CAUSEWAY : Fld := ⟨0x120000, 0, 0⟩
abbrev RED_STATUS_EXCH_RESULT : Fld := ⟨0x120004, 23, 20⟩
abbrev RED_STATUS_PARTNER_ROLE : Fld := ⟨0x120004, 18, 16⟩
abbrev RED_STATUS_CW_SILENT : Fld := ⟨0x120004, 7, 7⟩
abbrev RED_STATUS_HB_SILENT : Fld := ⟨0x120004, 6, 6⟩
abbrev RED_STATUS_RING_STANDBY : Fld := ⟨0x120004, 5, 5⟩
abbrev RED_STATUS_CURRENT : Fld := ⟨0x120004, 4, 4⟩
abbrev RED_STATUS_ROLE : Fld := ⟨0x120004, 2, 0⟩
abbrev RED_CMD_ASSUME : Fld := ⟨0x120008, 1, 1⟩
abbrev RED_CMD_EXCHANGE : Fld := ⟨0x120008, 0, 0⟩
abbrev RED_TAKEOVERS_OVF : Fld := ⟨0x120040, 16, 16⟩
abbrev RED_TAKEOVERS_COUNT : Fld := ⟨0x120040, 15, 0⟩
abbrev RED_DEMOTIONS_OVF : Fld := ⟨0x120044, 16, 16⟩
abbrev RED_DEMOTIONS_COUNT : Fld := ⟨0x120044, 15, 0⟩
abbrev RED_PATH_FAULTS_OVF : Fld := ⟨0x120048, 16, 16⟩
abbrev RED_PATH_FAULTS_COUNT : Fld := ⟨0x120048, 15, 0⟩
abbrev RED_MS_LOST_OVF : Fld := ⟨0x12004C, 16, 16⟩
abbrev RED_MS_LOST_COUNT : Fld := ⟨0x12004C, 15, 0⟩
abbrev LOG_STATUS_FULL : Fld := ⟨0x130000, 31, 31⟩
abbrev LOG_STATUS_OPSEC_STUCK : Fld := ⟨0x130000, 30, 30⟩
abbrev LOG_STATUS_PCC_STUCK : Fld := ⟨0x130000, 29, 29⟩
abbrev LOG_STATUS_CLEARING : Fld := ⟨0x130000, 28, 28⟩
abbrev LOG_STATUS_COUNT : Fld := ⟨0x130000, 14, 0⟩
abbrev LOG_TAIL_WRAPPED : Fld := ⟨0x130004, 16, 16⟩
abbrev LOG_TAIL_NEXT : Fld := ⟨0x130004, 7, 0⟩
abbrev LOG_DROPPED_OVF : Fld := ⟨0x130010, 16, 16⟩
abbrev LOG_DROPPED_COUNT : Fld := ⟨0x130010, 15, 0⟩
abbrev LOG_RD_INDEX_VALID : Fld := ⟨0x130020, 31, 31⟩
abbrev LOG_RD_INDEX_INDEX : Fld := ⟨0x130020, 14, 0⟩
abbrev LOG_CMD_MARK : Fld := ⟨0x130048, 2, 2⟩
abbrev LOG_CMD_VERIFY : Fld := ⟨0x130048, 1, 1⟩
abbrev LOG_CMD_CLEAR : Fld := ⟨0x130048, 0, 0⟩
abbrev LOG_VERIFY_DONE : Fld := ⟨0x130050, 31, 31⟩
abbrev LOG_VERIFY_BUSY : Fld := ⟨0x130050, 30, 30⟩
abbrev LOG_VERIFY_RESULT : Fld := ⟨0x130050, 26, 24⟩
abbrev LOG_VERIFY_FIRST_CHECKED : Fld := ⟨0x130050, 16, 8⟩
abbrev LOG_VERIFY_BLOCK : Fld := ⟨0x130050, 7, 0⟩
abbrev SEC_STATUS_LATCHED : Fld := ⟨0x140000, 22, 16⟩
abbrev SEC_STATUS_JTAG_OPEN : Fld := ⟨0x140000, 15, 15⟩
abbrev SEC_STATUS_ERASE_PENDING : Fld := ⟨0x140000, 14, 14⟩
abbrev SEC_STATUS_RSK : Fld := ⟨0x140000, 10, 10⟩
abbrev SEC_STATUS_DIK : Fld := ⟨0x140000, 9, 9⟩
abbrev SEC_STATUS_KEK : Fld := ⟨0x140000, 8, 8⟩
abbrev SEC_STATUS_SKEY : Fld := ⟨0x140000, 7, 4⟩
abbrev SEC_STATUS_GRADE : Fld := ⟨0x140000, 1, 0⟩
abbrev SEC_POLICY_GRADES : Fld := ⟨0x140004, 13, 0⟩
abbrev SEC_ALARM_CLR_CAUSE : Fld := ⟨0x140008, 6, 0⟩
abbrev SEC_CMD_SLOT : Fld := ⟨0x14000C, 9, 8⟩
abbrev SEC_CMD_LOAD_KEK : Fld := ⟨0x14000C, 6, 6⟩
abbrev SEC_CMD_EXPORT : Fld := ⟨0x14000C, 5, 5⟩
abbrev SEC_CMD_GEN_DIK : Fld := ⟨0x14000C, 4, 4⟩
abbrev SEC_CMD_ATTEST : Fld := ⟨0x14000C, 3, 3⟩
abbrev SEC_CMD_LOAD_SKEY : Fld := ⟨0x14000C, 2, 2⟩
abbrev SEC_CMD_ERASE_ALL : Fld := ⟨0x14000C, 1, 1⟩
abbrev SEC_CMD_ERASE_SESSION : Fld := ⟨0x14000C, 0, 0⟩
abbrev SEC_RESULT_BUSY : Fld := ⟨0x140010, 31, 31⟩
abbrev SEC_RESULT_CODE : Fld := ⟨0x140010, 3, 0⟩
abbrev SEC_JTAG_CTL_PERMIT : Fld := ⟨0x140014, 0, 0⟩
abbrev SEC_UNPRIV_OVF : Fld := ⟨0x140150, 16, 16⟩
abbrev SEC_UNPRIV_COUNT : Fld := ⟨0x140150, 15, 0⟩
abbrev SEC_TAG_FAIL_OVF : Fld := ⟨0x140154, 16, 16⟩
abbrev SEC_TAG_FAIL_COUNT : Fld := ⟨0x140154, 15, 0⟩
abbrev HLT_STATUS_FATAL : Fld := ⟨0x150000, 31, 31⟩
abbrev HLT_STATUS_FATAL_CAUSE : Fld := ⟨0x150000, 27, 24⟩
abbrev HLT_STATUS_SWAP_BUSY : Fld := ⟨0x150000, 16, 16⟩
abbrev HLT_STATUS_DEGRADED : Fld := ⟨0x150000, 8, 8⟩
abbrev HLT_PACE_MARGIN_ALLOC : Fld := ⟨0x150004, 31, 16⟩
abbrev HLT_PACE_MARGIN_WORK : Fld := ⟨0x150004, 15, 0⟩
abbrev HLT_MARGIN_SEL_AGE : Fld := ⟨0x150008, 7, 0⟩
abbrev HLT_MARGIN_HIST_ALLOC : Fld := ⟨0x15000C, 31, 16⟩
abbrev HLT_MARGIN_HIST_WORK : Fld := ⟨0x15000C, 15, 0⟩
abbrev HLT_MARGIN_MIN_ALLOC : Fld := ⟨0x150010, 31, 16⟩
abbrev HLT_MARGIN_MIN_WORK : Fld := ⟨0x150010, 15, 0⟩
abbrev HLT_LEG_OVERRUN_LAST_MARK : Fld := ⟨0x150014, 27, 24⟩
abbrev HLT_LEG_OVERRUN_OVF : Fld := ⟨0x150014, 16, 16⟩
abbrev HLT_LEG_OVERRUN_COUNT : Fld := ⟨0x150014, 15, 0⟩
abbrev HLT_VERGE_CTL_LAT_TH : Fld := ⟨0x150020, 31, 16⟩
abbrev HLT_VERGE_CTL_ROW_TH : Fld := ⟨0x150020, 11, 8⟩
abbrev HLT_VERGE_CTL_ENG_AUTO : Fld := ⟨0x150020, 0, 0⟩
abbrev HLT_VERGE_CMD_SWAP : Fld := ⟨0x150024, 31, 31⟩
abbrev HLT_VERGE_CMD_ABORT : Fld := ⟨0x150024, 30, 30⟩
abbrev HLT_VERGE_CMD_ENGINE : Fld := ⟨0x150024, 3, 0⟩
abbrev HLT_VERGE_STATUS_TARGET : Fld := ⟨0x150028, 20, 16⟩
abbrev HLT_VERGE_STATUS_ENGINE : Fld := ⟨0x150028, 11, 8⟩
abbrev HLT_VERGE_STATUS_RESULT : Fld := ⟨0x150028, 6, 4⟩
abbrev HLT_VERGE_STATUS_PHASE : Fld := ⟨0x150028, 2, 0⟩
abbrev HLT_SPARES_ROWS_MIN : Fld := ⟨0x15002C, 29, 24⟩
abbrev HLT_SPARES_SECTORS : Fld := ⟨0x15002C, 17, 16⟩
abbrev HLT_SPARES_CHANNELS : Fld := ⟨0x15002C, 12, 8⟩
abbrev HLT_SPARES_CELLS : Fld := ⟨0x15002C, 7, 4⟩
abbrev HLT_SPARES_ENGINES : Fld := ⟨0x15002C, 1, 0⟩
abbrev HLT_MON_STATUS_SPARE_ROWS (n : Nat) : Fld := ⟨0x150104 + n * 0x8, 13, 8⟩
abbrev HLT_MON_STATUS_STATE (n : Nat) : Fld := ⟨0x150104 + n * 0x8, 1, 0⟩
abbrev HIF_STATUS_STAGE_LOST : Fld := ⟨0x160000, 6, 6⟩
abbrev HIF_STATUS_PRIV_REFUSED : Fld := ⟨0x160000, 5, 5⟩
abbrev HIF_STATUS_FRAME_ERR : Fld := ⟨0x160000, 4, 4⟩
abbrev HIF_STATUS_SNAP_EXPIRED : Fld := ⟨0x160000, 3, 3⟩
abbrev HIF_STATUS_BAD_WRITE : Fld := ⟨0x160000, 2, 2⟩
abbrev HIF_STATUS_CLOSED_UNIT : Fld := ⟨0x160000, 1, 1⟩
abbrev HIF_IRQ_STATUS_SRC : Fld := ⟨0x160004, 19, 0⟩
abbrev HIF_IRQ_EN_EN : Fld := ⟨0x160008, 19, 0⟩
abbrev HIF_LAST_ERR_CAUSE : Fld := ⟨0x16000C, 27, 24⟩
abbrev HIF_LAST_ERR_ADDR : Fld := ⟨0x16000C, 23, 0⟩
abbrev HIF_FRAMES_OVF : Fld := ⟨0x160010, 16, 16⟩
abbrev HIF_FRAMES_COUNT : Fld := ⟨0x160010, 15, 0⟩
abbrev HIF_FRAME_ERRS_OVF : Fld := ⟨0x160014, 16, 16⟩
abbrev HIF_FRAME_ERRS_COUNT : Fld := ⟨0x160014, 15, 0⟩

end Fl

end Sys2Proof.Machine
end

