-- ==== Sys2Proof/Machine/State.lean ====
section
/-! DEFINITION. Machine/State.lean: the state of the block as plain data: the register file with its coherence banks and
staged writes, every unit's own state, the stores, the pins, the free-value counter and the queue of waiting commands.
Each field's docstring names the rule that gives it. -/

namespace Sys2Proof.Machine

/-- Why a step stops with a fault. No command of this block faults: an error of the hardware is a flag, a counter, a
record or a power state in State (R3, R446). -/
inductive Fault where
  /-- Raised by no command: the block has no effect that the spec calls a stop of the machine. Safe. -/
  | stuck
  deriving DecidableEq, Repr

/-- Why a step is refused. -/
inductive Refusal where
  /-- Raised by exec for a command without a meaning yet. Safe: nothing can be proved of a run past it. -/
  | notModelled (mnemonic : String)
  deriving DecidableEq, Repr

/-- A register file in canonical form: addresses strictly rising, and no entry equal to its register's reset value. -/
abbrev RegMap := List (Nat × Word)

/-- The banks of one coherence class beside the one being written, which is the live register file (R44): the visible
bank, the latest complete bank, and the epoch of each (R43). -/
structure Bank where
  visible : RegMap := []
  complete : RegMap := []
  visEpoch : Nat := 0
  compEpoch : Nat := 0
  deriving DecidableEq, Repr

/-- The local clock (R323): its value in units of 2^-32 ns, the signed addend per 4 ns step in those units, and the ns
of real time not yet made into a step. -/
structure Clock where
  t : Nat := 0
  inc : Int := 0
  rem : Nat := 0
  running : Bool := true
  deriving DecidableEq, Repr

/-- The state of a tag in flight (R54). -/
inductive TagSt where
  | issued | provisional | committed | withdrawn
  deriving DecidableEq, Repr

/-- A tag out of the pool (R52, R53): number, the operation, incarnation numbers of source and target at issue, the
provisional bit, whether it came from the reserve, the value read, and its state. -/
structure Tag where
  num : Nat
  op : FabOp
  sInc : Nat
  tInc : Nat
  prov : Bool
  fromReserve : Bool
  value : BitVec 64
  st : TagSt
  since : Nat
  deriving DecidableEq, Repr

/-- What the fabric hands a source of one of its operations (R52, R55): its tag, the status and the value, and the state of
the tag: PROVISIONAL while the run-ahead is undecided, or the final state. -/
structure Reply where
  src : SrcPort
  tag : Nat
  status : RepStatus
  value : BitVec 64
  st : TagSt
  deriving DecidableEq, Repr

/-- The handshake fabric (R51 to R65): tags out of the pool, operations stalled at issue oldest first, storage cells
written through it by 32-bit word with the port that wrote each one and the mark count at the write, provisional shadows
(R58), what the last event handed to the sources, register writes performed and about to be taken by their units, the
target of the operation that last held each tag number, whether an operation of the run-ahead met a closed target (R60),
and the count of marks passed (R56, R57). -/
structure Fab where
  tags : List Tag := []
  stalled : List FabOp := []
  store : List (Nat × Word) := []
  writers : List (Nat × (SrcPort × Nat)) := []
  shadows : List (Nat × Word) := []
  replies : List Reply := []
  due : List (Nat × Word) := []
  lastTgt : List (Nat × Uid) := []
  aheadBroken : Bool := false
  marks : Nat := 0
  deriving DecidableEq, Repr

/-- Units closed and ready to reopen (R63), each with the real time and the local clock's millisecond at which it became
ready. -/
structure Units where
  ready : List Uid := []
  since : List (Uid × (Nat × Nat)) := []
  deriving DecidableEq, Repr

/-- One event record without its CHECK (R394). `stamp` is the local clock in ns. -/
structure LogRecord where
  source : Nat
  flags : Nat
  seq : Nat
  code : Nat
  pcc : Nat
  arg : Nat
  opsec : Nat
  stamp : Nat
  data : Nat
  rep : Nat
  deriving DecidableEq, Repr

/-- The recorder's memory of a source's last record since the boot (R400): the record, its main index if it went to
the main area, and its tail slot with the running count of tail writes at the time. -/
structure LastRec where
  entry : LogRecord
  main : Option Nat
  tail : Nat
  tailAt : Nat
  deriving DecidableEq, Repr

/-- The event recorder (R393 to R405). `main` holds the main area in index order, `tail` the tail window by slot,
`tailCount` how many tail records were ever written (its low byte is the index word of R399), `seals` s_1, s_2, … as
numbers, `firstKeyed` the first block sealed under the present RSK (R403). -/
structure Recorder where
  main : List LogRecord := []
  tail : List (Nat × LogRecord) := []
  tailCount : Nat := 0
  seals : List Nat := []
  firstKeyed : Nat := 1
  last : List (Nat × LastRec) := []
  seqs : List (Nat × Nat) := []
  opsec : Nat := 0
  opsecStuck : Bool := false
  pcc : Nat := 0
  pccStuck : Bool := false
  clearPending : Bool := false
  clearCount : Nat := 0
  full : Bool := false
  sectors : List (Nat × Nat) := []
  sectorCopy : Option Nat := none
  secAt : Nat := 0
  deriving DecidableEq, Repr

/-- The host port (R406 to R416): the bytes of the last reply on H_MISO and the run count of R386. -/
structure Hif where
  miso : List Byte := []
  unprivRun : Nat := 0
  deriving DecidableEq, Repr

/-- A power-state transition accepted and not complete (R427, R428): its target, and the local-clock instant in ms at
which it takes effect where it has one. -/
structure Trans where
  target : Nat
  atMs : Option Nat
  deriving DecidableEq, Repr

/-- Power states and resets (R426 to R434); `releasedAt` is the real time of the last release of reset (R355). -/
structure Power where
  vcore : Bool := true
  rstn : Bool := true
  trans : Option Trans := none
  quietWait : Bool := false
  swapCut : Bool := false
  releasedAt : Nat := 0
  deriving DecidableEq, Repr

/-- A wear monitor's runs of averages at or above and below its WORN level (R438). -/
structure Mon where
  above : Nat := 0
  below : Nat := 0
  deriving DecidableEq, Repr

/-- An engine swap in progress (R440): logical engine, spare, the physical engine left, whether the copy is complete and
whether the selector has been written. -/
structure SwapSt where
  engine : Nat
  target : Nat
  old : Nat := 0
  copied : Bool := false
  switched : Bool := false
  deriving DecidableEq, Repr

/-- The health manager (R49, R50, R435 to R443): the least margins of the leg so far, the history newest first, the
wear monitors' runs, corrected-error instants per SRAM row in operating seconds, rows in use as spares, retired
physical engines, the engine swap, cells and channels waiting for their boundary, kinds whose exhaustion was logged,
the Verge map of engines (logical to physical), and the writes of the map's selector word, whose last bit tells the bank in
force (R435). -/
structure Health where
  allocMin : Nat := 0xFFFF
  workMin : Nat := 0xFFFF
  history : List (Nat × Nat) := []
  mons : List (Nat × Mon) := []
  ecc : List (Nat × List Nat) := []
  remapped : List Nat := []
  retired : List Nat := []
  physOf : List (Nat × Nat) := []
  swap : Option SwapSt := none
  cellsDue : List Nat := []
  chansDue : List Nat := []
  exhausted : List Nat := []
  mapBad : Bool := false
  selector : Nat := 0
  deriving DecidableEq, Repr

/-- The NOR and the loader (R353 to R374): the array as cells (an unlisted byte reads 0xFF, erased), the 256-byte
program buffer by offset, the row it was filled for and its copy being programmed, the working copy of the image's sections
by TYPE, the digest of the booted image, and the background command: 1 PROGRAM or 2 ERASE with its address, 3 VERIFY with its
slot. -/
structure Loader where
  nor : List Host.Cell := []
  buf : List (Nat × Byte) := []
  bufRow : Nat := 0
  progBuf : List (Nat × Byte) := []
  sections : List (Nat × List Nat) := []
  graphsAt : List (Nat × Nat) := []
  digest : List Nat := []
  layout : Nat := 0
  density : Nat := 28
  cmd : Option (Nat × Nat) := none
  feErr : Bool := false
  deriving DecidableEq, Repr

/-- The Tollgate (R375 to R379): the staged entries in order, and an armed commit's kind and pace number or ms. -/
structure Gate where
  entries : List (Nat × Word) := []
  armed : Option (Nat × Nat) := none
  deriving DecidableEq, Repr

/-- The security unit (R380 to R391): keys held (as byte strings), the session keys by slot, an export's words not yet
read, an outstanding challenge, and what the keep-alive latch holds; `tamperUntil` is the
real time until which TAMPER_N stays low, `attest` the signature being made, `tapDr` what the TAP shifts out: the IDCODE of
R449 after a reset, a challenge after CHALLENGE (R387). -/
structure Sec where
  kek : Option (List Nat) := none
  dik : Option Nat := none
  rsk : Option (List Nat) := none
  skeys : List (Nat × List Nat) := []
  kekBuf : List (Nat × Word) := []
  skeyBuf : List (Nat × Word) := []
  nonce : List (Nat × Word) := []
  exportQ : List Word := []
  challenge : Option Nat := none
  tamperUntil : Nat := 0
  tamperLatch : Bool := false
  quietTriggers : List Nat := []
  attest : Option (Nat × Nat) := none
  hostErase : Bool := false
  tapDr : Nat := 0x164009CB
  deriving DecidableEq, Repr

/-- The output pins an outside agent sees (R445, R446): true is high. Bit 2k of
`so` is SOk_HS, bit 2k + 1 SOk_LS. -/
structure Pins where
  hIrqN : Bool := true
  hRdy : Bool := false
  faultN : Bool := true
  alarmN : Bool := true
  bypA : Bool := false
  bypB : Bool := false
  hbOut : Bool := false
  pps : Bool := false
  strig0 : Bool := false
  strig1 : Bool := false
  gfeSck : Bool := true
  gfeSdio : Bool := true
  smpFs : Bool := false
  pdiv0 : Bool := false
  pdiv1 : Bool := false
  roleSel : Bool := false
  so : Nat := 0
  deriving DecidableEq, Repr

/-- The cycle (R30 to R42): pace number, leg phase, stage phase, ring cycle within the pace; whether pace and leg work
runs; a working epoch due at the next pace boundary (R32); whether pace work resumes only at the next boundary
(R470); the pace number of the leg's pace 0; the real time of the last
pace boundary; whether the previous leg's observer mark was met (R117); the marks met in this pace by code (R69), 12
standing for the end of the Kerb checks and 13 for the standby's apply mark. -/
structure Cyc where
  pace : Nat := 0
  leg : Nat := 0
  stage : Nat := 0
  sub : Nat := 0
  active : Bool := false
  epochDue : Bool := false
  legPace : Nat := 0
  boundaryAt : Nat := 0
  voided : Bool := false
  obsMet : Bool := false
  marks : List Nat := []
  deriving DecidableEq, Repr

/-- A slot of a COLLECT frame as taken (R308): NSTATE, the drive bits, the feedback fields. -/
structure Slot where
  nstate : Nat
  drive : Nat
  fb : List Nat
  deriving DecidableEq, Repr

/-- What a slot carried and the next ring-cycle boundary hands on (R42): a stream record or a safety telegram, the port it
came through, its node and its bytes. -/
structure RingIn where
  telegram : Bool
  port : Nat
  node : Nat
  bytes : List Nat
  deriving DecidableEq, Repr

/-- A management message (R310): source, MSG, ring, TAG and body. -/
structure MgmtMsg where
  src : Nat
  msg : Nat
  ring : Nat
  tag : Nat
  body : List Nat
  deriving DecidableEq, Repr

/-- One ring at this device (R319 to R321): consecutive valid SYNCs within ±100 ns, an INSERT_NEXT heard, a LEAVE_NEXT
for this device, copies of the train returned unlooped this cycle by opposite port, consecutive cycles without each and
with both, nodes whose slot was filled this cycle, nodes that report LOOPING, whether the train of the SYNC heard
last is ignored (R343), a valid SYNC heard this cycle, a node that asks to leave and is to be announced (R320), and the real time
from which the ports come up (R296). -/
structure RingSide where
  syncRun : Nat := 0
  insertHeard : Bool := false
  leaveHeard : Bool := false
  back0 : Bool := false
  back1 : Bool := false
  lost0 : Nat := 0
  lost1 : Nat := 0
  good : Nat := 0
  filled : List Nat := []
  looping : List Nat := []
  ignored : Bool := false
  heard : Bool := false
  leaveNode : Option Nat := none
  upFrom : Nat := 0
  deriving DecidableEq, Repr

/-- A frame sent out of a ring port (R298, R311): its bytes from the destination address on, and whether its FCS is right or
sent inverted. -/
structure TxFrame where
  port : Nat
  bytes : List Nat
  fcsOk : Bool := true
  deriving DecidableEq, Repr

/-- A ring-image page (R314): the epoch of its content and its 256 bytes. -/
structure Page where
  epoch : Nat
  data : List Nat
  deriving DecidableEq, Repr

/-- The ring controller (R295 to R322). `slots` are the slots taken this cycle (first valid copy of each), `ins` the stream records and safety telegrams taken
this cycle, which take effect at its end (R42), `fbIn` the
pace input buffers by node address, `fbFrozen` the remote feedback frozen at the pace boundary (R34), `got` the items
taken this cycle by kind and number (R313), `misses` consecutive cycles without a slot by node, `absent` the nodes declared
absent, `pages` the image replica, `dirty` the pages to send oldest first, `lastSent` the cycle at which a page was last
sent, `rotor` the next page of the refresh rotation, `sent` the frames the last sending command put out, `cmdOut` the COMMAND
records waiting for their ring cycle, `lastCmds` the last COMMAND blocks forwarded (R352), `trainOn` the device may send
trains (R300), `insertAt` the real time of the last insertion announced, `highEpoch` the
highest ownership epoch heard, `hasPair` an ownership pair is held (R343), `noSync` boundaries since the last valid SYNC; in real
time `bAt` the boundary b of the last valid SYNC, `boundAt` the device's own last boundary, `nextAt` the next expiry of the cycle
timer (R301, R302); `ownWin` WIN_START and WIN_END of the image and `win` those of the last SYNC, in 10 ns (R304, R306);
`startNs` the working epoch's start on the local clock. -/
structure Ring where
  a : RingSide := {}
  b : RingSide := {}
  slots : List (Nat × Slot) := []
  ins : List RingIn := []
  fbIn : List (Nat × Slot) := []
  fbFrozen : List (Nat × Slot) := []
  got : List (Nat × Nat) := []
  misses : List (Nat × Nat) := []
  absent : List Nat := []
  pages : List (Nat × Page) := []
  dirty : List Nat := []
  rotor : Nat := 0
  lastSent : List (Nat × Nat) := []
  sent : List TxFrame := []
  cmdOut : Option (List Nat) := none
  lastCmds : List Nat := []
  trainOn : Bool := false
  insertAt : Option Nat := none
  highEpoch : Nat := 0
  hasPair : Bool := false
  noSync : Nat := 0
  lastSyncNow : Option Nat := none
  bAt : Nat := 0
  boundAt : Nat := 0
  nextAt : Nat := 0
  ownWin : Nat × Nat := (0, 0)
  win : Nat × Nat := (0, 0)
  startNs : Nat := 0
  mail : List MgmtMsg := []
  txq : List MgmtMsg := []
  stopSeq : List (Nat × Nat) := []
  deriving DecidableEq, Repr

/-- A 1588 source (R324): consecutive offsets since it was last lost, and its last offset (local clock minus
source, ns), and the best master's data set under the BMCA, in comparison order with its identity last. -/
structure TimSrc where
  run : Nat := 0
  offset : Int := 0
  best : List Nat := []
  deriving DecidableEq, Repr

/-- A 1588 message as sent or forwarded (R325, R326): kind, destination address, port, sequenceId, the attributes offered and the
correction in ns. -/
structure PtpTx where
  kind : Nat
  dest : Nat
  port : Nat
  seq : Nat
  clockClass : Nat
  accuracy : Nat
  timeSource : Nat
  priority1 : Nat
  priority2 : Nat
  domain : Nat
  clockId : Nat
  stamp : Nat
  corr : Int
  deriving DecidableEq, Repr

/-- The timebase (R323 to R329). `src` holds the sources by SOURCE code, `slewLeft` the offset still to be slewed in ns,
`step` a step due at the next second boundary with `stepSec` the second in which it was asked for, `accepted` whether it is an accepted one, `entering` whether the offset that
enters the jump policy is awaited, request times by port, sequence numbers used and sent, the last message sent, the
end-to-end path's quantities on the Causeway, the UTC value the source delivered last (R329), and in real time when
holdover began (R133), when the slew began, the last Announce and Sync of each 1588 source (R324), and the last message of each kind
sent on each port (R325); `lastSrc` is the source in use last. -/
structure Tim where
  src : List (Nat × TimSrc) := []
  slewLeft : Int := 0
  step : Option Int := none
  stepSec : Nat := 0
  accepted : Bool := false
  entering : Bool := true
  reqT1 : List (Nat × Nat) := []
  seqSeen : List (Nat × Nat) := []
  seqTx : List (Nat × Nat) := []
  txLast : Option PtpTx := none
  msOffset : Int := 0
  pathDelay : Int := 0
  utcSeen : Option Nat := none
  holdAt : Nat := 0
  slewFrom : Nat := 0
  annAt : List (Nat × Nat) := []
  syncAt : List (Nat × Nat) := []
  txAt : List (Nat × Nat) := []
  lastSrc : Nat := 0
  deriving DecidableEq, Repr

/-- The redundancy unit (R330 to R352). Whether the Causeway's link is in service or refused, and the real time from which it comes
up (R296, R332). Times are real time in ns: last valid evidence of each path, since when each has
been alive without a break, the last HB_IN edge. `fast` and `full` are received fragments by index of the Milestone in
progress (PACE, NFRAG, fragments), `resync` likewise; `fastApplied` the pace of the newest fast Milestone applied;
`waitFrom` entry into RUN (R331); `exch` an exchange in progress with its X; `takenPace` and `how` of page 0x01;
`partnerRole` the role last heard from the partner; `legMarks` the leg marks met in this pace (R337); `sendNow` whether the
next train carries `heldCmds` whatever its ring cycle (R350). -/
structure Red where
  cwLink : Bool := false
  cwRefused : Bool := false
  cwFrom : Nat := 0
  cwAt : Option Nat := none
  hbAt : Option Nat := none
  cwSince : Nat := 0
  hbSince : Nat := 0
  cwFault : Bool := false
  hbFault : Bool := false
  edgeAt : Option Nat := none
  fast : Option (Nat × Nat × List (Nat × List Nat)) := none
  full : Option (Nat × Nat × List (Nat × List Nat)) := none
  fullDone : List (Nat × List Nat) := []
  resync : Option (Nat × Nat × List (Nat × List Nat)) := none
  resyncFrom : Option Nat := none
  loaded : Bool := false
  granted : Bool := false
  fastApplied : Option Nat := none
  partnerCurrent : Bool := false
  partnerLayout : Nat := 0
  partnerReqs : Bool := false
  partnerReady : Nat := 0
  waitFrom : Nat := 0
  waitCycles : Nat := 0
  heardOwner : Bool := false
  exch : Option Nat := none
  exchStopped : Bool := false
  exchAsked : Option Nat := none
  detectAt : Option Nat := none
  failAt : Nat := 0
  partnerRole : Nat := 7
  legMarks : List Nat := []
  sendNow : Bool := false
  takenPace : Nat := 0
  how : Nat := 0
  hbIndex : Nat := 0
  epochMram : Nat := 0
  sent : List (Nat × List Nat) := []
  heldCmds : List Nat := []
  deriving DecidableEq, Repr

/-- One decoder path of a local feedback channel (R242, R248, R254): filtered lines as 4C + 2B + A, pulled up until driven (R445), position modulo
2^32, the last counted edge and the first since opening or the last MODE or INV change as (position, ns), the last counted
edge at earlier pace boundaries newest first, the speed as a fraction in counts/s, its standstill, and an index edge not
yet taken into the phase. -/
structure FbPath where
  lines : Nat := 7
  pos : Nat := 0
  last : Option (Nat × Nat) := none
  first : Option (Nat × Nat) := none
  hist : List (Option (Nat × Nat)) := []
  vNum : Int := 0
  vDen : Nat := 1
  idx : Option Nat := none
  deriving DecidableEq, Repr

/-- A local feedback channel: the main path, the check path (R248), the event Waymarks that wait for the end mark
(R250), and illegal transitions of the leg (R262). -/
structure FbCh where
  main : FbPath := {}
  check : FbPath := {}
  cmpEvt : Option (Nat × Nat) := none
  idxEvt : Option (Nat × Nat) := none
  illLeg : Nat := 0
  deriving DecidableEq, Repr

/-- The feedback interface (R242 to R254): channels, and of each pulse divider the accumulator and the real time of the
last compare pulse (R253). -/
structure Fbk where
  ch : List (Nat × FbCh) := []
  acc : List (Nat × Int) := []
  pulseAt : List (Nat × Nat) := []
  deriving DecidableEq, Repr

/-- A lane's own state (R256 to R262): phase, the position it was last advanced to, a host setting to apply, the last
frozen angle, ring cycles since the remote angle and thrust fields arrived, whether the source was ever heard, boundaries
beyond FOLLOW_AZ, elapsed ramp ms with the values at its entry, paces without a slot output, a CLEAR to judge, and whether
the manager has reopened without a CLEAR since. -/
structure LaneSt where
  phi : Nat := 0
  wm : Nat := 0
  azSet : Option Nat := none
  frozen : Option Nat := none
  azAge : Nat := 0
  tAge : Nat := 0
  azSeen : Bool := false
  tSeen : Bool := false
  follow : Nat := 0
  ramp : Nat := 0
  rampAz : Nat := 0
  rampT : Int := 0
  servoMiss : Nat := 0
  clear : Bool := false
  reopened : Bool := false
  deriving DecidableEq, Repr

/-- The lane manager: lanes, and the lanes whose command of this pace is withheld (R262). -/
structure Lanes where
  lane : List (Nat × LaneSt) := []
  withheld : List Nat := []
  deriving DecidableEq, Repr

/-- What one Kerb technology holds of a lane (R263 to R271): its phase and homing, the position it was advanced to, its
copies, the azimuth of its previous evaluation, consecutive evaluations that met functions 1 to 4, the functions violated
at the last evaluation, and the latched trip (0 none). -/
structure KLane where
  phi : Nat := 0
  homed : Bool := false
  wm : Nat := 0
  az : Option Nat := none
  th : Option Int := none
  sh : Option Int := none
  prev : Option Nat := none
  runs : List Nat := [0, 0, 0, 0]
  viol : List Nat := []
  judged : Bool := false
  trip : Nat := 0
  deriving DecidableEq, Repr

/-- A safety connection (R283 to R289): the last accepted SEQ, telegrams in a row with d = 1 since RESYNC, ring cycles since
the last acceptance, whether a sequence error stands since then, the last accepted feedback data and those at the last
pace boundary, a producer's next SEQ, and the real time from which the 900 s of the error level count. -/
structure KConn where
  last : Option Nat := none
  good : Nat := 0
  age : Nat := 0
  seqErr : Bool := false
  data : List Nat := []
  atPace : List Nat := []
  seq : Option Nat := none
  fallAt : Nat := 0
  deriving DecidableEq, Repr

/-- One switch of a safety channel (R278 to R282): on, off for a test, waiting to start a test, missed intervals, the
real time before which it is not tested, held off by a demand that met its test, and the real time at which its test of the present
interval was due. -/
structure SoSw where
  on : Bool := false
  test : Bool := false
  want : Bool := false
  missed : Nat := 0
  due : Option Nat := none
  owed : Bool := false
  stay : Bool := false
  slot : Option Nat := none
  deriving DecidableEq, Repr

/-- A readback level as one technology has it: the run of equal samples, the sample, the standing level and the real time since
which it stands (R279). -/
structure RbLevel where
  run : Nat := 0
  now : Bool := false
  stands : Bool := false
  since : Nat := 0
  deriving DecidableEq, Repr

/-- A safety channel: its switches, the readbacks H and L of the processor and of the logic, the real time of the last
switch change, and since when the technologies disagree. -/
structure SoCh where
  hs : SoSw := {}
  ls : SoSw := {}
  hP : RbLevel := {}
  lP : RbLevel := {}
  hL : RbLevel := {}
  lL : RbLevel := {}
  changedAt : Nat := 0
  apart : Option Nat := none
  deriving DecidableEq, Repr

/-- The Kerb (R263 to R293). `p` and `l` are the technologies' lanes, `disc` the discrepancy counts by 2n + technology, `mailP` and
`mailL` the real times at which their mailboxes last advanced, `cmdTrip` lanes whose
command violated (R271), `fatalP` and `fatalL` fatal faults detected, `sealBad` readings in a row that did not stand,
`taken` whether a value is in force, `pre` the pre-alarms of the run-ahead (R272), `azSets` AZ_SETs applied at this
boundary (R269), `strobe` the real time of the last pace strobe. -/
structure Krb where
  p : List (Nat × KLane) := []
  l : List (Nat × KLane) := []
  disc : List (Nat × Nat) := []
  cmdTrip : List Nat := []
  conn : List (Nat × KConn) := []
  so : List (Nat × SoCh) := []
  fatalP : Bool := false
  fatalL : Bool := false
  taken : Bool := false
  sealBad : Nat := 0
  mismatch : Bool := false
  changed : Bool := false
  pre : List Nat := []
  azSets : List (Nat × Nat) := []
  strobe : Nat := 0
  mailP : Nat := 0
  mailL : Nat := 0
  deriving DecidableEq, Repr

/-- The state of a loop-engine slot (R184 to R192): per section x[n-1], x[n-2], y[n-1], y[n-2]; I, u1[n-1], u[n-1], the
limits in force at the previous run, and the x and f that a graph last handed it (LOOP_REQ). -/
structure SlotSt where
  secs : List (List Int) := []
  i : Int := 0
  u1 : Int := 0
  u : Int := 0
  lo : Int := -2147483648
  hi : Int := 2147483647
  reqX : Int := 0
  reqF : Int := 0
  deriving DecidableEq, Repr

/-- The test generator as read at GO (R193, R194): phase, frequency, PRBS register, samples left and the settings. -/
structure TestGen where
  slot : Nat := 0
  point : Nat := 0
  shape : Nat := 0
  amp : Int := 0
  offset : Int := 0
  phase : Nat := 0
  freq : Nat := 0
  freqEnd : Nat := 0
  freqStep : Nat := 0
  dur : Nat := 0
  lfsr : Nat := 0x7FFF
  deriving DecidableEq, Repr

/-- A capture buffer (R196, R197): samples oldest first, samples still to take after the trigger, signal 0 of the previous
sample, and whether the generator's first sample came since it was armed. -/
structure Cap where
  buf : List (Int × Int) := []
  left : Nat := 0
  prev : Option Int := none
  hit : Bool := false
  deriving DecidableEq, Repr

/-- A setpoint asked for by GO (R172): position in mm, heading, move limits, TURN_DIR, HOLD_HERE. -/
structure SpReq where
  n : Int
  e : Int
  hdg : Nat
  speed : Nat
  turn : Nat
  accel : Nat
  dir : Nat
  here : Bool
  deriving DecidableEq, Repr

/-- The loop engine, guidance and the demand (R171 to R197). Reference and target positions are in nm, headings unwrapped
in nrad, rates in µm/s and µrad/s (log entry 31). `tau` is the demand in force (R39), `tauWind` the wind force of the
last observer update, `joyAt` the real time of the last joystick write, `ramp` the real time the stale ramp began with the
value it began from, `ended` whether a write has ended it, `bad` the slots whose last LOOP_REQ had an invalid input (R71,
R183). -/
structure Loop where
  slots : List (Nat × SlotSt) := []
  gen : TestGen := {}
  cap0 : Cap := {}
  cap1 : Cap := {}
  go : Option SpReq := none
  spN : Int := 0
  spE : Int := 0
  spH : Nat := 0
  speed : Nat := 0
  turn : Nat := 0
  accel : Nat := 0
  dir : Nat := 0
  refN : Int := 0
  refE : Int := 0
  refH : Int := 0
  tgtH : Int := 0
  vN : Int := 0
  vE : Int := 0
  vH : Int := 0
  originLat : Nat := 0
  originLon : Nat := 0
  originHgt : Nat := 0
  wasD4 : Bool := false
  wasD3 : Bool := false
  tau : List Int := [0, 0, 0]
  tauWind : List Word := [0, 0, 0]
  joyAt : Nat := 0
  ramp : Option (Nat × List Int) := none
  ended : Bool := false
  bad : List Nat := []
  deriving DecidableEq, Repr

/-- What a position sentence attaches to its sample (R82, R146): GST standard deviations of latitude and longitude in µm,
HDOP in 10^-6, the quality or mode characters, satellites in use, and the age of corrections in µs. -/
structure Att where
  gst : Option (Nat × Nat) := none
  hdop : Option Nat := none
  quality : List Nat := []
  sats : Option Nat := none
  age : Option Nat := none
  deriving DecidableEq, Repr

/-- A sample of the fusion unit (R42): the input of R140, its values, its corrected stamp in ns, and whether it is marked
REPEATED (R95). -/
structure FusSample where
  dest : Nat
  v : List Int
  stamp : Nat
  att : Att := {}
  rep : Bool := false
  deriving DecidableEq, Repr

/-- A position sample that may still be joined by a GST (R82): stream, values, stamp, what its sentence attaches, the
sentence's UTC time in 10^-6 of its field and talker, and the real times of its reception and of its arrival (R91). -/
structure HeldPos where
  stream : Nat
  v : List Int
  stamp : Nat
  att : Att
  utc : Option Nat
  talker : Nat
  at_ : Nat
  arr : Nat
  deriving DecidableEq, Repr

/-- A serial port (R80 to R84): transmit bytes oldest first and the real time their transmission began, the real time of
the last character, RX held at 0, talkers whose datum is not W84, position samples held, the UTC time and real time of
each talker's last position sentence, bytes of a binary frame not yet complete with the real times of their start-bit edges
(R86), and the real time at which the settings last changed. -/
structure SnsPort where
  tx : List Nat := []
  txFrom : Nat := 0
  rxAt : Option Nat := none
  brk : Bool := false
  datum : List Nat := []
  held : List HeldPos := []
  lastPos : List (Nat × (Option Nat × Nat)) := []
  bin : List (Nat × Nat) := []
  cfgAt : Nat := 0
  deriving DecidableEq, Repr

/-- A stream (R91 to R96): t̂ and T̂ in 2^-16 ns, the grid time of the newest input in the same units, the last input
stamp, the real time of the last sample, the last input, the trigger edge last served and the edges since then, and the
latency in ns that a change replaced with the real time of the change (R92). -/
structure Strm where
  hat : Option Int := none
  per : Int := 0
  grid : Int := 0
  last : Option Nat := none
  lastAt : Nat := 0
  prev : List Int := []
  edge : Option Nat := none
  seen : Nat := 0
  latOld : Option (Nat × Nat) := none
  deriving DecidableEq, Repr

/-- A FIR channel (R97 to R104): its banks' coefficients, its inputs newest first, inputs since the last output, δ in
1/256 sample, the last output and its stamp, and a fade's j and M. -/
structure FirSt where
  a : List Int := []
  b : List Int := []
  hist : List (List Int) := []
  cnt : Nat := 0
  delta : Int := 0
  y : Option (List Int) := none
  yStamp : Option Nat := none
  fade : Option (Nat × Nat) := none
  deriving DecidableEq, Repr

/-- Sensor ports, triggers, the sample port and the filter chain (R79 to R104): of each trigger the local and the real
times of its edges, newest first, triggers whose schedule was recomputed by a clock step, the sample port's frame in progress
and the one before it (starts on the local clock and in real time), pace boundaries since the port was enabled and since the
frame began (R87). -/
structure Sns where
  ports : List (Nat × SnsPort) := []
  strm : List (Nat × Strm) := []
  fir : List (Nat × FirSt) := []
  edges : List (Nat × List (Nat × Nat)) := []
  skip : List Nat := []
  frame : Option (Nat × Nat) := none
  prevFrame : Option (Nat × Nat) := none
  bnd : Nat := 0
  frameBnd : Nat := 0
  deriving DecidableEq, Repr

/-- A GNSS channel's exclusion (R127): out of the solutions, and epochs in a row with every check passed. -/
structure GnsCh where
  out : Bool := false
  pass : Nat := 0
  deriving DecidableEq, Repr

/-- What the baseband retains (R137): ephemerides and almanacs by system × 2^10 + number, ionosphere coefficients, the last
position (latitude, longitude, height) and velocity, receiver clock bias and drift. -/
structure GnsNav where
  eph : List (Nat × List Nat) := []
  alm : List (Nat × List Nat) := []
  iono : List Nat := []
  pos : Option (Nat × (Nat × Int)) := none
  vel : List Int := []
  bias : Int := 0
  drift : Int := 0
  deriving DecidableEq, Repr

/-- The GNSS baseband (R105 to R138): channels, leg boundaries in a row at which R117 held, clean epochs in a row (R129),
whether GCLK was within its limit at the last leg boundary (R108), fixed ambiguities of heading and RTK and a restart at
RTK_FLOAT (R121, R126), calibration epochs and sums (R123), epochs in a row without a notch's line (R130), RTCM bytes in the
FIFO and bytes the decoder holds (R124), ephemerides received for acquisition (R125), the base's station and position and its
last observation epoch in ms (R126), worn channels being handed over with the legs waited and channels whose phase is marked
as slipped (R113), channels retired with no spare, satellites marked unhealthy (R112), the navigation data held, the last
solution's standard deviations in µm, the retention set's two parts with their park times, whether the timebase stayed
disciplined since the park and whether the first solution is still to be compared with the retained position (R114, R137),
the real time of the last PPS edge and its suppression (R134), and a front-end transaction: its start and its data (R109). -/
structure Gns where
  ch : List (Nat × GnsCh) := []
  vecRun : Nat := 0
  clean : Nat := 0
  gclkGood : Bool := false
  hdgFixed : Bool := false
  rtkFixed : Bool := false
  rtkRestart : Bool := false
  calN : Nat := 0
  calSum : Int × Int × Int := (0, 0, 0)
  quiet : List (Nat × Nat) := []
  fifo : List Nat := []
  dec : List Nat := []
  aid : List (Nat × List Nat) := []
  base : Option (Nat × Int × Int × Int) := none
  baseAt : Option Nat := none
  handover : List (Nat × Nat) := []
  slipped : List Nat := []
  dead : List Nat := []
  sick : List (Nat × Nat) := []
  nav : GnsNav := {}
  sdev : Nat × Nat := (0, 0)
  retSram : Option (Nat × GnsNav) := none
  retKeep : Option (Nat × Option (Nat × (Nat × Int))) := none
  timeHeld : Bool := false
  retCheck : Bool := false
  ppsAt : Option Nat := none
  ppsHeld : Bool := false
  fe : Option (Nat × Nat) := none
  deriving DecidableEq, Repr

/-- A track of the fusion unit (R139, R167): state, HOLD, reason, the pace and the real time of the mark that set the state,
consecutive gate failures, the pace of the last sample used, bias (µm; gyros: binary angle and µrad/s) with variances,
innovation statistics as binary32 in SI units with the stamp of the innovation last counted, NIS, mean bias rate, the last measurement with its stamp, σ in use, T or W (mm), discards and their
OVF, the real time of the last sample, the silence before the leg's first sample, a gate opened by SELECT, since when
samples are identical, the last raw values, the bias history newest first, since when every sample passed, the velocity monitor's
last sample, and whether the next sample sets the bias (R157). -/
structure Trk where
  st : Nat := 0
  hold : Bool := false
  reason : Nat := 0
  since : Nat := 0
  sinceAt : Nat := 0
  gateRun : Nat := 0
  lastAccept : Nat := 0
  b0 : Int := 0
  b1 : Int := 0
  var0 : Word := 0
  var1 : Word := 0
  mean0 : Word := 0
  mean1 : Word := 0
  innAt : Nat := 0
  iv0 : Word := 0
  iv1 : Word := 0
  nis : Word := 0
  rate : Nat := 0
  meas : List Int := [0, 0, 0]
  stamp : Nat := 0
  sigma : Word := 0
  anchor : Option (Int × Int) := none
  discard : Nat := 0
  discOvf : Bool := false
  lastAt : Option Nat := none
  silent : Nat := 0
  openGate : Bool := false
  sameFrom : Nat := 0
  raw : List Int := []
  moved : Bool := false
  hist : List (Nat × (Int × Int)) := []
  cleanFrom : Nat := 0
  vel : List Int := []
  zeroNext : Bool := false
  deriving DecidableEq, Repr

/-- A measurement of a leg after the gate (R142 to R153): its track; its kind, 0 position, 1 heading, 2 yaw rate, 3 range and
4 range rate of VECTOR mode (R118), 5 a position that only votes; its values: north and east in µm referred to the body-frame
origin, a heading's binary angle, a yaw rate in µrad/s, an innovation in mm or mm/s; variances north, east and across in µm²
(heading and rate: the standard deviation in nrad and nrad/s; ranges: binary32 in SI units); the geodetic position while no
origin is known; its stamp; whether it passed its gate; its NIS; and of a range the line of sight in 2^-30. -/
structure Meas where
  trk : Nat
  kind : Nat
  pn : Int := 0
  pe : Int := 0
  vn : Nat := 0
  ve : Nat := 0
  vne : Int := 0
  geo : Option (Int × Int) := none
  stamp : Nat := 0
  pass : Bool := false
  nis : Word := 0
  dir : List Int := []
  deriving DecidableEq, Repr

/-- The observer (R150 to R152): the states present as binary32, their covariance by rows, the leg boundary on the local clock
at which they hold, and the states committed at the leg boundaries of the last 1.0 s, newest first. -/
structure Obs where
  x : List Word := []
  p : List (List Word) := []
  stamp : Nat := 0
  hist : List (Nat × List Word) := []
  deriving DecidableEq, Repr

/-- The fusion unit (R139 to R170): samples received and not yet taken into a leg (R42), the leg's inputs, components that
wait for their partner, the tracks, the measurements of the gate mark, tracks marked by its votes with their reasons,
whether it found a contradiction of positions or headings, the MRU vote's roll, pitch and heave, whether the MRUs disagreed,
the true wind north and east in µm/s with the real time and values at which its decay began, position and heading set
(R158) and the heading taken first, the real time since which each coasts and whether a contradiction began it, the
reference level, since when the condition of each level D0 to D3 holds, D4 by command and by heading coast, commands
waiting for the mark (R166), the pace of the last level change, the observer, the local clock at the present leg boundary, and
the tracks as the last observer mark left them, which a late mark keeps (R40), and the gate-and-vote result committed at the last
gate mark, by track (R78). -/
structure Fus where
  inbox : List FusSample := []
  inputs : List FusSample := []
  parts : List FusSample := []
  trk : List (Nat × Trk) := []
  gated : List Meas := []
  marks : List (Nat × Nat) := []
  contraP : Bool := false
  contraH : Bool := false
  att : List Int := [0, 0, 0]
  attBad : Bool := false
  wind : Int × Int := (0, 0)
  windFade : Option (Nat × (Int × Int)) := none
  posSet : Bool := false
  hdgSet : Bool := false
  hdg0 : Nat := 0
  posCoast : Option Nat := none
  hdgCoast : Option Nat := none
  posByC : Bool := false
  hdgByC : Bool := false
  refLvl : Nat := 3
  below : List (Option Nat) := [none, none, none, none]
  hostD4 : Bool := false
  hdgD4 : Bool := false
  cmds : List (Nat × Nat) := []
  levelSince : Nat := 0
  obs : Obs := {}
  legClk : Nat := 0
  kept : List (Nat × Trk) := []
  voted : List (Nat × Bool) := []
  deriving DecidableEq, Repr

/-- A lane's feedback as a problem takes it (R211, R212): lane, azimuth or rudder angle, thrust in 0.001 N. -/
structure LaneIn where
  n : Nat
  az : Nat
  th : Int
  deriving DecidableEq, Repr

/-- A class-A problem as assembled (R211, R212): lanes, τ and the bus limits, and the real time of its request. -/
structure AlcProb where
  lanes : List LaneIn
  tau : List Int
  buses : List Nat
  asked : Nat := 0
  deriving DecidableEq, Repr

/-- What a class-A solve starts from (R213): λ, μ of each active bus, as binary32, and each lane's active face. Nothing listed
is cold: zero, no bus active, every face interior. -/
structure Warm where
  lam : List Word := [0, 0, 0]
  mu : List (Nat × Word) := []
  faces : List (Nat × Nat) := []
  deriving DecidableEq, Repr

/-- A class-A result (R206, R210, R219): accepted or its miss cause, commands (lane, angle, thrust), iterations, J of the
command problem, of the nominal target problem and of the best candidate (binary32), whether a slack exceeds 1 kN,
candidates solved, lanes that opened one, lanes at a sector edge, the best and the leading candidate, target decisions,
modes (lane, mode, wedge, target), the force achieved, bus loads with their activity, pivots, the solve time in 100 ns, and the
warm starts that the command problem and each target problem solved leave (`none` names the nominal problem). -/
structure AlcRes where
  cause : Nat := 0
  cmds : List (Nat × (Nat × Int)) := []
  iters : Nat := 0
  j : Nat := 0
  jNom : Nat := 0
  jCand : Nat := 0
  slack : Bool := false
  cands : Nat := 0
  opened : List Nat := []
  edges : List Nat := []
  best : Option (Nat × Nat) := none
  lead : Option (Nat × Nat) := none
  tdec : List (Nat × Nat) := []
  modes : List (Nat × (Nat × (Nat × Nat))) := []
  ach : List Int := [0, 0, 0]
  load : List (Nat × Bool) := []
  pivReg : Nat := 0
  pivZero : Nat := 0
  time : Nat := 0
  warm : Warm := {}
  tgtWarm : List (Option (Nat × Nat) × Warm) := []
  deriving DecidableEq, Repr

/-- The allocation front stage (R198 to R223): measured values of this pace's available lanes, of every enabled lane in this pace
(`seen`) and in the last (`prev`), lanes available now and at the leg boundary, the pace's problem and result with its SOURCE, whether it is committed, the run-ahead's problem and result,
target wedges, modes, sectors a TRANSIT lane crosses, lanes commanded since they became available, the leader with its
dwell count, the fallback matrix by lane (rows in 2^-40) where one is committed, the solve time of the pace's
committed allocation (R49), the warm start of the command problem and of each target problem (R213), misses in a row, the
allocation level with the real times of its last change and the last miss, and a change that waits for the observer mark. -/
structure Alc where
  meas : List LaneIn := []
  seen : List LaneIn := []
  prev : List LaneIn := []
  avail : List Nat := []
  legAvail : List Nat := []
  prob : Option AlcProb := none
  res : Option AlcRes := none
  src : Nat := 0
  done : Bool := false
  ahead : Option AlcProb := none
  aheadRes : Option AlcRes := none
  tgt : List (Nat × Nat) := []
  modes : List (Nat × Nat) := []
  cross : List (Nat × List (Nat × Nat)) := []
  cmded : List Nat := []
  dwell : Option ((Nat × Nat) × Nat) := none
  shown : Nat := 0
  mat : Option (List (Nat × List (List Int))) := none
  solveT : Option Nat := none
  warm : Warm := {}
  tgtWarm : List (Option (Nat × Nat) × Warm) := []
  missRun : Nat := 0
  level : Nat := 0
  pend : Option Nat := none
  changedAt : Nat := 0
  missAt : Nat := 0
  deriving DecidableEq, Repr

/-- A trajectory (R231, R235): τ at its nodes, h in 0.1 s, STATUS, and r_p and r_d as binary32. -/
structure Traj where
  tau : List (List Int)
  h : Nat
  status : Nat
  rp : Word
  rd : Word
  deriving DecidableEq, Repr

/-- A point of the planner's iteration (R232, R233), as binary32: states of nodes 0 to N, inputs of the N steps, multipliers of
the dynamics into nodes 1 to N, and multipliers and slacks of the rows of those nodes. -/
structure Plan where
  x : List (List Word) := []
  w : List (List Word) := []
  y : List (List Word) := []
  lam : List (List Word) := []
  sl : List (List Word) := []
  deriving DecidableEq, Repr

/-- An iterate, or the warm start, with J, r_p, r_d and μ as binary32 (R234). -/
structure HznIt where
  plan : Plan := {}
  j : Word := 0
  rp : Word := 0
  rd : Word := 0
  mu : Word := 0
  deriving DecidableEq, Repr

/-- What the solve of a stage holds from the marks of its first leg (R227, R229, R230): the initial state, the envelope's
registers from F_max(0) to RATE_N, the bias in the earth frame with the wind force, and the reference with its velocity, the
setpoint and the unwrapped target heading, in the units of guidance. -/
structure HznQp where
  init : List Word := []
  env : List Nat := []
  dist : List Word := []
  ref : List Int := []
  deriving DecidableEq, Repr

/-- The horizon planner (R224 to R241): a solve in progress with its data, its warm start and the real time it began, the
iterate from which the next iteration starts, iterates completed, the best candidate with its index and the real time at which
it ended, whether the solve converged or stopped, overflow and regularised pivots seen, whether the warm start is to be cold,
the trajectory to take effect and the one in force, the last committed trajectory's states, inputs and multipliers, legs that
contributed to the identification, a slack in this leg, a RESTORE to apply, the sum of ALC_ACH over the paces of the leg and
their number, the committed ν of the last leg, the low-passed ν̇, and the covariances of the three RLS blocks. -/
structure Hzn where
  run : Bool := false
  qp : HznQp := {}
  warm : Option HznIt := none
  from_ : Nat := 0
  cur : Plan := {}
  done : Nat := 0
  best : Option (Nat × (HznIt × Nat)) := none
  stopped : Bool := false
  stopAt : Nat := 0
  conv : Bool := false
  ovf : Bool := false
  reg : Bool := false
  cold : Bool := true
  next : Option Traj := none
  force : Option Traj := none
  plan : Option Plan := none
  legs : Nat := 0
  slack : Bool := false
  restore : Bool := false
  ach : List Int := [0, 0, 0]
  achN : Nat := 0
  nu : Option (List Word) := none
  nuDot : List Word := [0, 0, 0]
  cov : List (List (List Word)) := []
  deriving DecidableEq, Repr

/-- The route engines (R66 to R78). A value is its elements, each a 32-bit word and its validity (R71); keys are GRAPH_ID ×
2^16 + signal or instance number. `sigs` are the committed outputs, `mem` what the instances of blocks with memory keep between
runs, `runs` the results of runs that wait for their end mark by GRAPH_ID and `began` the real times at which they started,
`closed` the outputs that wait and that a CLOSED status made invalid, `ringOut` words written to the ring image and not yet shown
(word offset), `regPend` and `regOut` words of REG_OUT by index, waiting and shown, `late` the engines with a late graph in this
leg, `jobs` the class-H jobs that SOLVE_REQ has requested and class H has not ended (R78). -/
structure Eng where
  sigs : List (Nat × List (Nat × Bool)) := []
  mem : List (Nat × List (Nat × Bool)) := []
  runs : List (Nat × List (Nat × List (Nat × Bool))) := []
  closed : List Nat := []
  ringOut : List (Nat × Nat) := []
  regPend : List (Nat × Nat) := []
  regOut : List (Nat × Nat) := []
  late : List Nat := []
  jobs : List Nat := []
  began : List (Nat × Nat) := []
  deriving DecidableEq, Repr

/-- The whole machine. -/
structure State where
  /-- Commands waiting, first in first out. -/
  pending : List Instr := []
  /-- Real time in ns since the model's reset. -/
  now : Nat := 0
  /-- The model's own counter of free values drawn (log entry 3). -/
  free : Nat := 0
  /-- The live register file: immediate registers, and the bank being written of each coherence class (R44). -/
  regs : RegMap := []
  /-- RWS writes held for their boundary (R417), by address. -/
  staged : List (Nat × Word) := []
  /-- High words latched by reads of ROS low words (R20), by the low word's address. -/
  shadows : List (Nat × Word) := []
  pace : Bank := {}
  legB : Bank := {}
  /-- A snapshot freeze in force: pace boundaries or ms left (R46, R422). -/
  freeze : Option Nat := none
  /-- The local clock in ms at the last whole millisecond counted off a freeze outside RUN (R422). -/
  frozenMs : Nat := 0
  clock : Clock := {}
  cyc : Cyc := {}
  fab : Fab := {}
  units : Units := {}
  log : Recorder := {}
  hif : Hif := {}
  pwr : Power := {}
  hlt : Health := {}
  ldr : Loader := {}
  tg : Gate := {}
  sec : Sec := {}
  pins : Pins := {}
  ring : Ring := {}
  tim : Tim := {}
  red : Red := {}
  fbk : Fbk := {}
  lanes : Lanes := {}
  krb : Krb := {}
  loop : Loop := {}
  sns : Sns := {}
  gns : Gns := {}
  fus : Fus := {}
  alc : Alc := {}
  hzn : Hzn := {}
  eng : Eng := {}
  deriving DecidableEq, Repr

/-- The machine right after the release of reset: BOOT, nothing queued, every register at its reset value but those of the
fabric for the units whose ports are open throughout BOOT (R355): units 1 and 18 to 22 in FAB_PORT_STATE, each with its
first incarnation number in FAB_INCARN (R63); H_RDY is high since the host interface is open (R413). -/
def State.reset : State where
  regs := [(0x30040, 0x7C0002), (0x30104, 1), (0x30148, 1), (0x3014C, 1), (0x30150, 1), (0x30154, 1), (0x30158, 1)]
  pins := { hRdy := true }

end Sys2Proof.Machine
end

