-- ==== Sys2Proof/Machine/Ops.lean ====
section
/-! DEFINITION. Machine/Ops.lean: the named operations that every meaning uses: sorted maps, the register file and its
fields, counters (R22), flags, interrupts (R423), free values, the local clock (R323), closing units (R61). -/

namespace Sys2Proof.Machine

/-! ### Sorted maps -/

/-- The entry at a key. -/
def aGet {α : Type} : List (Nat × α) → Nat → Option α
  | [], _ => none
  | (k, v) :: l, a => if k = a then some v else aGet l a

/-- The map with one entry set; keys stay rising. -/
def aSet {α : Type} : List (Nat × α) → Nat → α → List (Nat × α)
  | [], a, x => [(a, x)]
  | (k, v) :: l, a, x =>
    if a < k then (a, x) :: (k, v) :: l else if a = k then (a, x) :: l else (k, v) :: aSet l a x

/-- The map without one entry. -/
def aDel {α : Type} : List (Nat × α) → Nat → List (Nat × α)
  | [], _ => []
  | (k, v) :: l, a => if k = a then aDel l a else (k, v) :: aDel l a

/-- The entry at a key, or a default. -/
def aGetD {α : Type} (l : List (Nat × α)) (a : Nat) (d : α) : α := (aGet l a).getD d

/-- Insertion into a list ordered by `before`, after equals. -/
def insertBy {α : Type} (before : α → α → Bool) (x : α) : List α → List α
  | [] => [x]
  | y :: l => if before x y then x :: y :: l else y :: insertBy before x l

/-- A list ordered by `before`; equals keep their order. -/
def sortBy {α : Type} (before : α → α → Bool) (l : List α) : List α := l.foldl (fun a x => insertBy before x a) []

/-! ### The register file -/

/-- An address lies in a row. -/
def Row.has (r : Row) (a : Nat) : Bool :=
  if r.stride = 0 then a == r.base
  else r.base ≤ a && (a - r.base) % r.stride == 0 && (a - r.base) / r.stride < r.count

/-- The row of an address; none where the location is reserved (R18, R419). -/
def findRow (a : Nat) : Option Row := ((blockRows[a / 0x10000]?).getD []).find? (fun r => r.has a)

/-- The engine group of logical engine n (R67). -/
def groupOf (n : Nat) : Nat :=
  if n < 4 then 0 else if n < 6 then 1 else if n < 8 then 2 else if n < 10 then 3 else if n < 12 then 4
  else if n < 14 then 5 else 6

/-- The reset value of a register. ENG[n]_STATUS resets with PHYS n and GROUP of R67; HLT_MON[i]_STATUS has spare
rows only for the SRAM banks, monitors 27 to 58 (R437). -/
def resetNat (a : Nat) : Nat :=
  match findRow a with
  | none => 0
  | some r =>
    if r.base = Reg.ENG_STATUS 0 then
      let n := (a - r.base) / r.stride
      n * 0x100 + groupOf n * 4 + 1
    else if r.base = Reg.HLT_MON_STATUS 0 then
      let i := (a - r.base) / r.stride
      if 27 ≤ i ∧ i ≤ 58 then r.reset else 0
    else r.reset

/-- The reset value as a word: what an unlisted address of the register file reads as. -/
def resetWord (a : Nat) : Word := BitVec.ofNat 32 (resetNat a)

/-- Reading one register of a register file. -/
def regGet (m : RegMap) (a : Nat) : Word := (aGet m a).getD (resetWord a)

/-- Writing one register of a register file: the canonical form is kept. -/
def regSet (m : RegMap) (a : Nat) (v : Word) : RegMap := if v = resetWord a then aDel m a else aSet m a v

/-- Keys strictly rising. -/
def keysRise {α : Type} : List (Nat × α) → Bool
  | [] => true
  | [_] => true
  | (a, _) :: (b, y) :: l => a < b && keysRise ((b, y) :: l)

/-- The canonical form of a register file. -/
def RegMap.wf (m : RegMap) : Bool := keysRise m && m.all (fun p => p.2 != resetWord p.1)

/-- A thing that a power state parks (R426). -/
def stateParks (p : Nat) : Uid → Bool
  | .unit u => if p = 4 then u == 3 || u == 4 || u == 5 || u == 6
      else p == 5 && !(u == 1 || u == 2 || u == 18 || u == 21 || u == 22)
  | .eng n => (p == 4 && 6 ≤ n && n ≤ 11) || p == 5
  | .ring _ => p == 5

namespace State

/-- The live value of a register, as a number. -/
def rd (s : State) (a : Nat) : Nat := (regGet s.regs a).toNat

/-- Writing a register's live value. -/
def wr (s : State) (a v : Nat) : State := { s with regs := regSet s.regs a (BitVec.ofNat 32 v) }

/-- The live value of a field. -/
def get (s : State) (f : Fld) : Nat := (s.rd f.addr / 2 ^ f.lo) % 2 ^ (f.hi + 1 - f.lo)

/-- A word with bits [hi:lo] replaced. -/
def putBits (w hi lo v : Nat) : Nat :=
  (w / 2 ^ (hi + 1)) * 2 ^ (hi + 1) + (v % 2 ^ (hi + 1 - lo)) * 2 ^ lo + w % 2 ^ lo

/-- Writing a field's live value. -/
def put (s : State) (f : Fld) (v : Nat) : State := s.wr f.addr (putBits (s.rd f.addr) f.hi f.lo v)

/-- A one-bit field as a Boolean. -/
def is (s : State) (f : Fld) : Bool := s.get f != 0

/-- Setting or clearing a one-bit field. -/
def flag (s : State) (f : Fld) (b : Bool) : State := s.put f (if b then 1 else 0)

/-- An event of a counter register with COUNT [15:0] and OVF [16] (R22): it sticks at 0xFFFF, and an increment that
arrives there sets OVF. -/
def count (s : State) (a : Nat) : State :=
  if s.get ⟨a, 15, 0⟩ = 0xFFFF then s.put ⟨a, 16, 16⟩ 1 else s.put ⟨a, 15, 0⟩ (s.get ⟨a, 15, 0⟩ + 1)

/-- Clearing a counter and its OVF (R24). -/
def clearCount (s : State) (a : Nat) : State := s.put ⟨a, 16, 0⟩ 0

/-- A free value of the run (log entry 3). -/
def draw (s : State) : Nat × State := (Config.freeNat s.free, { s with free := s.free + 1 })

/-- Raising interrupt source i (R423). -/
def irq (s : State) (i : Nat) : State := s.put ⟨Reg.HIF_IRQ_STATUS, i, i⟩ 1

/-! ### Time -/

/-- The local clock in ns (R9). -/
def clk (s : State) : Nat := s.clock.t / 2 ^ 32

/-- The local clock in whole milliseconds. -/
def ms (s : State) : Nat := s.clk / 1000000

/-- `dt` ns of real time pass. The local clock advances once per 4 ns step by 4 ns and its addend (R323), while the
timebase runs (R429). -/
def elapse (s : State) (dt : Nat) : State :=
  if s.clock.running ∧ s.pwr.vcore ∧ s.pwr.rstn then
    let n := (s.clock.rem + dt) / 4
    { s with now := s.now + dt
             clock := { s.clock with t := (s.clock.t + n * (4 * 2 ^ 32 + s.clock.inc)).toNat
                                     rem := (s.clock.rem + dt) % 4 } }
  else { s with now := s.now + dt }

/-! ### Power, role, units -/

/-- The device runs: VCORE is in range and RST_N is released. -/
def alive (s : State) : Bool := s.pwr.vcore && s.pwr.rstn

/-- The power state (R426). -/
def power (s : State) : Nat := s.get Fl.PWR_STATUS_STATE
/-- In RUN. -/
def inRun (s : State) : Bool := s.power == 3
/-- The role (R330). -/
def role (s : State) : Nat := s.get Fl.RED_STATUS_ROLE

/-- A running test ends with a cause (R195). -/
def testAbort (s : State) (c : Nat) : State :=
  if s.get Fl.LOOP_TEST_STATUS_STATE = 1 then
    ((s.put Fl.LOOP_TEST_STATUS_STATE 3).put Fl.LOOP_TEST_STATUS_CAUSE c).flag Fl.LOOP_TEST_CTL_GO false
  else s

/-- A unit's ports are open (R61). -/
def isOpen (s : State) (u : Nat) : Bool := s.is ⟨Reg.FAB_PORT_STATE, u, u⟩

/-- An engine's ports are open. -/
def engOpen (s : State) (n : Nat) : Bool := s.get (Fl.ENG_STATUS_STATE n) != 1

/-- A thing with ports is open. -/
def uidOpen (s : State) : Uid → Bool
  | .unit u => s.isOpen u
  | .eng n => s.engOpen n
  | .ring r => s.get (if r = 0 then Fl.RING_STATUS_STATE_A else Fl.RING_STATUS_STATE_B) != 5

/-- A transition accepted and not yet in effect is cancelled (R427). -/
def cancelTrans (s : State) : State :=
  if s.pwr.trans.isNone then s
  else
    let p := s.power
    let s : State := { s with pwr := { s.pwr with trans := none, quietWait := false }
                              units := { s.units with ready := s.units.ready.filter (fun u => !stateParks p u) } }
    (((s.put Fl.PWR_STATUS_RESULT 5).put Fl.PWR_STATUS_TARGET 0).flag Fl.PWR_STATUS_BUSY false).flag Fl.PWR_STATUS_LEAVING false

/-- A change of state under a condition. -/
def when (s : State) (c : Bool) (f : State → State) : State := if c then f s else s

/-- A change of state for each element of a list, in order. -/
def each {α : Type} (s : State) (l : List α) (f : State → α → State) : State := l.foldl f s

end State

/-! ### Signed and binary-angle readings (R7, R8) -/

/-- A 32-bit value read as two's complement. -/
def sInt (v : Nat) : Int := if v % 2 ^ 32 < 2 ^ 31 then ((v % 2 ^ 32 : Nat) : Int) else ((v % 2 ^ 32 : Nat) : Int) - 2 ^ 32

/-- The two's complement word of an integer. -/
def uInt (i : Int) : Nat := (i % 2 ^ 32).toNat

/-- A `w`-bit value read as two's complement. -/
def sBits (w v : Nat) : Int := if v % 2 ^ w < 2 ^ (w - 1) then ((v % 2 ^ w : Nat) : Int) else ((v % 2 ^ w : Nat) : Int) - 2 ^ w

/-- Saturation to the 32-bit limits. -/
def sat32 (i : Int) : Int := if i > 2 ^ 31 - 1 then 2 ^ 31 - 1 else if i < -2 ^ 31 then -2 ^ 31 else i

/-- The difference of two binary angles, read as signed (R8). -/
def angDiff (a b : Nat) : Int := sInt (a + 2 ^ 32 - b % 2 ^ 32)

/-- Rounding a quotient to nearest, halves away from zero; the divisor is positive. -/
def divRound (n : Int) (d : Nat) : Int :=
  if n ≥ 0 then (2 * n + d) / (2 * d) else -((2 * (-n) + d) / (2 * d))

/-- `a` is after `b` modulo 2^32 (R23). -/
def after32 (a b : Nat) : Bool := let d := (a + 2 ^ 32 - b % 2 ^ 32) % 2 ^ 32; 1 ≤ d && d ≤ 2 ^ 31 - 1

/-- The bytes of a list of byte vectors as numbers. -/
def bytesNat (bs : List Byte) : List Nat := bs.map (·.toNat)

/-! ### Answering -/

/-- The gate-drive outputs, one bit per switch (R278, R445): low without power, in reset, outside RUN, in role FAULTED
and while the TAP is open (R388). -/
def gateDrives (s : State) : Nat :=
  if s.alive && s.inRun && s.role == 3 && !s.is Fl.SEC_STATUS_JTAG_OPEN then
    s.krb.so.foldl (fun w (k, c) =>
      w + (if c.hs.on && k < 4 then 4 ^ k else 0) + (if c.ls.on && k < 4 then 2 * 4 ^ k else 0)) 0
  else 0

/-- ALARM_N is low while a latched trigger has grade ALARM or above (R383), from the end of boot on (R446). -/
def alarmHeld (s : State) : Bool :=
  s.power != 1 && (List.range 7).any (fun c => (s.rd Reg.SEC_STATUS).testBit (16 + c) && 1 ≤ s.rd Reg.SEC_POLICY / 4 ^ c % 4)

/-- A trigger output: active for WIDTH µs from its edge, with the polarity of POL (R90). -/
def strigLevel (s : State) (t : Nat) : Bool :=
  let act := s.is (Fl.SNS_TRIG_CTL_EN t) && s.isOpen 8 &&
    (match (aGetD s.sns.edges t []).head? with
      | some (_, a) => decide (s.now < a + s.get (Fl.SNS_TRIG_CTL_WIDTH t) * 1000)
      | none => false)
  s.alive && (act != s.is (Fl.SNS_TRIG_CTL_POL t))

/-- SMP_FS: high for the first SCK period of a frame (R88). -/
def smpFsLevel (s : State) : Bool :=
  let fs := 500 * 2 ^ s.get Fl.SNS_SMP_CFG_RATE
  s.alive && s.is Fl.SNS_SMP_CFG_EN && s.isOpen 8 &&
    (match s.sns.frame with | some (_, a) => decide (s.now < a + 1000000000 / (256 * fs)) | none => false)

/-- PPS_OUT: active for WIDTH ms from its edge, while the timebase drives it (R131, R446). -/
def ppsLevel (s : State) : Bool :=
  let act := s.is Fl.GNS_PPS_CTL_EN && s.isOpen 11 &&
    (match s.gns.ppsAt with | some a => decide (s.now < a + s.get Fl.GNS_PPS_CTL_WIDTH * 1000000) | none => false)
  s.alive && (act != s.is Fl.GNS_PPS_CTL_POL)

/-- Half an SCK period of the front-end wire in ns (R109). -/
def feHalf (s : State) : Nat := ([500, 200, 100, 50] : List Nat).getD (s.get Fl.GNS_FE_CMD_RATE) 500

/-- The half periods of a transaction: START, LEN_OUT bits, one period released and LEN_IN bits where there are any, STOP. -/
def feHalves (s : State) : Nat :=
  let i := s.get Fl.GNS_FE_CMD_LEN_IN
  1 + 2 * s.get Fl.GNS_FE_CMD_LEN_OUT + (if i = 0 then 0 else 2 + 2 * i) + 2

/-- GFE_SCK and GFE_SDIO as the device holds them (R109): SCK idles high, SDIO is pulled up while it is released. A bit changes
while SCK is low and stands over the rising edge; START and STOP take one and two half periods (DESIGN CHOICE, log entry 81). -/
def feLevels (s : State) : Bool × Bool :=
  match s.gns.fe with
  | none => (true, true)
  | some (at_, data) =>
    let k := (s.now - at_) / feHalf s
    let out := s.get Fl.GNS_FE_CMD_LEN_OUT
    let n := feHalves s
    if !(s.alive && s.isOpen 10) || n ≤ k then (true, true)
    else if k = 0 then (true, false)
    else if k ≤ 2 * out then ((k - 1) % 2 == 1, data.testBit (out - 1 - (k - 1) / 2))
    else if k + 2 < n then ((k - 1) % 2 == 1, true)
    else (k + 1 == n, false)

/-- HB_OUT: an 8 kHz square wave in READY, RUN and HARBOUR, low otherwise and from a fatal fault on (R334). -/
def hbLevel (s : State) : Bool :=
  s.alive && 2 ≤ s.power && s.power ≤ 4 && s.role != 4 && !s.krb.fatalL && s.now / 62500 % 2 == 1

/-- What follows from the registers by wire, whatever the command: H_IRQ_N is low while a source is both set and
enabled (R423), FAULT_N is low while a fatal fault holds (R430, R446), ALARM_N while an alarm is latched (R383), the
gate drives follow the Kerb (R278), and a device whose role is FAULTED or that is not running holds both ring bypasses
released (R318). -/
def settlePins (s : State) : Pins :=
  { s.pins with
    hIrqN := (s.rd Reg.HIF_IRQ_STATUS &&& s.rd Reg.HIF_IRQ_EN) == 0
    faultN := s.pins.faultN && s.role != 4
    alarmN := !(s.alive && alarmHeld s)
    so := gateDrives s
    strig0 := strigLevel s 0
    strig1 := strigLevel s 1
    gfeSck := (feLevels s).1
    gfeSdio := (feLevels s).2
    smpFs := smpFsLevel s
    pps := ppsLevel s
    bypA := s.pins.bypA && s.alive && s.role != 4
    bypB := s.pins.bypB && s.alive && s.role != 4
    hbOut := hbLevel s }

/-- The wires brought up to date, and the queue as the step found it: a command changes everything but the queue. -/
def settle (q : List Instr) (s : State) : State := { s with pins := settlePins s, pending := q }

/-- A command that acts on the running device after `dt` ns: nothing but time passes while it is without power or held
in reset. -/
def act (dt : Nat) (f : State → State) (s : State) : Host.Outcome State Fault Refusal :=
  let s1 := s.elapse dt
  .next (settle s.pending (if s1.alive then f s1 else s1))

/-- A command that acts whether or not the device runs (supplies, reset pins, keep-alive). -/
def actAlways (dt : Nat) (f : State → State) (s : State) : Host.Outcome State Fault Refusal :=
  .next (settle s.pending (f (s.elapse dt)))

/-- A command that a unit takes only while its ports are open (R61). -/
def actUnit (u dt : Nat) (f : State → State) (s : State) : Host.Outcome State Fault Refusal :=
  act dt (fun s => if s.isOpen u then f s else s) s

end Sys2Proof.Machine
end

