-- ==== Sys2Proof/Machine/RecorderOps.lean ====
section
/-! DEFINITION. Machine/RecorderOps.lean: creating records (R394 to R402) and reading them (R405), as operations that
every unit's committed events use. -/

namespace Sys2Proof.Machine

/-- An event of R397: source, severity, EVENT number. -/
structure Ev where
  src : Nat
  sev : Nat
  num : Nat
  deriving DecidableEq, Repr

namespace Ev
def ALLOC_MISS : Ev := ⟨4, 1, 1⟩
def HZN_ELIGIBLE : Ev := ⟨5, 0, 1⟩
def HZN_MODEL_COMMIT : Ev := ⟨5, 0, 2⟩
def JOY_STALE : Ev := ⟨6, 1, 1⟩
def SLIP : Ev := ⟨8, 0, 1⟩
def STREAM_RESTART : Ev := ⟨8, 1, 2⟩
def TRACK_STATE : Ev := ⟨9, 0, 1⟩
def REF_CONTRADICTION : Ev := ⟨9, 2, 2⟩
def HDG_CONTRADICTION : Ev := ⟨9, 2, 3⟩
def DETOUR_CHANGE : Ev := ⟨9, 1, 4⟩
def MRU_DISAGREE : Ev := ⟨9, 1, 5⟩
def WIND_DISAGREE : Ev := ⟨9, 1, 6⟩
def INTEGRITY_RAISED : Ev := ⟨10, 2, 1⟩
def INTEGRITY_LOWERED : Ev := ⟨10, 0, 2⟩
def NOTCH_ENGAGED : Ev := ⟨10, 0, 3⟩
def NOTCH_RELEASED : Ev := ⟨10, 0, 4⟩
def TIME_JUMP_REFUSED : Ev := ⟨11, 2, 1⟩
def TIME_STEP : Ev := ⟨11, 1, 2⟩
def LANE_FAULT : Ev := ⟨13, 2, 1⟩
def FB_INDEX_MISMATCH : Ev := ⟨13, 1, 2⟩
/-- Of the Kerb processor; the Kerb logic's is the same with source 15. -/
def KERB_FATAL : Ev := ⟨14, 3, 1⟩
def KERB_TRIP : Ev := ⟨14, 2, 2⟩
def KERB_CMD : Ev := ⟨14, 2, 3⟩
def SO_FAULT : Ev := ⟨14, 2, 4⟩
def KERB_FATAL_L : Ev := ⟨15, 3, 1⟩
def KERB_TRIP_L : Ev := ⟨15, 2, 2⟩
def SO_FAULT_L : Ev := ⟨15, 2, 4⟩
def RING_BREAK : Ev := ⟨16, 2, 1⟩
def RING_HEAL : Ev := ⟨16, 0, 2⟩
def NODE_JOIN : Ev := ⟨16, 0, 3⟩
def NODE_LEAVE : Ev := ⟨16, 1, 4⟩
def RING_NODE_ALARM : Ev := ⟨16, 1, 5⟩
def TAKEOVER : Ev := ⟨17, 2, 1⟩
def DEMOTED : Ev := ⟨17, 2, 2⟩
def PARTNER_LOST : Ev := ⟨17, 2, 3⟩
def PATH_FAULT : Ev := ⟨17, 2, 4⟩
def PATH_RESTORED : Ev := ⟨17, 0, 5⟩
def RESYNC_DONE : Ev := ⟨17, 0, 6⟩
def RESYNC_REFUSED : Ev := ⟨17, 1, 7⟩
def ROLE_EXCHANGE : Ev := ⟨17, 0, 8⟩
def LOG_CLEARED : Ev := ⟨18, 1, 1⟩
def LOG_FULL : Ev := ⟨18, 1, 2⟩
def BOOT_DONE : Ev := ⟨19, 0, 1⟩
def FE_FAULT : Ev := ⟨19, 2, 2⟩
def TG_COMMIT : Ev := ⟨19, 0, 3⟩
def TG_FAIL : Ev := ⟨19, 1, 4⟩
def SEC_TRIGGER : Ev := ⟨20, 2, 1⟩
def SEC_ERASE : Ev := ⟨20, 2, 2⟩
def JTAG_OPEN : Ev := ⟨20, 2, 3⟩
def HOST_MARK : Ev := ⟨21, 0, 1⟩
def LEG_OVERRUN : Ev := ⟨22, 1, 1⟩
def FAB_RESERVE_EMPTY : Ev := ⟨22, 1, 2⟩
def POWER_STATE : Ev := ⟨22, 0, 16⟩
def UNIT_PARK : Ev := ⟨22, 0, 17⟩
def UNIT_RESET : Ev := ⟨22, 1, 18⟩
def WEAR_WATCH : Ev := ⟨22, 1, 19⟩
def WEAR_WORN : Ev := ⟨22, 1, 20⟩
def VERGE_ROW : Ev := ⟨22, 0, 21⟩
def VERGE_CELL : Ev := ⟨22, 0, 22⟩
def VERGE_CHANNEL : Ev := ⟨22, 0, 23⟩
def VERGE_SECTOR : Ev := ⟨22, 0, 24⟩
def ENGINE_SWAP : Ev := ⟨22, 1, 25⟩
def SWAP_ABORTED : Ev := ⟨22, 1, 26⟩
def SPARES_EXHAUSTED : Ev := ⟨22, 2, 27⟩
def EYE_LOW : Ev := ⟨22, 1, 28⟩
def HEALTH_FATAL : Ev := ⟨22, 3, 29⟩
end Ev

/-- DATA of values that fit in 8 bits, one byte each from offset 24 (R394). -/
def d8 (a : Nat) (b c d : Nat := 0) : Nat :=
  a % 256 * 2 ^ 24 + b % 256 * 2 ^ 16 + c % 256 * 2 ^ 8 + d % 256

/-- Bytes 0 to 29 of a record (R394). -/
def recHead (r : LogRecord) : Bytes :=
  [r.source % 256, r.flags % 256] ++ toBE 2 r.seq ++ toBE 2 r.code ++ toBE 3 r.pcc ++ [r.arg % 256] ++
    toBE 4 r.opsec ++ toBE 6 (r.stamp / 10 ^ 9) ++ toBE 4 (r.stamp % 10 ^ 9) ++ toBE 4 r.data ++ toBE 2 r.rep

/-- The 32 bytes of a record, CHECK last (R394). -/
def recBytes (r : LogRecord) : Bytes := recHead r ++ toBE 2 (crc16 (recHead r))

/-- The record at a readout index: 0 to 16,383 main, 16,384 to 16,639 tail (R393, R405). -/
def recAt (l : Recorder) (i : Nat) : Option LogRecord :=
  if i < 16384 then l.main[i]? else if i < 16640 then aGet l.tail (i - 16384) else none

/-- s_0 of the seal chain (R402), from the record at index 0. -/
def sealZero (rsk : Bytes) (l : Recorder) : Bytes :=
  match l.main with
  | [] => List.replicate 32 0
  | r :: _ => hmac rsk (toBE 8 Config.dieId ++ toBE 3 r.pcc ++ toBE 4 r.opsec)

/-- The seal of block k, the seal before it given (R402). -/
def sealBlock (rsk : Bytes) (l : Recorder) (k : Nat) (prev : Bytes) : Bytes :=
  hmac rsk (prev ++ toBE 4 k ++ (((l.main.drop (64 * (k - 1))).take 64).flatMap recBytes))

/-- s_(k-1), the value that block k chains from: s_0 for block 1, else the stored seal. -/
def sealPrev (rsk : Bytes) (l : Recorder) (k : Nat) : Bytes :=
  if k ≤ 1 then sealZero rsk l else toBE 32 (l.seals.getD (k - 2) 0)

/-- Seals complete blocks beyond LOG_SEALED, at most `n` of them (R402). -/
def sealMore (rsk : Bytes) : Nat → Recorder → Recorder
  | 0, l => l
  | n + 1, l =>
    let k := l.seals.length + 1
    if 64 * k ≤ l.main.length then
      sealMore rsk n { l with seals := l.seals ++ [beNat (sealBlock rsk l k (sealPrev rsk l k))] }
    else l

namespace State

/-- The recorder's registers brought up to date with its stores: LOG_STATUS, LOG_TAIL, LOG_OPSEC, LOG_PCC, LOG_SEALED
and LOG_SEAL_HEAD (R395, R399, R401, R402). -/
def logPublish (s : State) : State :=
  let l := s.log
  let head := toBE 32 (if l.seals.isEmpty then 0 else l.seals.getLastD 0)
  let s := ((((s.flag Fl.LOG_STATUS_FULL l.full).flag Fl.LOG_STATUS_OPSEC_STUCK l.opsecStuck).flag
    Fl.LOG_STATUS_PCC_STUCK l.pccStuck).put Fl.LOG_STATUS_COUNT l.main.length).wr Reg.LOG_OPSEC l.opsec
  let s := (((s.wr Reg.LOG_PCC l.pcc).put Fl.LOG_TAIL_NEXT l.tailCount).flag Fl.LOG_TAIL_WRAPPED
    (decide (256 ≤ l.tailCount))).wr Reg.LOG_SEALED l.seals.length
  s.each (List.range 8) (fun s i => s.wr (Reg.LOG_SEAL_HEAD i) (beAt head (4 * i) 4))

/-- Sealing what is complete (R402). -/
def sealLog (s : State) : State :=
  match s.sec.rsk with
  | none => s
  | some k => { s with log := sealMore k (s.log.main.length / 64) s.log }

/-- Writing one new record to the tail window, and to the main area unless `tailOnly` (R399, R401). -/
def storeRecord (s : State) (ev : Ev) (arg data flags : Nat) (tailOnly : Bool) : State :=
  let l := s.log
  let q := s.get Fl.TIM_STATUS_QUALITY
  let r : LogRecord :=
    { source := ev.src
      flags := q + (if l.opsecStuck then 4 else 0) + (if l.pccStuck then 8 else 0) + flags +
        (if tailOnly then 32 else 0)
      seq := aGetD l.seqs ev.src 0, code := ev.sev * 2 ^ 14 + ev.num, pcc := l.pcc, arg := arg % 256
      opsec := l.opsec, stamp := if q = 0 then 0 else s.clk, data := data % 2 ^ 32, rep := 0 }
  { s with log := { l with
      main := if tailOnly then l.main else l.main ++ [r]
      tail := aSet l.tail (l.tailCount % 256) r
      tailCount := l.tailCount + 1
      seqs := aSet l.seqs ev.src ((aGetD l.seqs ev.src 0 + 1) % 2 ^ 16)
      last := aSet l.last ev.src ⟨r, if tailOnly then none else some l.main.length, l.tailCount % 256, l.tailCount⟩ } }

/-- A new record: while the main area is full or being cleared it goes to the tail only and counts in LOG_DROPPED;
otherwise it may complete a block, which is sealed, and may fill the main area, which is recorded by LOG_FULL in the
tail and raised to the host (R399, R401, R402, R424). -/
def newRecord (s : State) (ev : Ev) (arg data flags : Nat) : State :=
  if s.log.full || s.is Fl.LOG_STATUS_CLEARING then
    ((s.storeRecord ev arg data flags true).count Reg.LOG_DROPPED).logPublish
  else
    let s := (s.storeRecord ev arg data flags false).sealLog
    if s.log.main.length ≥ 16384 then
      let s : State := { s with log := { s.log with full := true } }
      ((s.storeRecord Ev.LOG_FULL 0 0 0 true).irq 15).logPublish
    else s.logPublish

/-- A repeat counted in place: in the tail window, and in the main area when the record lies there (R400). -/
def repeatRecord (s : State) (x : LastRec) : State :=
  let r := { x.entry with rep := min 0xFFFF (x.entry.rep + 1) }
  { s with log := { s.log with
      tail := aSet s.log.tail x.tail r
      main := (match x.main with | none => s.log.main | some i => s.log.main.set i r)
      last := aSet s.log.last r.source { x with entry := r } } }

/-- An event committed: a record, a repeat of the source's last record, or a continued record where that one lies in
a sealed block or has been overwritten in the tail (R399, R400). -/
def logEv (s : State) (ev : Ev) (arg : Nat := 0) (data : Nat := 0) : State :=
  match aGet s.log.last ev.src with
  | none => s.newRecord ev arg data 0
  | some x =>
    if x.entry.code = ev.sev * 2 ^ 14 + ev.num ∧ x.entry.arg = arg % 256 ∧ x.entry.data = data % 2 ^ 32 then
      let inOpen := match x.main with | none => true | some i => decide (s.log.main.length / 64 ≤ i / 64)
      if inOpen && decide (s.log.tailCount < x.tailAt + 256 + 1) then s.repeatRecord x else s.newRecord ev arg data 16
    else s.newRecord ev arg data 0

/-- Latching a record into LOG_RD_DATA and LOG_RD_INDEX.VALID (R405). -/
def latchRecord (s : State) (i : Nat) : State :=
  let bs := match recAt s.log i with | none => List.replicate 32 0 | some r => recBytes r
  let s := (s.put Fl.LOG_RD_INDEX_INDEX i).flag Fl.LOG_RD_INDEX_VALID (recAt s.log i).isSome
  s.each (List.range 8) (fun s j => s.wr (Reg.LOG_RD_DATA j) (beAt bs (4 * j) 4))

end State

end Sys2Proof.Machine
end

