-- ==== Sys2Proof/Machine/HostPort.lean ====
section
/-! DEFINITION. Machine/HostPort.lean: the security unit's triggers (R382 to R384), the checks every host access passes
(R19, R62, R379, R386, R416), staging (R417), and the coherence banks with their freeze (R43 to R46). -/

namespace Sys2Proof.Machine

namespace State

/-! ### Security triggers -/

/-- Zeroing the session keys and aborting an export: grade ERASE_SESSION (R383). -/
def eraseSession (s : State) : State :=
  ({ s with sec := { s.sec with skeys := [], exportQ := [] } } : State).put Fl.SEC_STATUS_SKEY 0

/-- A random number of `bits` bits from the on-die generator. -/
def random (s : State) (bits : Nat) : Nat × State := (s.draw.1 % 2 ^ bits, s.draw.2)

/-- Starting ERASE_ALL: ERASE_PENDING is written first (R384). -/
def eraseAllStart (s : State) (byHost : Bool) : State :=
  ({ s.eraseSession with sec := { s.eraseSession.sec with hostErase := byHost } } : State).flag
    Fl.SEC_STATUS_ERASE_PENDING true

/-- Trigger c fires: it is logged and latched, and its grade and every grade below it act (R382, R383). In QUIET the
health manager holds it until the security unit reopens (R429). -/
def secTriggerAt (s : State) (c least : Nat) : State :=
  let g := max least (s.rd Reg.SEC_POLICY / 4 ^ c % 4)
  let s := s.logEv Ev.SEC_TRIGGER c (d8 g)
  let s := ((s.put ⟨Reg.SEC_STATUS, 16 + c, 16 + c⟩ 1).put Fl.SEC_STATUS_GRADE g).when (1 ≤ g) (fun s => s.irq 11)
  let s := s.when (2 ≤ g) eraseSession
  s.when (3 ≤ g && !s.is Fl.SEC_STATUS_ERASE_PENDING) (fun s => s.eraseAllStart false)

/-- Trigger c fires with its policy grade. -/
def secTrigger (s : State) (c : Nat) : State :=
  if s.isOpen 20 || s.power == 1 then s.secTriggerAt c 0
  else { s with sec := { s.sec with quietTriggers := s.sec.quietTriggers ++ [c] } }

/-! ### Host checks -/

/-- HIF_LAST_ERR (R412, R416, R418, R62). -/
def lastErr (s : State) (cause addr : Nat) : State :=
  (s.put Fl.HIF_LAST_ERR_CAUSE cause).put Fl.HIF_LAST_ERR_ADDR addr

/-- A refused value: BAD_WRITE and HIF_LAST_ERR (R19, R418). -/
def badWrite (s : State) (addr : Nat) : State := (s.flag Fl.HIF_STATUS_BAD_WRITE true).lastErr 2 addr

/-- An access of a closed unit (R62). -/
def closedAccess (s : State) (addr : Nat) : State := (s.flag Fl.HIF_STATUS_CLOSED_UNIT true).lastErr 1 addr

/-- A transaction refused for privilege: PRIV_REFUSED, HIF_LAST_ERR, SEC_UNPRIV and the run count, whose 16th fires
trigger 6 (R386, R416). -/
def privRefused (s : State) (addr : Nat) : State :=
  let s := ((s.flag Fl.HIF_STATUS_PRIV_REFUSED true).lastErr 3 addr).count Reg.SEC_UNPRIV
  if s.hif.unprivRun + 1 ≥ 16 then ({ s with hif := { s.hif with unprivRun := 0 } } : State).secTrigger 6
  else { s with hif := { s.hif with unprivRun := s.hif.unprivRun + 1 } }

/-- A transaction that touches a privileged location with H_PRIV high ends the run (R386). -/
def privUsed (s : State) : State := { s with hif := { s.hif with unprivRun := 0 } }

end State

/-- A register carries the P suffix (R17). -/
def Row.priv (r : Row) : Bool := r.acc == .rwp || r.acc == .wop || r.acc == .rop

/-- The unit that serves a block; 0 for GLB and HIF, which are never closed (R425). -/
def unitOfBlock (b : Nat) : Nat :=
  ([0, 22, 19, 1, 2, 3, 4, 5, 6, 7, 8, 9, 10, 11, 12, 13, 14, 16, 17, 18, 20, 22, 0] : List Nat).getD b
    (if b = 0x20 then 16 else if b = 0x30 then 19 else 0)

/-- The unit that serves an address. -/
def unitOfAddr (a : Nat) : Nat := unitOfBlock (a / 0x10000)

/-- A field accepts a value (R19). binary32 weights accept positive finite normal values; EPS_PIV the values of R217. -/
def Legal.ok (l : Legal) (w v : Nat) : Bool :=
  match l with
  | .range lo hi => lo ≤ v && v ≤ hi
  | .srange lo hi => lo ≤ sBits w v && sBits w v ≤ hi
  | .f32pos => 0x00800000 ≤ v && v < 0x7F800000
  | .epsPiv => 0x2B800000 ≤ v && v ≤ 0x3B800000
  | .fusCmd => v % 32 ≤ 17 || 4 ≤ v / 2 ^ 28

/-- Every field of the register accepts the written word (R19). -/
def Row.legalOk (r : Row) (v : Nat) : Bool :=
  r.legal.all (fun (hi, lo, l) => l.ok (hi + 1 - lo) (v / 2 ^ lo % 2 ^ (hi + 1 - lo)))

namespace State

/-- The 64 KiB block is named by the bank while the Tollgate is CHECKING or ARMED (R379). -/
def tgLocks (s : State) (addr : Nat) : Bool :=
  (s.get Fl.TG_STATUS_STATE == 2 || s.get Fl.TG_STATUS_STATE == 4) &&
    s.tg.entries.any (fun e => e.1 < 2 ^ 31 && e.1 / 0x10000 == addr / 0x10000)

/-- A unit is closed to the host (R62); GLB and HIF never are. -/
def hostClosed (s : State) (addr : Nat) : Bool := unitOfAddr addr != 0 && !s.isOpen (unitOfAddr addr)

/-- A host write that has passed the privilege check: a closed unit ignores it (R62), an armed Tollgate's block
refuses a staged write (R379), an illegal value is refused as a whole (R19); otherwise `eff` is its effect. -/
def hostWrite (s : State) (r : Row) (addr w : Nat) (eff : State → State) : State :=
  if s.hostClosed addr then s.closedAccess addr
  else if r.acc == .rws && s.tgLocks addr then s.badWrite addr
  else if !r.legalOk w then s.badWrite addr
  else eff s

/-- A host transaction on one register with the H_PRIV level it carries: refused for privilege before any other check
(R62, R416). -/
def hostTxn (s : State) (r : Row) (addr : Nat) (priv : Bool) (f : State → State) : State :=
  if r.priv && !priv then s.privRefused addr
  else f (if r.priv then s.privUsed else s)

/-- A host write of one register as a transaction of its own. -/
def hostCmd (s : State) (r : Row) (addr : Nat) (priv : Bool) (w : Nat) (eff : State → State) : State :=
  s.hostTxn r addr priv (fun s => s.hostWrite r addr w eff)

/-- Holding an RWS write for its boundary (R417). -/
def stage (s : State) (addr w : Nat) : State := { s with staged := aSet s.staged addr (BitVec.ofNat 32 w) }

/-- A write's value merged into a register: implemented bits only, read-only and write-1-to-clear bits kept (R18,
R418). -/
def mergeWrite (r : Row) (old w : Nat) : Nat :=
  let keep := (2 ^ 32 - 1) ^^^ (r.mask &&& ((2 ^ 32 - 1) ^^^ (r.ro ||| r.w1c)))
  (old &&& keep) ||| (w &&& r.mask &&& ((2 ^ 32 - 1) ^^^ (r.ro ||| r.w1c)))

/-- Clearing bits of a register file's entry. -/
def clearIn (m : RegMap) (addr bits : Nat) : RegMap :=
  regSet m addr (BitVec.ofNat 32 ((regGet m addr).toNat &&& ((2 ^ 32 - 1) ^^^ bits)))

/-- Write-1-to-clear: the bits clear at once, and in every bank of the register's class (R418). -/
def w1c (s : State) (r : Row) (addr w : Nat) : State :=
  let bits := w &&& r.w1c
  if bits = 0 then s else
    let s : State := { s with regs := clearIn s.regs addr bits }
    match r.cls with
    | .pace => { s with pace := { s.pace with visible := clearIn s.pace.visible addr bits
                                              complete := clearIn s.pace.complete addr bits } }
    | .leg => { s with legB := { s.legB with visible := clearIn s.legB.visible addr bits
                                             complete := clearIn s.legB.complete addr bits } }
    | _ => s

/-! ### Coherence banks -/

/-- The epoch that an end mark completes: the pace's own, and at a standby that of the fast Milestone it has applied (R43,
R48). -/
def paceEpoch (s : State) : Nat :=
  if s.role = 2 ∧ s.red.loaded = true then s.red.fastApplied.getD s.cyc.pace else s.cyc.pace

/-- The leg epoch likewise: at a standby that of the full Milestone it has applied (R43, R48). -/
def legEpoch (s : State) : Nat :=
  if s.role = 2 ∧ s.red.loaded = true then s.rd Reg.RED_MS_FULL else s.cyc.legPace

/-- An end mark completes an epoch of the pace-coherent class (R44). -/
def completePace (s : State) : State :=
  { s with pace := { s.pace with complete := s.regs, compEpoch := s.paceEpoch } }

/-- The leg's last end mark completes an epoch of the leg-coherent class (R44). -/
def completeLeg (s : State) : State :=
  { s with legB := { s.legB with complete := s.regs, compEpoch := s.legEpoch } }

/-- The pace-coherent bank flips unless a freeze is in force (R44). -/
def flipPace (s : State) : State :=
  if s.freeze.isSome then s
  else { s with pace := { s.pace with visible := s.pace.complete, visEpoch := s.pace.compEpoch } }

/-- The leg-coherent bank flips unless a freeze is in force; a flip raises the LEG interrupt (R44, R424). -/
def flipLeg (s : State) : State :=
  if s.freeze.isSome then s
  else ({ s with legB := { s.legB with visible := s.legB.complete, visEpoch := s.legB.compEpoch } } : State).irq 0

/-- GLB_SNAP_STATUS, and the epochs that a read returns (R45, R422). -/
def snapPublish (s : State) : State :=
  let s := (s.flag Fl.GLB_SNAP_STATUS_FROZEN s.freeze.isSome).put Fl.GLB_SNAP_STATUS_LEFT (s.freeze.getD 0)
  (s.wr Reg.GLB_SNAP_EPOCH s.pace.visEpoch).wr Reg.GLB_SNAP_LEG s.legB.visEpoch

/-- A freeze begins: the epoch is delivered, and a second read neither renews nor extends it (R45). -/
def snapFreeze (s : State) : State :=
  (if s.freeze.isSome then s else { s with freeze := some 100 }).snapPublish

/-- A freeze ends: the latest complete bank of each class becomes visible at once (R46). -/
def snapRelease (s : State) : State :=
  if s.freeze.isNone then s else
    ({ s with freeze := none
              pace := { s.pace with visible := s.pace.complete, visEpoch := s.pace.compEpoch }
              legB := { s.legB with visible := s.legB.complete, visEpoch := s.legB.compEpoch } } : State).snapPublish

/-- A freeze expires: SNAP_EXPIRED and its interrupt (R46, R424). -/
def snapExpire (s : State) : State :=
  if s.freeze.isNone then s else (s.snapRelease.flag Fl.HIF_STATUS_SNAP_EXPIRED true).irq 18

/-- A pace boundary counts a freeze down and expires it at the 100th (R46). -/
def snapTick (s : State) : State :=
  match s.freeze with
  | none => s
  | some n => if n ≤ 1 then s.snapExpire else ({ s with freeze := some (n - 1) } : State).snapPublish

/-! ### Reading -/

/-- The value a register shows the host: the visible bank of its class, a staged value while held (R417), the shadow of
a ROS pair's high word (R20), zero where it is write-only or reserved (R16, R18). -/
def shown (s : State) (addr : Nat) : Nat :=
  match findRow addr with
  | none => 0
  | some r =>
    if r.acc == .wo || r.acc == .wop then 0
    else if (match findRow (addr - 4) with | some q => q.acc == Acc.ros | none => false) then
      ((aGet s.shadows (addr - 4)).getD 0).toNat
    else match r.cls with
      | .pace => (regGet s.pace.visible addr).toNat
      | .leg => (regGet s.legB.visible addr).toNat
      | _ => match (if r.acc == Acc.rws then aGet s.staged addr else none) with
        | some w => w.toNat
        | none => s.rd addr

/-- Reading a ROS low word latches the high word, from the same bank, into its shadow (R20, R26, R44). -/
def rosLatch (s : State) (addr : Nat) : State :=
  match findRow addr with
  | none => s
  | some r =>
    if r.acc == .ros then
      let hi := match r.cls with
        | .pace => regGet s.pace.visible (addr + 4)
        | .leg => regGet s.legB.visible (addr + 4)
        | _ => regGet s.regs (addr + 4)
      { s with shadows := aSet s.shadows addr hi }
    else s

/-- A word answered on H_MISO, least significant byte first (R14, R409). -/
def reply (s : State) (w : Nat) : State :=
  { s with hif := { s.hif with miso := (List.range 4).map (fun i => BitVec.ofNat 8 (w / 256 ^ i)) } }

end State

end Sys2Proof.Machine
end

