-- ==== Sys2Proof/Machine/Num.lean ====
section
/-! DEFINITION. Machine/Num.lean: numbers between the registers: exact rationals and their rounding (R7, R8),
binary32 with the three rules of R11, and the circular functions to far more digits than any register
shows (log entry 30). -/

namespace Sys2Proof.Machine

/-- Rounding to nearest, halves away from zero (R8). -/
def rnd (q : Rat) : Int := divRound q.num q.den

/-- Rounding to nearest and saturating to 32 bits (R7). -/
def rnd32 (q : Rat) : Int := sat32 (rnd q)

/-- The absolute value of a rational. -/
def absQ (q : Rat) : Rat := if q < 0 then -q else q

/-- 2^e for an integer exponent. -/
def pow2Q (e : Int) : Rat := if e ≥ 0 then ((2 ^ e.toNat : Nat) : Rat) else 1 / ((2 ^ (-e).toNat : Nat) : Rat)

/-- π to 39 digits. -/
def piQ : Rat := 3141592653589793238462643383279502884197 / 1000000000000000000000000000000000000000

/-! ### binary32 (R11) -/

/-- The value of a binary32 word: subnormals are read as zero; an exponent of all ones, which R11 never produces, is
read as the largest finite value. -/
def f32Q (w : Nat) : Rat :=
  let e : Nat := w / 2 ^ 23 % 256
  let m : Nat := w % 2 ^ 23
  let v : Rat := if e = 0 then 0
    else if e = 255 then ((2 ^ 24 - 1 : Nat) : Rat) * pow2Q 104
    else ((2 ^ 23 + m : Nat) : Rat) * pow2Q (Int.ofNat e - 150)
  if w.testBit 31 then -v else v

/-- The floor of log2 of a positive rational. -/
def log2Q (q : Rat) : Int :=
  let e : Int := (Nat.log2 q.num.natAbs : Int) - Nat.log2 q.den
  if q < pow2Q e then e - 1 else if pow2Q (e + 1) ≤ q then e + 1 else e

/-- Rounding a nonnegative rational to an integer, halves to even. -/
def rne (q : Rat) : Nat :=
  let f := q.num.natAbs / q.den
  let r := 2 * (q.num.natAbs % q.den)
  if r < q.den then f else if q.den < r then f + 1 else f + f % 2

/-- A rational as a binary32 word, and whether it overflowed (R11): to nearest even, subnormals flushed to zero of the
same sign, an overflow saturated to the largest finite value. -/
def encF32 (q : Rat) : Nat × Bool :=
  if q = 0 then (0, false) else
    let sg := if q < 0 then 2 ^ 31 else 0
    let a := absQ q
    let e := log2Q a
    let m := rne (a * pow2Q (23 - e))
    let (m, e) := if m = 2 ^ 24 then (2 ^ 23, e + 1) else (m, e)
    if e > 127 then (sg + 0x7F7FFFFF, true)
    else if e < -126 then (sg, false)
    else (sg + (e + 127).toNat * 2 ^ 23 + (m - 2 ^ 23), false)

/-- A rational rounded to binary32. -/
def toF32 (q : Rat) : Nat := (encF32 q).1

/-! ### Roots and circular functions, as rationals -/

/-- A Newton step for an integer square root, `n` times. -/
def isqrtN : Nat → Nat → Nat → Nat
  | 0, _, x => x
  | n + 1, a, x => let y := (x + a / x) / 2; if y < x then isqrtN n a y else x

/-- The integer square root. -/
def isqrt (a : Nat) : Nat := if a = 0 then 0 else isqrtN 600 a (2 ^ (Nat.log2 a / 2 + 1))

/-- The square root of a nonnegative rational to at least 60 bits. -/
def sqrtQ (q : Rat) : Rat :=
  if q ≤ 0 then 0 else
    let k : Nat := (70 + (if log2Q q < 0 then (-(log2Q q)).toNat else 0) / 2)
    (isqrt (q.num.natAbs * 4 ^ k / q.den) : Rat) / ((2 ^ k : Nat) : Rat)

/-- The fixed-point scale of the circular functions. -/
def fx : Int := 2 ^ 80

/-- Terms of the sine and cosine series in fixed point: `t` is the term of order `k`. -/
def cisSeries : Nat → Int → Int → Nat → Int → Int → Int × Int
  | 0, _, _, _, c, s => (c, s)
  | n + 1, x, t, k, c, s =>
    let t' := t * x / fx / ((k : Int) + 1)
    match k % 4 with
    | 0 => cisSeries n x t' (k + 1) c (s + t')
    | 1 => cisSeries n x t' (k + 1) (c - t') s
    | 2 => cisSeries n x t' (k + 1) c (s - t')
    | _ => cisSeries n x t' (k + 1) (c + t') s

/-- Cosine and sine of an angle in radians within ±4, in fixed point. -/
def cisFx (x : Rat) : Int × Int := cisSeries 48 (x * (fx : Rat)).floor fx 0 fx 0

/-- An angle in radians brought within ±π. -/
def wrapPi (x : Rat) : Rat := x - 2 * piQ * (rnd (x / (2 * piQ)) : Rat)

/-- Cosine. -/
def cosQ (x : Rat) : Rat := ((cisFx (wrapPi x)).1 : Rat) / (fx : Rat)
/-- Sine. -/
def sinQ (x : Rat) : Rat := ((cisFx (wrapPi x)).2 : Rat) / (fx : Rat)

/-- A binary angle in radians, within ±π (R8). -/
def angQ (a : Nat) : Rat := (sInt a : Rat) * 2 * piQ / ((2 ^ 32 : Nat) : Rat)

/-- An angle in radians as a binary angle (R8). -/
def toAng (x : Rat) : Nat := uInt (rnd (x * ((2 ^ 32 : Nat) : Rat) / (2 * piQ)))

/-- The arctangent series in fixed point of a small argument. -/
def atanSeries : Nat → Int → Int → Nat → Int → Int
  | 0, _, _, _, a => a
  | n + 1, x2, t, k, a =>
    let t' := -(t * x2 / fx)
    atanSeries n x2 t' (k + 2) (a + t' / ((k : Int) + 2))

/-- The arctangent of y/x over the full circle, in radians; 0 at the origin. -/
def atan2Q (y x : Rat) : Rat :=
  if x = 0 ∧ y = 0 then 0 else
    -- halve the angle until the argument is small: tan(θ/2) = y / (r + x)
    let h (p : Rat × Rat) : Rat × Rat := (p.1, sqrtQ (p.1 * p.1 + p.2 * p.2) + p.2)
    if y = 0 ∧ x < 0 then piQ else
      let sc (p : Rat × Rat) : Rat × Rat :=
        let m := if absQ p.1 < absQ p.2 then absQ p.2 else absQ p.1
        (((p.1 / m * (fx : Rat)).floor : Rat) / (fx : Rat), ((p.2 / m * (fx : Rat)).floor : Rat) / (fx : Rat))
      let p := sc (h (sc (h (sc (h (sc (y, x)))))))
      let t := (p.1 / p.2 * (fx : Rat)).floor
      8 * ((atanSeries 40 (t * t / fx) t 1 t : Rat) / (fx : Rat))

end Sys2Proof.Machine
end

