-- ==== Sys2Proof/Machine/ImageOps.lean ====
section
/-! DEFINITION. Machine/ImageOps.lean: reading the sections of the working configuration (R357 to R370): the fields that
several units use. -/

namespace Sys2Proof.Machine

/-- A section of the working configuration (R359). -/
def sectionOf (s : State) (ty : Nat) : Bytes := aGetD s.ldr.sections ty []

/-- A byte of a byte string; zero beyond its end. -/
def byteAt (f : Bytes) (i : Nat) : Nat := f.getD i 0

/-- A signed 32-bit value read big-endian. -/
def sAt (b : Bytes) (off : Nat) : Int := sInt (beAt b off 4)

/-- A binary32 value read big-endian. -/
def fAt (b : Bytes) (off : Nat) : Rat := f32Q (beAt b off 4)

/-- The geometry record of lane n (R365). -/
def geomOf (s : State) (n : Nat) : Bytes := ((sectionOf s 6).drop (16 + 88 * n)).take 88

/-- KIND of lane n: 0 AZIMUTH, 1 TUNNEL, 2 PROPELLER, 3 PROP_RUDDER, 4 AUX (R205). -/
def laneKind (s : State) (n : Nat) : Nat := byteAt (geomOf s n) 0

/-- Four sectors of START and END at an offset, the first `n` of them (R365, R366). -/
def sectorsAt (b : Bytes) (off n : Nat) : List (Nat × Nat) :=
  (List.range (min n 4)).map (fun i => (beAt b (off + 8 * i) 4, beAt b (off + 8 * i + 4) 4))

/-- An angle lies strictly inside a sector that runs clockwise from `a` to `b` (R266). -/
def strictlyIn (x a b : Nat) : Bool :=
  let w := (b + 2 ^ 32 - a) % 2 ^ 32
  let d := (x + 2 ^ 32 - a) % 2 ^ 32
  0 < d && d < w

/-- The class-A deadline D_A in µs (R365). -/
def deadlineUs (s : State) : Nat := let d := beAt (sectionOf s 6) 0 2; if d = 0 then 600 else d

/-- Envelope sets of the section, 1 to 256 in a byte: zero stands for 256 (R366). -/
def nSets (s : State) : Nat :=
  let b := sectionOf s 7
  if b.isEmpty then 0 else if byteAt b 0 = 0 then 256 else byteAt b 0

/-- An envelope set's directory entry: N_ENTRIES and OFFSET; none where the image lacks the set (R366). -/
def envSet (s : State) (set : Nat) : Option (Nat × Nat) :=
  let b := sectionOf s 7
  ((List.range (nSets s)).find? (fun i => byteAt b (4 + 8 * i) == set)).map (fun i =>
    (byteAt b (5 + 8 * i), beAt b (8 + 8 * i) 4))

/-- Offset of the connection table of the envelope section (R366). -/
def connTable (s : State) : Nat := 4 + 8 * nSets s

/-- Stop-node addresses in the order of R283. -/
def stopNodes (s : State) : List Nat :=
  let b := sectionOf s 7
  (List.range (byteAt b 1)).map (fun i => beAt b (connTable s + 1024 + 2 * i) 2)

/-- An envelope entry (R266, R366). -/
structure EnvEntry where
  azRate : Nat
  sectors : List (Nat × Nat)
  dirMode : Nat
  discN : Nat
  filtN : Nat
  sectorT : Int
  dirTol : Int
  thrustMax : Nat
  commThrust : Nat
  discAz : Nat
  discT : Int
  deriving DecidableEq, Repr

/-- Entry e of a set; none where the set has fewer entries (R266). -/
def envEntry (s : State) (set e : Nat) : Option EnvEntry :=
  match envSet s set with
  | none => none
  | some (n, off) =>
    if n ≤ e then none else
      let b := ((sectionOf s 7).drop (off + 64 * e)).take 64
      some { azRate := beAt b 0 4, sectors := sectorsAt b 8 (byteAt b 4), dirMode := byteAt b 5, discN := byteAt b 6
             filtN := byteAt b 7, sectorT := sAt b 40, dirTol := sAt b 44, thrustMax := beAt b 48 4
             commThrust := beAt b 52 4, discAz := beAt b 56 4, discT := sAt b 60 }

/-- A time-stamp's register triple: seconds low, seconds high, nanoseconds (R9). -/
def stampParts (ns : Nat) : Nat × Nat × Nat := (ns / 10 ^ 9 % 2 ^ 32, ns / 10 ^ 9 / 2 ^ 32 % 2 ^ 16, ns % 10 ^ 9)

namespace State

/-- The leg length in paces (R31). -/
def legPaces (s : State) : Nat := let n := byteAt (sectionOf s 8) 13; if n = 0 then 10 else n
/-- Legs of a stage (R31). -/
def stageLegs (s : State) : Nat := let n := byteAt (sectionOf s 8) 14; if n = 0 then 10 else n

end State

end Sys2Proof.Machine
end

