-- ==== Sys2Proof/Machine/RingPort.lean ====
section
/-! DEFINITION. Machine/RingPort.lean: a ring at this device (R295 to R301, R318): its side, its state and hold output, the
cycle master, the cycle timer, and how an Enrum frame stands on the wire. -/

namespace Sys2Proof.Machine

/-- A frame with the bytes at an offset replaced. -/
def spliceBytes (f : Bytes) (off : Nat) (v : Bytes) : Bytes := f.take off ++ v ++ f.drop (off + v.length)

/-- A time-stamp's 10 bytes (R9). -/
def stampBytes (ns : Nat) : Bytes := toBE 6 (ns / 10 ^ 9) ++ toBE 4 (ns % 10 ^ 9)

/-- A time-stamp read from 10 bytes; none where its nanoseconds exceed 999,999,999 (R10). -/
def stampAt (f : Bytes) (off : Nat) : Option Nat :=
  if beAt f (off + 6) 4 > 999999999 then none else some (beAt f off 6 * 10 ^ 9 + beAt f (off + 6) 4)

/-- Distance of x from the nearest multiple of p; positive past it. -/
def offGrid (x p : Nat) : Int := if 2 * (x % p) ≤ p then (x % p : Nat) else (x % p : Nat) - p

namespace State

/-- One ring's side of the device. -/
def side (s : State) (r : Nat) : RingSide := if r = 0 then s.ring.a else s.ring.b
/-- Changing one ring's side. -/
def setSide (s : State) (r : Nat) (x : RingSide) : State :=
  if r = 0 then { s with ring := { s.ring with a := x } } else { s with ring := { s.ring with b := x } }

/-- The STATE field of a ring. -/
def ringFld (r : Nat) : Fld := if r = 0 then Fl.RING_STATUS_STATE_A else Fl.RING_STATUS_STATE_B
/-- A ring's state: 0 OUT, 1 LISTEN, 2 INSERTING, 3 WHOLE, 4 BROKEN, 5 PARKED. -/
def ringState (s : State) (r : Nat) : Nat := s.get (ringFld r)

/-- A hold output (R318). -/
def hold (s : State) (r : Nat) (b : Bool) : State :=
  { s with pins := if r = 0 then { s.pins with bypA := b } else { s.pins with bypB := b } }
/-- A hold output's level. -/
def holdOf (s : State) (r : Nat) : Bool := if r = 0 then s.pins.bypA else s.pins.bypB

/-- A ring leaves: hold low, state OUT (R318). -/
def ringOut (s : State) (r : Nat) : State :=
  let s := (s.hold r false).setSide r {}
  if s.ringState r = 5 then s else s.put (ringFld r) 0

/-- A ring's hold goes high and the ring is INSERTING (R300, R319). -/
def ringInsert (s : State) (r : Nat) : State :=
  ((s.hold r true).put (ringFld r) 2).setSide r { s.side r with insertHeard := false, upFrom := s.now }

/-- RING_CTL.LEAVE and RELEASE of a ring. -/
def leaving (s : State) (r : Nat) : Bool := s.is ⟨Reg.RING_CTL, r, r⟩
def released (s : State) (r : Nat) : Bool := s.is ⟨Reg.RING_CTL, 4 + r, 4 + r⟩

/-- The device is a Junction and this is its ring B (R322). -/
def upstream (s : State) (r : Nat) : Bool := s.is Fl.RING_CFG_JUNCTION && r == 1

/-- Cycle master of a ring (R300): in RUN with role ACTIVE, the ring not parked and no Junction's ring B. -/
def isMaster (s : State) (r : Nat) : Bool := s.inRun && s.role == 3 && s.ringState r != 5 && !s.upstream r

/-- The device is cycle master and its first train is due or sent (R300). -/
def sendsTrain (s : State) (r : Nat) : Bool := s.isMaster r && s.ring.trainOn

/-- RING_STATUS.MASTER_A and MASTER_B. -/
def masterPublish (s : State) : State :=
  (s.flag Fl.RING_STATUS_MASTER_A (s.isMaster 0)).flag Fl.RING_STATUS_MASTER_B (s.isMaster 1)

/-- A port can receive: its link is in service, or it is port 0 on the listen path (R296, R317, R319). -/
def carries (s : State) (q : Nat) : Bool :=
  s.is (Fl.RING_PORT_STATUS_LINK q) || (s.ringState (q / 2) == 1 && q % 2 == 0)

/-! ### The cycle timer (R301, R302) -/

/-- Cycle length in ns and ring cycles per pace (R30, R299). -/
def cycleNs (s : State) : Nat :=
  match s.get Fl.RING_CFG_CYCLE with | 0 => 125000 | 1 => 250000 | _ => 500000
def cyclesPerPace (s : State) : Nat := 1000000 / s.cycleNs

/-- A valid SYNC came within the last 3 cycles (R302). -/
def following (s : State) : Bool := s.ring.lastSyncNow.isSome && decide (s.ring.noSync < 3)

/-- How far the instant now lies past the alignment the timer is steered toward: the local clock's multiples of the cycle for
the master, b for a device that follows a SYNC; a timer that runs free has none (R301, R302). -/
def timerError (s : State) : Int :=
  if s.isMaster 0 || s.isMaster 1 then offGrid s.clk s.cycleNs
  else if s.following then offGrid (s.now - s.ring.bAt) s.cycleNs
  else 0

/-- The cycle timer expires now: in RUN where steering placed it, outside RUN at the alignment at once (R301). -/
def timerDue (s : State) : Bool :=
  if s.inRun then decide (s.ring.nextAt ≤ s.now)
  else decide (s.ring.nextAt ≤ s.now + s.cycleNs / 2) &&
    (if s.following then decide ((s.now - s.ring.bAt) % s.cycleNs < 4) else decide (s.clk % s.cycleNs ≤ 4))

/-- The timer runs on from the boundary now: a cycle of timebase ticks, lengthened or shortened by at most 50 ns toward
alignment (R301). -/
def timerRestart (s : State) : State :=
  let e := max (-50) (min 50 s.timerError)
  { s with ring := { s.ring with boundAt := s.now, nextAt := (s.now + s.cycleNs - 4 * Int.tdiv e 4).toNat } }

/-! ### Frames on the wire -/

/-- An Enrum frame as it stands on the wire without its FCS (R295, R297, R298): the addresses, the source from the sender's
address in the header, the EtherType, and zeros up to the shortest frame. -/
def onWire (s : State) (f : Bytes) : Bytes :=
  [0x03, 0, 0, 0xE5, 0, 1] ++ [0x02, 0, 0, 0xE5] ++ toBE 2 (beAt f 2 2) ++ toBE 2 (s.rd Reg.RING_ETYPE % 65536) ++ f ++
    List.replicate (46 - f.length) 0

/-- A frame of the device's own out of both ports of a ring; FLAGS.DIR says from which (R305, R311). -/
def bothPorts (s : State) (r : Nat) (f : Bytes) : List TxFrame :=
  [0, 1].map (fun d => ⟨2 * r + d, s.onWire (spliceBytes f 11 [byteAt f 11 / 2 * 2 + d]), true⟩)

/-- The window for frames of the device's own (R303, R306, R311): the master's own, or that of the last SYNC. -/
def window (s : State) : Nat × Nat := if s.isMaster 0 || s.isMaster 1 then s.ring.ownWin else s.ring.win

/-- A frame of `len` bytes after its EtherType fits between WIN_START and WIN_END, from the device's own boundary (R304,
R311). -/
def inWindow (s : State) (len : Nat) : Bool :=
  let t := s.now - s.ring.boundAt
  decide (10 * s.window.1 ≤ t) && decide (t + (max 64 (len + 18) + 20) * 8 ≤ 10 * s.window.2)

end State

end Sys2Proof.Machine
end

