-- ==== Sys2Proof/Machine/Fabric.lean ====
section
/-! DEFINITION. Machine/Fabric.lean: the handshake fabric (R51 to R65): tags and their states, order, provisional work,
closing and reopening units. -/

namespace Sys2Proof.Machine

/-- The source ports there are (R51): one per unit and per engine, two each of the solver array and the ring controller. -/
def srcExists : SrcPort → Bool
  | .unit u => 1 ≤ u && u ≤ 22 && u != 2 && u != 3 && u != 16
  | .eng n => n < 16
  | .classA | .classH | .ringA | .ringB => true

/-- The pace-critical ports (R52). -/
def srcCritical : SrcPort → Bool
  | .unit u => u == 4 || u == 14 || u == 13 || u == 12
  | .eng _ => false
  | .classA | .ringA | .ringB => true
  | .classH => false

/-- The ports that may receive a provisional value (R59). -/
def srcMayReadProvisional : SrcPort → Bool
  | .unit u => u == 14 || u == 4
  | .classA => true
  | _ => false

/-- The ports that run ahead (R58). -/
def srcRunsAhead : SrcPort → Bool
  | .unit u => u == 4
  | .classA => true
  | _ => false

/-- The thing whose incarnation number a source port carries (R64, R65). -/
def srcOwner : SrcPort → Uid
  | .unit u => .unit u
  | .eng n => .eng n
  | .classA | .classH => .unit 3
  | .ringA | .ringB => .unit 16

/-- The ring of a ring-controller port. -/
def srcRing : SrcPort → Option Nat
  | .ringA => some 0
  | .ringB => some 1
  | _ => none

/-- A port closes with a thing (R61): with its owner, a ring's port with its ring too. -/
def srcClosesWith (p : SrcPort) (u : Uid) : Bool := srcOwner p == u || (srcRing p).any (fun r => u == .ring r)

/-- The unit number of a thing (R64). -/
def unitNum : Uid → Nat
  | .unit u => u
  | .eng _ => 2
  | .ring _ => 16

namespace State

/-- The present incarnation number of a unit or engine (R63, R65). -/
def incarn (s : State) : Uid → Nat
  | .unit u => s.rd (Reg.FAB_INCARN (u - 1))
  | .eng n => s.rd (Reg.ENG_INCARN n)
  | .ring _ => s.rd (Reg.FAB_INCARN 15)

/-- A source port is open (R61). -/
def srcOpen (s : State) (p : SrcPort) : Bool :=
  srcExists p && s.uidOpen (srcOwner p) && (srcRing p).all (fun r => s.uidOpen (.ring r))

/-- FAB_TAGS and FAB_STATUS follow the pool (R52, R53). -/
def fabPublish (s : State) : State :=
  let n := s.fab.tags.length
  let left := 96 - (s.fab.tags.filter (·.fromReserve)).length
  let empty := s.fab.stalled.any (fun o => srcCritical o.src)
  (((s.put Fl.FAB_TAGS_IN_USE n).put Fl.FAB_TAGS_PEAK (max n (s.get Fl.FAB_TAGS_PEAK))).flag
    Fl.FAB_STATUS_RESERVE_LOW (decide (left < 16))).flag Fl.FAB_STATUS_RESERVE_EMPTY empty

/-- Whether a tag is available to a port, and from the reserve or not (R52). -/
def tagFor (s : State) (p : SrcPort) : Option Bool :=
  let shared := (s.fab.tags.filter (fun t => !t.fromReserve)).length
  let reserve := (s.fab.tags.filter (·.fromReserve)).length
  let held := (s.fab.tags.filter (fun t => t.op.src == p)).length
  if srcCritical p then (if shared < 416 then some false else if reserve < 96 then some true else none)
  else if shared < 416 ∧ held < 128 then some false else none

/-- The least tag number that is free. -/
def freeTag (s : State) : Nat :=
  ((List.range 512).find? (fun n => !s.fab.tags.any (·.num == n))).getD 512

/-- A location that its target does not implement (R55): a reserved register address, or a register of another unit;
locations above 24 bits are a target's own storage. -/
def locReserved (u : Uid) (loc : Nat) : Bool :=
  decide (loc < 2 ^ 24) && (unitOfAddr loc != unitNum u ||
    ((findRow loc).isNone && loc / 0x10000 != 0x20 && loc / 0x10000 != 0x30))

/-- The 32-bit words of an access with the words a write puts there (R57): the low word lies at the lower address. -/
def cellsOf (op : FabOp) : List (Nat × Word) :=
  let v := op.wr.getD 0
  if op.wide then [(op.loc, v.setWidth 32), (op.loc + 4, (v >>> 32).setWidth 32)] else [(op.loc, v.setWidth 32)]

/-- A word that a port reads: of a provisional shadow where it may, else a register's value or the committed storage (R58,
R59). -/
def cellRead (s : State) (sees : Bool) (loc : Nat) : Word :=
  match (if sees then aGet s.fab.shadows loc else none) with
  | some w => w
  | none => if loc < 2 ^ 24 then BitVec.ofNat 32 (s.shown loc) else aGetD s.fab.store loc 0

/-- The value of an access from its words. -/
def joinCells (l : List Word) : BitVec 64 :=
  (l.getD 0 0).setWidth 64 ||| ((l.getD 1 0).setWidth 64 <<< 32)

/-- A committed write of a location: whole; when another port wrote it with no mark between, which of the two values remains
is not defined, and a free value decides (R57). A register's new value is taken by its unit. -/
def fabStore (s : State) (p : SrcPort) (cells : List (Nat × Word)) : State :=
  let clash := cells.any (fun c => match aGet s.fab.writers c.1 with
    | some (q, m) => q != p && m == s.fab.marks
    | none => false)
  let (b, s) := if clash then s.draw else (0, s)
  let lands := !(clash && b % 2 == 1)
  s.each cells (fun s c =>
    let fab := { s.fab with writers := aSet s.fab.writers c.1 (p, s.fab.marks) }
    let fab := if !lands then fab
      else if c.1 < 2 ^ 24 then { fab with due := fab.due ++ [c] } else { fab with store := aSet fab.store c.1 c.2 }
    { s with fab := fab })

/-- A reply handed to the source of a tag (R52, R55). -/
def fabDeliver (s : State) (t : Tag) (st : RepStatus) (v : BitVec 64) (at_ : TagSt) : State :=
  { s with fab := { s.fab with replies := s.fab.replies ++ [⟨t.op.src, t.num, st, v, at_⟩] } }

/-- A tag moves to a state. -/
def tagTo (s : State) (n : Nat) (st : TagSt) : State :=
  { s with fab := { s.fab with tags := s.fab.tags.map (fun x => if x.num == n then { x with st := st } else x) } }

/-- Final states are accepted by their sources: their tags are free again (R54). -/
def fabAccept (s : State) : State :=
  { s with fab := { s.fab with tags := s.fab.tags.filter (fun t => t.st == .issued || t.st == .provisional) } }

/-- A tag's reply is complete (R54): with the provisional bit it is PROVISIONAL and waits for its run-ahead, without it is
COMMITTED. A CLOSED reply leaves a run-ahead incomplete (R60). -/
def fabComplete (s : State) (t : Tag) (st : RepStatus) (v : BitVec 64) : State :=
  if t.prov then
    let s := (s.tagTo t.num .provisional).fabDeliver t st v .provisional
    if st == .closed then { s with fab := { s.fab with aheadBroken := true } } else s
  else ((s.tagTo t.num .committed).fabDeliver t st v .committed).fabAccept

/-- The provisional bit of an operation at issue (R58): of a run-ahead, reading a provisional value, or derived from one. -/
def provAtIssue (s : State) (op : FabOp) (sees : Bool) : Bool :=
  (op.ahead && srcRunsAhead op.src) || sees ||
    op.derived.any (fun n => s.fab.tags.any (fun t => t.num == n && t.prov && t.op.wr.isNone))

/-- An operation takes its tag and meets its target (R52, R54). A closed target completes it with CLOSED and a reserved
location with REFUSED, and nothing is performed (R55, R61); a provisional write goes to a shadow (R58); a read of a location
with a shadow gives the provisional value to a permitted port, and the committed one to any other, counted (R59). -/
def fabPerform (s : State) (op : FabOp) (fromReserve : Bool) : State :=
  let opened := s.uidOpen op.tgt
  let refused := locReserved op.tgt op.loc
  let runs := opened && !refused
  let cells := cellsOf op
  let shadowed := cells.any (fun c => (aGet s.fab.shadows c.1).isSome)
  let sees := runs && op.wr.isNone && shadowed && srcMayReadProvisional op.src
  let prov := s.provAtIssue op sees
  let v := if runs && op.wr.isNone then joinCells (cells.map (fun c => s.cellRead sees c.1)) else 0
  let t : Tag := ⟨s.freeTag, op, s.incarn (srcOwner op.src), s.incarn op.tgt, prov, fromReserve, v, .issued, s.now⟩
  let s := ({ s with fab := { s.fab with tags := s.fab.tags ++ [t], lastTgt := aSet s.fab.lastTgt t.num op.tgt } } : State).fabPublish
  if !opened then (s.count Reg.FAB_CLOSED_CNT).fabComplete t .closed 0
  else if refused then s.fabComplete t .refused 0
  else
    let s := s.when (op.wr.isNone && shadowed && !sees) (fun s => s.count Reg.FAB_PROV_REDIRECT)
    if op.wr.isNone then s
    else if prov then s.each cells (fun s c => { s with fab := { s.fab with shadows := aSet s.fab.shadows c.1 c.2 } })
    else s.fabStore op.src cells

/-- Issue of one operation: behind an operation of its port that is stalled it waits its turn (R56); with no tag available
the port stalls, the stall is counted, and a pace-critical port that finds the reserve exhausted is logged (R53). -/
def fabIssue (s : State) (op : FabOp) : State :=
  let waits (s : State) : State := { s with fab := { s.fab with stalled := s.fab.stalled ++ [op] } }
  if s.fab.stalled.any (fun o => o.src == op.src) then (waits s).fabPublish
  else match s.tagFor op.src with
    | some r => (s.fabPerform op r).fabPublish
    | none => (((waits s).count Reg.FAB_TAG_STALL).fabPublish).when (srcCritical op.src) (fun s => s.logEv Ev.FAB_RESERVE_EMPTY)

/-- Stalled operations issue as far as tags allow, oldest first and in each port's order (R53, R56): `l` is the list as it
stood, `held` the ports still stalled. -/
def fabResumeAt : List FabOp → List SrcPort → State → State
  | [], _, s => s
  | op :: l, held, s =>
    match (if held.contains op.src then none else s.tagFor op.src) with
    | some r => fabResumeAt l held (({ s with fab := { s.fab with stalled := s.fab.stalled.erase op } } : State).fabPerform op r)
    | none => fabResumeAt l (op.src :: held) s

/-- Tags were returned: stalled operations issue (R53). -/
def fabResume (s : State) : State := (fabResumeAt s.fab.stalled [] s).fabPublish

/-- A state in which no event of the fabric has handed anything over yet. -/
def fabStart (s : State) : State := { s with fab := { s.fab with replies := [] } }

/-- Commit of the run-ahead (R60): every tag of it is COMMITTED, delivered and free, every shadow is written in one wave. -/
def fabCommit (s : State) : State :=
  let ts := s.fab.tags.filter (·.prov)
  let sh := s.fab.shadows
  let s : State := { s.fabStart with fab := { s.fabStart.fab with shadows := [], aheadBroken := false } }
  let s := s.each ts (fun s t => (s.tagTo t.num .committed).fabDeliver t .ok t.value .committed)
  (s.fabAccept.each sh (fun s e => s.fabStore (.unit 4) [e])).fabResume

/-- Withdrawal of the run-ahead (R60): every tag of it is WITHDRAWN and delivered with that status, every shadow is discarded,
its operations still stalled go with it (DESIGN CHOICE, log entry 69), one count in FAB_WITHDRAWN. -/
def fabWithdraw (s : State) : State :=
  let ts := s.fab.tags.filter (·.prov)
  let s : State := { s.fabStart with fab := { s.fabStart.fab with
    shadows := [], aheadBroken := false, stalled := s.fab.stalled.filter (fun o => !(o.ahead && srcRunsAhead o.src)) } }
  let s := s.each ts (fun s t => (s.tagTo t.num .withdrawn).fabDeliver t .withdrawn 0 .withdrawn)
  (s.fabAccept.count Reg.FAB_WITHDRAWN).fabResume

/-- A tag of a pace-critical port has stayed out of the pool for 10 ms (R430). -/
def fabStuck (s : State) : Bool := s.fab.tags.any (fun t => srcCritical t.op.src && decide (t.since + 10000000 ≤ s.now))

/-- Provisional work exists. -/
def provWork (s : State) : Bool :=
  s.alc.ahead.isSome || s.fab.aheadBroken || !s.fab.shadows.isEmpty || s.fab.tags.any (·.prov)

/-- Class-A work in progress is abandoned at the allocation mark: its tags are withdrawn (R219). -/
def fabAbandonA (s : State) : State :=
  let ts := s.fab.tags.filter (fun t => t.op.src == .classA && !t.prov)
  if ts.isEmpty && !s.fab.stalled.any (fun o => o.src == .classA && !o.ahead) then s else
    let s : State := { s.fabStart with fab := { s.fabStart.fab with
      stalled := s.fab.stalled.filter (fun o => !(o.src == .classA && !o.ahead)) } }
    (s.each ts (fun s t => (s.tagTo t.num .withdrawn).fabDeliver t .withdrawn 0 .withdrawn)).fabAccept.fabResume

/-- Bit 2 of FAB_PORT_STATE follows the engines. -/
def anyEngine (s : State) : State :=
  s.flag ⟨Reg.FAB_PORT_STATE, 2, 2⟩ ((List.range 16).any s.engOpen)

/-- PWR_PARKED bit 2 and the unit's own bit (R431). -/
def markParked (s : State) (u : Uid) (b : Bool) : State :=
  match u with
  | .unit n => s.flag ⟨Reg.PWR_PARKED, n, n⟩ b
  | .eng _ => s.flag ⟨Reg.PWR_PARKED, 2, 2⟩ ((List.range 16).any (fun n => !s.engOpen n))
  | .ring _ => s

/-- A route engine's graph runs in progress end with its closing (R61): they miss their end marks. -/
def runsLost (s : State) (u : Uid) : State :=
  match u with
  | .eng n =>
    let mine (e : Nat) : Bool := aGet s.ldr.graphsAt e == some n
    if s.eng.runs.any (fun e => mine e.1) then
      let late := if s.eng.late.contains n then s.eng.late else s.eng.late ++ [n]
      { s with eng := { s.eng with
          runs := s.eng.runs.filter (fun e => !mine e.1), closed := s.eng.closed.filter (fun e => !mine (e / 2 ^ 16)), late := late } }
    else s
  | _ => s

/-- The loop engine closes: a test and the captures in progress are aborted (R195, R197). -/
def loopClosed (s : State) : State :=
  (s.testAbort 4).each (List.range 2) (fun s b =>
    let st := s.get (Fl.LOOP_CAP_STATUS_STATE b)
    if st = 1 ∨ st = 2 then
      ((s.put (Fl.LOOP_CAP_STATUS_STATE b) 0).flag (Fl.LOOP_CAP_STATUS_ABORTED b) true).flag (Fl.LOOP_CAP_CTL_ARM b) false
    else s)

/-- Closing a thing's ports (R61): requests pending to it complete with CLOSED, its own operations are abandoned and
their tags returned, and a unit's held writes are discarded with STAGE_LOST (R417). A run-ahead of the front stage or the
solver array is broken and withdrawn at the commit mark (R36, R60). -/
def closeUid (s : State) (u : Uid) : State :=
  let ahead := (u == .unit 3 || u == .unit 4) && s.provWork
  let s := s.fabStart
  let s := match u with
    | .unit n => s.flag ⟨Reg.FAB_PORT_STATE, n, n⟩ false
    | .eng n => (s.put (Fl.ENG_STATUS_STATE n) 1).anyEngine
    | .ring r => (s.put (State.ringFld r) 5).masterPublish
  let s : State := { s with
    fab := { s.fab with
      tags := s.fab.tags.filter (fun t => !srcClosesWith t.op.src u)
      stalled := s.fab.stalled.filter (fun o => !srcClosesWith o.src u)
      aheadBroken := s.fab.aheadBroken || ahead }
    units := { s.units with ready := s.units.ready.filter (· != u) } }
  let hit := s.fab.tags.filter (fun t => t.op.tgt == u && t.st == .issued)
  let s := (s.each hit (fun s t => (s.count Reg.FAB_CLOSED_CNT).fabComplete t .closed 0)).runsLost u
  let s := s.when (u == .unit 6) State.loopClosed
  let mine (e : Nat × Word) : Bool := match u with | .unit n => unitOfAddr e.1 == n | _ => false
  let s := if s.staged.any mine then
      ({ s with staged := s.staged.filter (fun e => !mine e) } : State).flag Fl.HIF_STATUS_STAGE_LOST true
    else s
  s.fabResume

/-- The incarnation number a reopening gives (R63). -/
def nextIncarn (s : State) (prev : Nat) : Nat :=
  if !s.isOpen 11 then (prev + 1) % 2 ^ 32
  else if s.ms % 2 ^ 32 = prev then (prev + 1) % 2 ^ 32 else s.ms % 2 ^ 32

/-- Reopening a thing's ports with a new incarnation number (R63, R65). -/
def reopenUid (s : State) (u : Uid) : State :=
  let s : State := { s with units := { s.units with ready := s.units.ready.filter (· != u) } }
  match u with
  | .unit n =>
    let i := s.nextIncarn (s.rd (Reg.FAB_INCARN (n - 1)))
    ((s.wr (Reg.FAB_INCARN (n - 1)) i).flag ⟨Reg.FAB_PORT_STATE, n, n⟩ true).markParked u false
  | .eng n =>
    let i := s.nextIncarn (s.rd (Reg.ENG_INCARN n))
    (((s.wr (Reg.ENG_INCARN n) i).put (Fl.ENG_STATUS_STATE n)
      (if s.get (Fl.ENG_GRAPHS_COUNT n) = 0 then 3 else 0)).anyEngine).markParked u false
  | .ring r => (s.put (State.ringFld r) 0).masterPublish

/-- A closed thing becomes ready and waits for its reopening boundary (R63). -/
def makeReady (s : State) (u : Uid) : State :=
  if s.units.ready.contains u then s
  else { s with units := { s.units with
    ready := s.units.ready ++ [u], since := s.units.since.filter (·.1 != u) ++ [(u, (s.now, s.ms))] } }

/-- The local clock has just reached a multiple of `p` ns: its last step was of 4 ns and its addend (R323, R469). -/
def clkAt (s : State) (p : Nat) : Bool := decide (s.clk % p ≤ 4)

/-- A thing may reopen at this instant (R63, R469): in RUN at a pace boundary after it became ready, outside RUN at a whole
millisecond of the local clock after it. -/
def reopensNow (s : State) (u : Uid) : Bool :=
  match s.units.since.find? (·.1 == u) with
  | none => false
  | some (_, t, m) =>
    s.units.ready.contains u &&
      (if s.inRun then s.now == s.cyc.boundaryAt && decide (t < s.now) else s.clkAt 1000000 && s.ms != m)

/-- A mark passes: work that starts from here on is ordered after what was committed before it (R56). -/
def markPassed (s : State) : State := { s with fab := { s.fab with marks := s.fab.marks + 1 } }

/-- A discarded reply is counted with its unit (R64): the target of the operation that held the tag last. -/
def fabStale (s : State) (n : Nat) : State :=
  let s := s.count Reg.FAB_STALE_DISCARD
  match aGet s.fab.lastTgt n with
  | some u => s.put Fl.FAB_STALE_DISCARD_LAST_UNIT (unitNum u)
  | none => s

/-- A reply with tag number n: one whose incarnation numbers are not the present ones, or whose tag is gone, is discarded
(R64); otherwise it completes its operation (R54). A second reply to one operation says nothing. -/
def fabReply (s : State) (n sInc tInc : Nat) (st : RepStatus) : State :=
  match s.fab.tags.find? (·.num == n) with
  | none => s.fabStale n
  | some t =>
    if sInc != s.incarn (srcOwner t.op.src) || tInc != s.incarn t.op.tgt then s.fabStale n
    else if t.st != .issued then s
    else if st == .withdrawn then ((s.fabStart.tagTo n .withdrawn).fabDeliver t st 0 .withdrawn).fabAccept.fabResume
    else (s.fabStart.fabComplete t st (if st == .ok then t.value else 0)).fabResume

end State

end Sys2Proof.Machine
end

