-- ==== Sys2Proof/Machine/TimeOps.lean ====
section
/-! DEFINITION. Machine/TimeOps.lean: the timebase's sources, quality and jump policy (R324, R327, R329). An offset is
the local clock minus the source's time, in ns. -/

namespace Sys2Proof.Machine

namespace State

/-- The mean link delay of a ring port in ns; one that is still unknown counts as none (R326). -/
def linkDelay (s : State) (q : Nat) : Nat :=
  let d := s.get (Fl.RING_PORT_STATUS_PDELAY q)
  if d = 0xFFFF then 0 else d

/-- A source's data. -/
def timSrc (s : State) (c : Nat) : TimSrc := aGetD s.tim.src c {}

/-- A 1588 source is usable (TIM_PTP_CFG.OC_EN, E2E_CW). -/
def ptpUsable (s : State) (c : Nat) : Bool :=
  c == 1 || (s.is Fl.TIM_PTP_CFG_OC_EN && (c != 4 || s.is Fl.TIM_PTP_CFG_E2E_CW))

/-- A source is qualified: ten consecutive offsets (R324, R135). -/
def timQualified (s : State) (c : Nat) : Bool := c != 0 && s.ptpUsable c && decide (10 ≤ (s.timSrc c).run)

/-- The first listed qualified source; 0 for none (R324). -/
def timSelect (s : State) : Nat :=
  ([s.get Fl.TIM_SRC_FIRST, s.get Fl.TIM_SRC_SECOND, s.get Fl.TIM_SRC_THIRD].find? s.timQualified).getD 0

/-- The steering addend in 2^-32 ns per 4 ns step that corrects phase at TIM_SLEW ns/s, against the sign of the offset
left (R323, R324). -/
def steerInc (s : State) (left : Int) : Int :=
  let rate : Int := s.rd Reg.TIM_SLEW * 4 * 2 ^ 32 / 10 ^ 9
  if left > 0 then -rate else if left < 0 then rate else 0

/-- A slew of an offset starts or goes on (R324, R327). -/
def slewBy (s : State) (off : Int) : State :=
  let s : State := { s with tim := { s.tim with slewLeft := off, slewFrom := s.now }
                            clock := { s.clock with inc := s.steerInc off } }
  (s.flag Fl.TIM_STATUS_SLEWING (off != 0)).wr Reg.TIM_FREQ
    (uInt (if off > 0 then -(s.rd Reg.TIM_SLEW : Int) else if off < 0 then s.rd Reg.TIM_SLEW else 0))

/-- The slew ends. -/
def slewStop (s : State) : State := s.slewBy 0

/-- TIM_SLEW has absorbed the offset since the slew began (R327). -/
def slewed (s : State) : Bool :=
  decide (s.tim.slewLeft.natAbs * 10 ^ 9 ≤ (s.now - s.tim.slewFrom) * s.rd Reg.TIM_SLEW)

/-- SLEW_COMPLETE: before the offset has been absorbed it does nothing. -/
def slewEnd (s : State) : State := if s.slewed then s.slewStop else s

/-- TIM_JUMP_OFF: the tracked offset as a signed 64-bit value. -/
def trackJump (s : State) (off : Int) : State :=
  let v := (off % 2 ^ 64).toNat
  (s.wr Reg.TIM_JUMP_OFF_LO v).wr Reg.TIM_JUMP_OFF_HI (v / 2 ^ 32)

/-- LOCKED becomes HOLDOVER: no source in use steers the clock any more (R133, R324). -/
def toHoldover (s : State) : State :=
  if s.get Fl.TIM_STATUS_QUALITY = 1 then
    let s := s.put Fl.TIM_STATUS_QUALITY 2
    { s with tim := { s.tim with holdAt := s.now } }
  else s

/-- An offset that enters the jump policy (R327): stepped from FREE, slewed within the threshold, refused above it; a clock that was
LOCKED on another source is then in HOLDOVER (DEDUCED, log entry 101). -/
def jumpPolicy (s : State) (off : Int) : State :=
  let s : State := { s with tim := { s.tim with entering := false } }
  if s.get Fl.TIM_STATUS_QUALITY = 0 then { s with tim := { s.tim with step := some off, stepSec := s.clk / 10 ^ 9, accepted := false } }
  else if off.natAbs ≤ s.get ⟨Reg.TIM_JUMP_TH, 19, 0⟩ then
    ((s.flag Fl.TIM_STATUS_JUMP_PENDING false).slewBy off).put Fl.TIM_STATUS_QUALITY 1
  else
    ((((((s.slewStop).toHoldover.trackJump off).flag Fl.TIM_STATUS_JUMP_REFUSED true).flag Fl.TIM_STATUS_JUMP_PENDING true).logEv
      Ev.TIME_JUMP_REFUSED).irq 5).count Reg.TIM_JUMPS

/-- A pending step is cancelled with its source (R327, item 4). -/
def cancelJump (s : State) : State :=
  ({ s with tim := { s.tim with step := none, accepted := false } } : State).flag Fl.TIM_STATUS_JUMP_PENDING false

/-- TIM_STATUS.SOURCE follows the selection; a change makes the next offset enter the policy and ends what the source before it had
pending (R324, R327). -/
def timReselect (s : State) : State :=
  let c := s.timSelect
  let p := s.get Fl.TIM_STATUS_SOURCE
  if c = p then s
  else
    (({ s with tim := { s.tim with entering := true, lastSrc := if p = 0 then s.tim.lastSrc else p } } : State).cancelJump).put
      Fl.TIM_STATUS_SOURCE c

/-- A source is lost: its run restarts; losing the source in use with none left moves LOCKED to HOLDOVER, ends a slew
and cancels a pending step (R324, R327, R133). -/
def timLost (s : State) (c : Nat) : State :=
  let wasUsed := s.get Fl.TIM_STATUS_SOURCE == c
  let s : State := { s with tim := { s.tim with src := aSet s.tim.src c { s.timSrc c with run := 0, best := [] } } }
  let s := s.timReselect
  if wasUsed then
    let s := (({ s with tim := { s.tim with entering := true } } : State).slewStop).cancelJump
    if s.get Fl.TIM_STATUS_SOURCE = 0 then s.toHoldover else s
  else s

/-- One offset of a source (R324, R327): the tenth qualifies it; the source in use reports and steers. -/
def timOffset (s : State) (c : Nat) (off : Int) : State :=
  let t := s.timSrc c
  let s : State := { s with tim := { s.tim with src := aSet s.tim.src c { t with run := t.run + 1, offset := off } } }
  let s := s.timReselect
  if s.get Fl.TIM_STATUS_SOURCE = c then
    let s := s.wr Reg.TIM_OFFSET (uInt (sat32 off))
    if s.tim.entering then s.jumpPolicy off
    else if s.is Fl.TIM_STATUS_JUMP_PENDING then
      let s := s.trackJump off
      if s.tim.step.isSome then { s with tim := { s.tim with step := some off } } else s
    else if s.tim.step.isSome then s
    else if s.get Fl.TIM_STATUS_QUALITY = 1 then s.slewBy off
    else s
  else s

/-- UTC delivered by the source in use: taken when it differs from what it delivered last (R329). -/
def timUtc (s : State) (origin off leap : Nat) : State :=
  let v := leap * 2 ^ 16 + off
  if s.tim.utcSeen = some v then s
  else
    let s : State := { s with tim := { s.tim with utcSeen := some v } }
    s.wr Reg.TIM_UTC (2 ^ 31 + leap % 4 * 2 ^ 24 + origin % 4 * 2 ^ 16 + off % 2 ^ 16)

/-- A host write of TIM_UTC (R329). -/
def utcWrite (s : State) (w : Nat) : State :=
  s.wr Reg.TIM_UTC (2 ^ 31 + w / 2 ^ 24 % 4 * 2 ^ 24 + w % 2 ^ 16)

/-- The clock is stepped by an offset, as one write of the time-stamp (R323). -/
def stepClock (s : State) (off : Int) : State :=
  { s with clock := { s.clock with t := ((s.clock.t : Int) - off * 2 ^ 32).toNat } }

end State

end Sys2Proof.Machine
end

