-- ==== Sys2Proof/Machine/SensorOps.lean ====
section
/-! DEFINITION. Machine/SensorOps.lean: streams and FIR channels (R79, R91 to R104), serial sentences and binary frames
(R80 to R86), the sample port and the triggers (R87 to R90). -/

namespace Sys2Proof.Machine

/-! ### Stream and channel records of the image (R362, R363) -/

/-- The stream records of the image. -/
def strRecs (s : State) : List Bytes :=
  let b := sectionOf s 3
  (List.range (min 48 (byteAt b 0))).map (fun i => (b.drop (64 + 32 * i)).take 32)

/-- The record of stream n. -/
def strRec (s : State) (n : Nat) : Option Bytes := (strRecs s).find? (fun r => byteAt r 0 == n)

/-- A stream's nominal period in µs. -/
def strNom (r : Bytes) : Nat := max 1 (beAt r 12 4)

/-- A stream is free-running: from a serial port or the ring, and not triggered (R93). -/
def strFree (r : Bytes) : Bool := byteAt r 1 != 6 && byteAt r 20 == 0

/-- A framing descriptor of the image (R85). -/
def framingOf (s : State) (i : Nat) : Bytes :=
  let b := sectionOf s 3
  (b.drop (64 + 32 * byteAt b 0 + 208 * i)).take 208

/-! ### Filter arithmetic (R97 to R100, R103) -/

/-- The delay line read at tap k with a total delay in 1/256 samples, times 256: linear between two samples (R99). -/
def tapAt (h : List Int) (k d : Nat) : Int :=
  let i := k + d / 256
  let f : Int := (d % 256 : Nat)
  (h.getD i 0) * (256 - f) + (h.getD (i + 1) 0) * f

/-- A bank's sum over the delay line, rounded once, before saturation (R97, R99). -/
def firSum (c h : List Int) (d : Nat) : Int :=
  divRound (((List.range c.length).zip c).foldl (fun a (k, x) => a + x * tapAt h k d) 0) (2 ^ 38)

/-- Saturation of a filter output, and whether it saturated. -/
def firSat (v : Int) : Int × Bool := (sat32 v, sat32 v != v)

/-- One component of an output: one bank, or the blend of two with weight w in 1/65536 (R97, R98, R103). Each bank's output
is saturated before the blend, and the blended step is rounded to nearest, halves away from zero (DESIGN CHOICE, log entry
74). -/
def firOut (angle : Bool) (c : List Int) (new : Option (List Int × Nat)) (h : List Int) (d : Nat) : Int × Bool :=
  let x0 := h.headD 0
  let h' := if angle then h.map (fun x => angDiff (uInt x) (uInt x0)) else h
  let (o, s1) := firSat (firSum c h' d)
  let (y, s2) := match new with
    | none => (o, s1)
    | some (cn, w) =>
      let (n, s3) := firSat (firSum cn h' d)
      (o + divRound ((w : Int) * (n - o)) 65536, s1 || s3)
  (if angle then ((uInt (x0 + y) : Nat) : Int) else y, s2)

/-- Component i of a history. -/
def component (h : List (List Int)) (i : Nat) : List Int := h.map (fun v => v.getD i 0)

namespace State

/-- A stream's state. -/
def strm (s : State) (n : Nat) : Strm := aGetD s.sns.strm n {}
/-- Changing a stream's state. -/
def setStrm (s : State) (n : Nat) (x : Strm) : State := { s with sns := { s.sns with strm := aSet s.sns.strm n x } }
/-- A channel's state. -/
def fir (s : State) (c : Nat) : FirSt := aGetD s.sns.fir c {}
/-- Changing a channel's state. -/
def setFir (s : State) (c : Nat) (x : FirSt) : State := { s with sns := { s.sns with fir := aSet s.sns.fir c x } }
/-- A port's state. -/
def port (s : State) (p : Nat) : SnsPort := aGetD s.sns.ports p {}
/-- Changing a port's state. -/
def setPort (s : State) (p : Nat) (x : SnsPort) : State := { s with sns := { s.sns with ports := aSet s.sns.ports p x } }

/-- The active and the inactive bank of a channel. -/
def bankActive (s : State) (c : Nat) : List Int := if s.is (Fl.FIR_CH_STATUS_ACTIVE c) then (s.fir c).b else (s.fir c).a
def bankOther (s : State) (c : Nat) : List Int := if s.is (Fl.FIR_CH_STATUS_ACTIVE c) then (s.fir c).a else (s.fir c).b

/-- Both units of the sample path are open (R61). -/
def pathOpen (s : State) : Bool := s.isOpen 8 && s.isOpen 7

/-- δ in 1/256 sample from the drift (R95). -/
def strDelta (r : Bytes) (dec : Nat) (x : Strm) : Int :=
  match x.hat with
  | none => dec * 128
  | some h => dec * 128 + divRound ((x.grid - h) * 256) (strNom r * 1000 * 65536)

/-- A frame slip: counted and logged with the stream and its direction (0 dropped, 1 repeated); the grid moves by D
(R95). -/
def slip (s : State) (n c dir : Nat) (r : Bytes) (dec : Nat) : State :=
  let x := s.strm n
  let step : Int := dec * strNom r * 1000 * 65536
  let y := { x with grid := if dir = 0 then x.grid - step else x.grid + step }
  let s := ((s.setStrm n y).setFir c { s.fir c with cnt := 0, delta := strDelta r dec y }).count (Reg.SNS_STR_SLIP n)
  s.logEv Ev.SLIP n (d8 dir)

/-- A fade advances by one output; at j = M the other bank becomes active (R103). -/
def fadeStep (s : State) (c : Nat) : State :=
  match (s.fir c).fade with
  | none => s
  | some (j, m) =>
    let s := (s.setFir c { s.fir c with fade := some (j + 1, m) }).put (Fl.FIR_CH_STATUS_FADE_POS c) (j + 1)
    let s := (s.flag (Fl.FIR_CH_STATUS_FADING c) true).flag (Fl.FIR_CH_FADE_GO c) false
    if j + 1 < m then s else
      let s := (s.setFir c { s.fir c with fade := none }).flag (Fl.FIR_CH_STATUS_ACTIVE c) (!s.is (Fl.FIR_CH_STATUS_ACTIVE c))
      ((s.flag (Fl.FIR_CH_STATUS_FADING c) false).put (Fl.FIR_CH_STATUS_FADE_POS c) 0).put (Fl.FIR_CH_STATUS_RESULT c) 1

/-- Delivery of an output to the fusion unit while it is open (R96, R42, R61). -/
def toFusion (s : State) (r : Bytes) (v : List Int) (stamp : Nat) (att : Att) (rep : Bool) : State :=
  if s.isOpen 9 then
    { s with fus := { s.fus with inbox := s.fus.inbox ++ [⟨byteAt r 23, v, stamp, att, rep⟩] } }
  else s

/-- The total delay Δ in 1/256 input sample (R99). -/
def firDelay (s : State) (c : Nat) (r : Bytes) : Nat :=
  (s.rd (Reg.FIR_CH_DELAY c) % 65536 + (if strFree r then (s.fir c).delta else 0)).toNat

/-- The corrected stamp of an output (R100). -/
def firStamp (s : State) (n c : Nat) (r : Bytes) (tNew d : Nat) : Int :=
  let per : Int := if strFree r then (s.strm n).per else (strNom r * 1000 * 65536 : Nat)
  (tNew : Int) - divRound (((s.rd (Reg.FIR_CH_GD_ACT c) + d : Nat) : Int) * per) (256 * 65536)

/-- An output goes to the fusion unit; one whose stamp would not be after the previous output's is withheld and counted
(R96). -/
def firDeliver (s : State) (n c : Nat) (r : Bytes) (v : List Int) (t : Int) (att : Att) (rep : Bool) : State :=
  let s := s.setFir c { s.fir c with y := some v }
  if (s.fir c).yStamp.any (fun (y : Nat) => decide (t ≤ y)) then s.count (Reg.SNS_STR_DISCARD n)
  else (s.setFir c { s.fir c with yStamp := some t.toNat }).toFusion r v t.toNat att rep

/-- FIR_OUTPUT (R97 to R100, R103): y of the active bank, or of the fade's blend, and its corrected stamp. QTY 6 of the
stream makes it an angle (R98; the channel record's ANGLE is only shown in FIR_CH_CFG: DEDUCED, log entry 73). -/
def firEmit (s : State) (n c : Nat) (r : Bytes) (tNew : Nat) (att : Att) : State :=
  let f := s.fir c
  let d := s.firDelay c r
  let new := f.fade.map (fun (j, m) => (s.bankOther c, (divRound (((j + 1 : Nat) : Int) * 65536) m).toNat))
  let outs := (List.range ((f.hist.headD []).length)).map (fun i =>
    firOut (byteAt r 24 == 6) (s.bankActive c) new (component f.hist i) d)
  let t := s.firStamp n c r tNew d
  let s := s.when (outs.any (·.2)) (fun s => s.flag (Fl.FIR_CH_STATUS_SAT c) true)
  (s.fadeStep c).firDeliver n c r (outs.map (·.1)) t att false

/-- The previous output once more, marked REPEATED (R95): a fade does not advance. It carries the stamp of the consumer frame it
fills (DESIGN CHOICE, log entry 76). -/
def firRepeat (s : State) (n c : Nat) (r : Bytes) (tNew : Nat) : State :=
  match (s.fir c).y with
  | some v => s.firDeliver n c r v (s.firStamp n c r tNew (s.firDelay c r)) {} true
  | none => s

/-- One input of a channel (R97 to R100): an output at every D-th input once every tap holds a sample, dropped or
repeated at a frame slip (R95). -/
def firInput (s : State) (n c : Nat) (r : Bytes) (v : List Int) (tNew : Nat) (att : Att) : State :=
  let dec := s.get (Fl.FIR_CH_CFG_DECIM_M1 c) + 1
  let f := s.fir c
  let old := f.delta
  let delta := if strFree r then strDelta r dec (s.strm n) else 0
  let d := (s.rd (Reg.FIR_CH_DELAY c) % 65536 + (if delta < 0 then 0 else delta)).toNat
  let taps := max (s.bankActive c).length (if f.fade.isSome then (s.bankOther c).length else 0)
  let need := taps + (d + 255) / 256
  let hist := (v :: f.hist).take 1100
  let full := decide (need ≤ hist.length)
  let cnt := f.cnt + 1
  let s := (s.setFir c { f with hist := hist, cnt := if dec ≤ cnt then 0 else cnt, delta := delta }).put
    (Fl.SNS_STR_STATUS_STATE n) (if full then 2 else 1)
  if cnt < dec || !full then s
  else if strFree r && decide (256 * (dec : Int) ≤ delta) && decide (old ≤ delta) then (s.slip n c 0 r dec).fadeStep c
  else if strFree r && decide (delta ≤ 0) && decide (delta < old) then (s.firRepeat n c r tNew).slip n c 1 r dec
  else s.firEmit n c r tNew att

/-- STREAM_RESTART (R94): the channel's history is cleared and δ is reset. -/
def strRestart (s : State) (n c : Nat) (r : Bytes) (ev : Bool) : State :=
  let dec := s.get (Fl.FIR_CH_CFG_DECIM_M1 c) + 1
  let x := s.strm n
  let s := (s.setStrm n { x with grid := x.hat.getD 0 }).setFir c
    { s.fir c with hist := [], cnt := 0, delta := if strFree r then dec * 128 else 0, y := none }
  (s.put (Fl.SNS_STR_STATUS_STATE n) 1).when ev (fun s => s.logEv Ev.STREAM_RESTART n)

/-- SKEW and TRACK (R93, R95). -/
def strPublish (s : State) (n c : Nat) (r : Bytes) : State :=
  if !strFree r then s else
    let nom : Int := (strNom r * 1000 * 65536 : Nat)
    let skew := divRound ((nom - (s.strm n).per) * 10 ^ 9) nom.toNat
    ((s.wr (Reg.SNS_STR_SKEW n) (uInt (sat32 skew))).wr (Reg.SNS_STR_TRACK n) ((s.fir c).delta.toNat % 65536)).flag
      (Fl.SNS_STR_STATUS_RETIMED n) true

/-- `k` repeats of the last input fill a gap of a free-running stream, each at its estimated time and its place on the grid
(R94). -/
def fillGap (s : State) (n c : Nat) (r : Bytes) (k tNew : Nat) : State :=
  s.each (List.range k) (fun s i =>
    let x := s.strm n
    let nom : Int := (strNom r * 1000 * 65536 : Nat)
    let s := s.setStrm n { x with grid := x.grid + nom, hat := x.hat.map (· + x.per) }
    s.firInput n c r x.prev (tNew - (k - i) * (x.per / 65536).toNat) {})

/-- Repeats of the last input at the trigger edges that received no sample (R91, R94). -/
def fillEdges (s : State) (n c : Nat) (r : Bytes) (ts : List Nat) : State :=
  s.each ts (fun s t => s.firInput n c r (s.strm n).prev t {})

/-- `k` occurrences of a counted event. -/
def countN (s : State) (a k : Nat) : State := s.each (List.range (min k 65536)) (fun s _ => s.count a)

/-- A gap of a triggered stream (R91, R94): `gap` counts its edges, `ts` are the instants of those the trigger still
remembers. -/
def edgeGap (s : State) (n c : Nat) (r : Bytes) (gap : Nat) (ts : List Nat) : State :=
  let s := s.countN (Reg.SNS_STR_GAP n) gap
  if gap = 0 then s else if 4 < gap then s.strRestart n c r true
  else if (s.strm n).prev.isEmpty then s else s.fillEdges n c r ts

/-- STREAM_SAMPLE of a stream with its record (R93 to R96). -/
def strSample (s : State) (n : Nat) (r : Bytes) (vals : List Int) (t : Nat) (att : Att) : State :=
  let c := byteAt r 21
  let x := s.strm n
  if x.last.any (fun l => t ≤ l) then s.count (Reg.SNS_STR_DISCARD n)
  else
    let nom : Int := (strNom r * 1000 * 65536 : Nat)
    let ts : Int := (t : Int) * 65536
    let base := { x with last := some t, lastAt := s.now, prev := vals }
    let s := if !strFree r then ((s.setStrm n base).firInput n c r vals t att)
      else match x.hat with
        | none =>
          let dec := s.get (Fl.FIR_CH_CFG_DECIM_M1 c) + 1
          let s := s.setStrm n { base with hat := some ts, per := nom, grid := ts }
          (s.setFir c { s.fir c with delta := dec * 128 }).firInput n c r vals t att
        | some h =>
          let p := h + x.per
          let m := divRound (ts - p) x.per.toNat
          let gaps := m.toNat
          let p := p + gaps * x.per
          let e := ts - p
          let hat := p + divRound e 16
          let per := x.per + divRound e 1024
          let s := s.countN (Reg.SNS_STR_GAP n) gaps
          let s := if gaps = 0 then s
            else if gaps ≤ 4 then s.fillGap n c r gaps t
            else (s.setStrm n { s.strm n with hat := some hat }).strRestart n c r true
          let g := if 4 < gaps then hat else (s.strm n).grid + nom
          (s.setStrm n { base with hat := some hat, per := per, grid := g }).firInput n c r vals t att
    s.strPublish n c r

/-- A stream's latency in ns (R92). -/
def strLat (s : State) (n : Nat) : Nat := s.rd (Reg.SNS_STR_LAT n) % 2 ^ 20 * 1000

/-- The latency that applies to a sample that arrived at a real time (R92): a change applies to samples after it. -/
def strLatAt (s : State) (n arr : Nat) : Nat :=
  match (s.strm n).latOld with
  | some (old, at_) => if arr < at_ then old else s.strLat n
  | none => s.strLat n

/-- SNS_STR_LAT takes a new value at its boundary (R92). -/
def applyLat (s : State) (n w : Nat) : State :=
  let old := s.strLat n
  (s.setStrm n { s.strm n with latOld := some (old, s.now) }).wr (Reg.SNS_STR_LAT n) (w % 2 ^ 20)

/-- A sample of a triggered stream that arrived at real time `arr` (R91): it is stamped with the edge that last precedes its
arrival; later than LAT after it, or a second one after the same edge, it is discarded; edges without a sample are a gap. -/
def strTriggered (s : State) (n : Nat) (r : Bytes) (vals : List Int) (arr : Nat) (att : Att) : State :=
  let l := aGetD s.sns.edges (byteAt r 20 - 1) []
  let x := s.strm n
  match l.find? (fun e => decide (e.2 ≤ arr)) with
  | none => s.count (Reg.SNS_STR_DISCARD n)
  | some (e, at_) =>
    if at_ + s.strLatAt n arr < arr || x.edge.any (fun (p : Nat) => decide (e ≤ p)) then s.count (Reg.SNS_STR_DISCARD n)
    else
      let later := (l.filter (fun p => decide (e < p.1))).length
      let between := ((l.filter (fun p => decide (p.1 < e) && x.edge.any (fun (q : Nat) => decide (q < p.1)))).map (·.1)).reverse
      let s := s.edgeGap n (byteAt r 21) r (x.seen - later - 1) between
      (s.setStrm n { s.strm n with edge := some e, seen := later }).strSample n r vals e att

/-- A sample arrives for stream n at real time `arr` with its stamp before triggering (R91, R92). Samples of a closed unit
are lost and not counted. -/
def strArrive (s : State) (n : Nat) (vals : List Int) (t arr : Nat) (att : Att := {}) : State :=
  match strRec s n with
  | none => s
  | some r =>
    if !s.pathOpen then s
    else if byteAt r 20 = 0 ∨ byteAt r 1 = 6 then s.strSample n r vals t att
    else s.strTriggered n r vals arr att

/-- A stream record of a node's slot (R92, R308): taken where the stream's SOURCE is the ring and names the node. -/
def streamRecord (s : State) (node stream stamp value : Nat) : State :=
  match strRec s stream with
  | none => s
  | some r =>
    if byteAt r 1 != 7 || beAt r 4 2 != node then s
    else s.strArrive stream [if byteAt r 24 = 6 then (value : Int) else sInt value] (stamp - s.strLat stream) s.now

/-- A ring stream's refused time-stamp (R92). -/
def streamBadStamp (s : State) (node stream : Nat) : State :=
  match strRec s stream with
  | none => s
  | some r => if byteAt r 1 == 7 && beAt r 4 2 == node && s.pathOpen then s.count (Reg.SNS_STR_DISCARD stream) else s

/-- STREAM_STALE (R94). -/
def strStale (s : State) (n : Nat) : State :=
  match strRec s n with
  | none => s
  | some r =>
    let x := s.strm n
    if s.pathOpen && x.last.isSome && decide (x.lastAt + byteAt r 22 * strNom r * 1000 ≤ s.now) then
      s.put (Fl.SNS_STR_STATUS_STATE n) 3
    else s

/-! ### Coefficients and fades (R103, R104) -/

/-- A fade waits or runs. -/
def fading (s : State) (c : Nat) : Bool := (s.fir c).fade.isSome

/-- FIR_COEF_WRITE. -/
def coefWrite (s : State) (i w : Nat) : State :=
  let c := s.get ⟨Reg.FIR_COEF_SEL, 5, 0⟩
  let f := s.fir c
  if s.fading c then s.flag (Fl.FIR_CH_STATUS_COEF_LOST c) true
  else if s.is (Fl.FIR_CH_STATUS_ACTIVE c) then s.setFir c { f with a := f.a.set i (sInt w) }
  else s.setFir c { f with b := f.b.set i (sInt w) }

/-- The coefficient shown at FIR_COEF[i]: the selected channel's inactive bank; zero beyond its length. -/
def coefRead (s : State) (i : Nat) : Nat := uInt ((s.bankOther (s.get ⟨Reg.FIR_COEF_SEL, 5, 0⟩)).getD i 0)

/-- FIR_GD_INACT_WRITE. -/
def gdWrite (s : State) (c w : Nat) : State :=
  if s.fading c then s.flag (Fl.FIR_CH_STATUS_COEF_LOST c) true else s.wr (Reg.FIR_CH_GD_INACT c) (w % 2 ^ 18)

/-- Why a fade of length m is refused; 0 where it is not (R104). Where several cases hold, the first of BUSY, NO_BANK, BAD_LEN
and GD_MISMATCH is shown (DESIGN CHOICE, log entry 75). -/
def fadeCode (s : State) (c m : Nat) : Nat :=
  if s.fading c then 3
  else if (s.bankOther c).isEmpty then 5
  else if m = 0 ∨ 1024 < m then 4
  else if s.rd (Reg.FIR_CH_GD_ACT c) != s.rd (Reg.FIR_CH_GD_INACT c) then 2
  else 0

/-- FADE_REQUEST: refused at once, or held for the leg boundary (R103, R104, R417). -/
def fadeRequest (s : State) (c w : Nat) : State :=
  if !w.testBit 31 then s.stage (Reg.FIR_CH_FADE c) (w % 2048)
  else match s.fadeCode c (w % 2048) with
    | 0 => s.stage (Reg.FIR_CH_FADE c) (2 ^ 31 + w % 2048)
    | k => s.put (Fl.FIR_CH_STATUS_RESULT c) k

/-- A held FADE at its boundary. -/
def applyFade (s : State) (c w : Nat) : State :=
  let s := s.put (Fl.FIR_CH_FADE_LEN c) (w % 2048)
  if !w.testBit 31 then s
  else match s.fadeCode c (w % 2048) with
    | 0 => (s.setFir c { s.fir c with fade := some (0, w % 2048) }).flag (Fl.FIR_CH_FADE_GO c) true
    | k => (s.put (Fl.FIR_CH_STATUS_RESULT c) k).flag (Fl.FIR_CH_FADE_GO c) false

/-- Reopening of the filter chain or the sensor ports: every channel restarts, a fade is abandoned, and sentences in
progress are gone (R104). -/
def filterReopened (s : State) : State :=
  let s := s.each (strRecs s) (fun s r =>
    let n := byteAt r 0
    let c := byteAt r 21
    let s := if s.fading c then
        ((((s.setFir c { s.fir c with fade := none }).put (Fl.FIR_CH_STATUS_RESULT c) 6).flag (Fl.FIR_CH_STATUS_FADING c)
          false).put (Fl.FIR_CH_STATUS_FADE_POS c) 0).flag (Fl.FIR_CH_FADE_GO c) false
      else s
    (s.setStrm n { latOld := (s.strm n).latOld }).strRestart n c r false)
  { s with sns := { s.sns with frame := none, prevFrame := none, ports := s.sns.ports.map (fun e => (e.1, { e.2 with bin := [], held := [] })) } }

/-! ### Serial ports (R80 to R84) -/

/-- The bit rates of BAUD. -/
def baudOf (c : Nat) : Nat := ([4800, 9600, 19200, 38400, 57600, 115200, 230400, 460800, 921600] : List Nat).getD c 4800

/-- The ns of one character on a port: start bit, 8 bits, parity, one or two stop bits (R80). -/
def charNs (s : State) (p : Nat) : Nat :=
  let bits := 10 + (if s.get (Fl.SNS_PORT_CFG_PARITY p) = 0 then 0 else 1) + (if s.is (Fl.SNS_PORT_CFG_STOP2 p) then 1 else 0)
  bits * 1000000000 / baudOf (s.get (Fl.SNS_PORT_CFG_BAUD p))

/-- The TX FIFO drained up to the present instant. -/
def txDrain (s : State) (p : Nat) : State :=
  let x := s.port p
  let k := min x.tx.length ((s.now - x.txFrom) / max 1 (s.charNs p))
  let s := s.setPort p { x with tx := x.tx.drop k, txFrom := if x.tx.length = k then s.now else x.txFrom + k * s.charNs p }
  s.put (Fl.SNS_PORT_STATUS_TX_LEVEL p) (x.tx.length - k)

/-- SNS_PORT_TXDATA (R84). -/
def txWrite (s : State) (p w : Nat) : State :=
  let s := s.txDrain p
  let x := s.port p
  if 256 ≤ x.tx.length then s.flag (Fl.SNS_PORT_STATUS_TX_LOST p) true
  else (s.setPort p { x with tx := x.tx ++ [w % 256], txFrom := if x.tx.isEmpty then s.now else x.txFrom }).put
    (Fl.SNS_PORT_STATUS_TX_LEVEL p) (x.tx.length + 1)

/-- A port's status as it stands at this instant (R84). -/
def portStatus (s : State) (p : Nat) : State :=
  let s := s.txDrain p
  let x := s.port p
  (s.flag (Fl.SNS_PORT_STATUS_LINE_BREAK p) x.brk).flag (Fl.SNS_PORT_STATUS_RX_ACTIVE p)
    (x.rxAt.any (fun t => decide (s.now ≤ t + 100000000)))

/-- Reading a port's status clears TX_LOST. -/
def portStatusRead (s : State) (p : Nat) : State :=
  let s := s.portStatus p
  (s.reply (s.rd (Reg.SNS_PORT_STATUS p))).flag (Fl.SNS_PORT_STATUS_TX_LOST p) false

/-- The stamp instant of a start-bit edge `ago` ns back: resolved to the next sixteenth of a bit (R92; DESIGN CHOICE, log entry
77). -/
def edgeStamp (s : State) (p ago : Nat) : Nat :=
  let r := 16 * baudOf (s.get (Fl.SNS_PORT_CFG_BAUD p))
  let k := ((s.clk - ago) * r + 999999999) / 1000000000
  (k * 1000000000 + r - 1) / r

/-- What every reception records: framing errors, lost characters, activity. A parity error has no effect of its own in the
spec: the character is taken as it is (DESIGN CHOICE, log entry 72). -/
def rxSeen (s : State) (p : Nat) (rx : SerialIn) : State :=
  let s := (s.countN (Reg.SNS_PORT_ERR_FRAME p) rx.framing).countN (Reg.SNS_PORT_ERR_OVERRUN p) rx.lost
  s.setPort p { s.port p with rxAt := if rx.chars.isEmpty then (s.port p).rxAt else some s.now, brk := rx.brk }

end State

/-! ### Sentences (R81 to R83) -/

/-- A list cut at a byte. -/
def splitOn (c : Nat) : List Nat → List (List Nat)
  | [] => [[]]
  | x :: l =>
    if x = c then [] :: splitOn c l
    else match splitOn c l with
      | [] => [[x]]
      | f :: fs => (x :: f) :: fs

/-- ASCII digits as a number; none for an empty field or another character. -/
def digits (l : List Nat) : Option Nat :=
  if l.isEmpty then none
  else l.foldl (fun a c => match a with | none => none | some v => if 48 ≤ c ∧ c ≤ 57 then some (v * 10 + (c - 48)) else none)
    (some 0)

/-- A decimal field as its rational value (R83). -/
def decimal (l : List Nat) : Option Rat :=
  let (neg, l) := match l with | 45 :: t => (true, t) | t => (false, t)
  match splitOn 46 l with
  | [a] => (digits a).map (fun v => if neg then -(v : Rat) else (v : Rat))
  | [a, b] =>
    match (if a.isEmpty then some 0 else digits a), (if b.isEmpty then some 0 else digits b) with
    | some x, some y =>
      if a.isEmpty && b.isEmpty then none else
        let v : Rat := (x : Rat) + (y : Rat) / ((10 ^ b.length : Nat) : Rat)
        some (if neg then -v else v)
    | _, _ => none
  | _ => none

/-- Degrees as a binary angle (R8). -/
def degAng (q : Rat) : Int := ((uInt (rnd (q * ((2 ^ 32 : Nat) : Rat) / 360)) : Nat) : Int)

/-- A signed 32-bit quantity of a rational; none outside the range (R83). -/
def scaled (q : Rat) : Option Int := let v := rnd q; if sat32 v = v then some v else none

/-- A latitude or longitude field ddmm.mm or dddmm.mm with its sign letter, in degrees. -/
def latLon (f sgn : List Nat) (pos neg : Nat) (most : Nat) : Option Rat :=
  match decimal f with
  | none => none
  | some v =>
    let d : Int := (v / 100).floor
    let m := v - ((d * 100 : Int) : Rat)
    let q := (d : Rat) + m / 60
    if v < 0 ∨ m ≥ 60 ∨ q > ((most : Nat) : Rat) then none
    else if sgn = [pos] then some q else if sgn = [neg] then some (-q) else none

/-- A position from its four fields: latitude as a signed, longitude as an unsigned binary angle (R82). -/
def positionOf (f : List (List Nat)) (i : Nat) : Option (List Int) :=
  match latLon (f.getD i []) (f.getD (i + 1) []) 78 83 90, latLon (f.getD (i + 2) []) (f.getD (i + 3) []) 69 87 180 with
  | some a, some b => some [sInt (degAng a).toNat, degAng b]
  | _, _ => none

/-- What a sentence delivers (R82). -/
inductive Decoded where
  | refused
  | values (v : List (List Int))
  | position (v : List Int) (att : Att) (utc : Option Nat)
  | gst (utc : Option Nat) (sLat sLon : Nat)
  | dtm (w84 : Bool)
  | nothing
  deriving DecidableEq, Repr

/-- A rational in millionths. -/
def micro (q : Rat) : Nat := (rnd (q * 1000000)).toNat

/-- A speed field in its unit as µm/s. -/
def speedOf (f : List Nat) (unit : List Nat) : Option Int :=
  match decimal f with
  | none => none
  | some v =>
    match unit with
    | [75] => scaled (v * 1000000000 / 3600)
    | [77] => scaled (v * 1000000)
    | [78] => scaled (v * 1852000000 / 3600)
    | _ => none

/-- The sentence formats of R82; `f` are the fields after the address. -/
def decodeSentence (fm : List Nat) (f : List (List Nat)) : Decoded :=
  let g (i : Nat) : List Nat := f.getD i []
  let one (o : Option Int) : Decoded := match o with | some v => .values [[v]] | none => .refused
  let mi (i : Nat) : Option Nat := (decimal (g i)).map micro
  let pos (i : Nat) (a : Att) (u : Nat) : Decoded :=
    match positionOf f i with | some v => .position v a (mi u) | none => .refused
  match fm with
  | [72, 68, 84] => one ((decimal (g 0)).map degAng)
  | [84, 72, 83] => if g 1 = [65] then one ((decimal (g 0)).map degAng) else .refused
  | [82, 79, 84] =>
    if g 1 = [65] then one ((decimal (g 0)).bind (fun v => scaled (v * piQ / 180 / 60 * 1000000))) else .refused
  | [71, 71, 65] =>
    if [[49], [50], [52], [53]].contains (g 5) then pos 1 { hdop := mi 7, quality := g 5, sats := digits (g 6), age := mi 12 } 0
    else .refused
  | [71, 78, 83] =>
    if (g 5).any (fun c => [65, 68, 70, 80, 82].contains c) then
      pos 1 { hdop := mi 7, quality := g 5, sats := digits (g 6), age := mi 10 } 0
    else .refused
  | [71, 76, 76] =>
    if g 5 = [65] ∧ g 6 ≠ [78] ∧ g 6 ≠ [69] then pos 0 {} 4 else .refused
  | [71, 83, 84] =>
    match decimal (g 5), decimal (g 6) with | some a, some b => .gst (mi 0) (micro a) (micro b) | _, _ => .refused
  | [68, 84, 77] => .dtm (g 0 == [87, 56, 52])
  | [86, 84, 71] =>
    if g 8 = [78] then .refused
    else match decimal (g 0), speedOf (g 6) [75] with | some a, some v => .values [[degAng a, v]] | _, _ => .refused
  | [77, 87, 86] =>
    if g 1 = [82] ∧ g 4 = [65] then
      match decimal (g 0), speedOf (g 2) (g 3) with | some a, some v => .values [[degAng a], [v]] | _, _ => .refused
    else .refused
  | [90, 68, 65] => .nothing
  | _ => .refused

/-- The formatters that give a position. -/
def isPosition (fm : List Nat) : Bool := fm == [71, 71, 65] || fm == [71, 78, 83] || fm == [71, 76, 76]

/-- A hexadecimal digit. -/
def hexDigit (c : Nat) : Option Nat :=
  if 48 ≤ c ∧ c ≤ 57 then some (c - 48) else if 65 ≤ c ∧ c ≤ 70 then some (c - 55) else if 97 ≤ c ∧ c ≤ 102 then some (c - 87)
  else none

/-- A sentence taken apart: checksum good, absent or wrong, and the text between its start and its checksum. -/
def sentenceBody (cs : List Nat) : Option (Option Bool × List Nat) :=
  if 82 < cs.length ∨ (cs.headD 0 ≠ 36 ∧ cs.headD 0 ≠ 33) ∨ cs.drop (cs.length - 2) ≠ [13, 10] then none
  else
    let t := (cs.drop 1).take (cs.length - 3)
    match splitOn 42 t with
    | [b] => some (none, b)
    | [b, [h, l]] =>
      let ok := match hexDigit h, hexDigit l with | some x, some y => b.foldl (· ^^^ ·) 0 == 16 * x + y | _, _ => false
      some (some ok, b)
    | b :: _ => some (some false, b)
    | [] => none

namespace State

/-- The sentence streams bound to a port, a talker and a formatter; a GST or a DTM is bound where the talker's position
stream is (R81). -/
def boundStreams (s : State) (p talker : Nat) (fm : List Nat) : List Bytes :=
  (strRecs s).filter (fun r =>
    let rf := [byteAt r 8, byteAt r 9, byteAt r 10]
    byteAt r 1 == p + 1 && byteAt r 3 == 0 && (beAt r 6 2 == talker || beAt r 6 2 == 0x2D2D) &&
      (rf == fm || ((fm == [71, 83, 84] || fm == [68, 84, 77]) && isPosition rf)))

/-- DATUM_HOLD of a port's position streams (R82). -/
def datumPublish (s : State) (p : Nat) : State :=
  s.each (strRecs s) (fun s r =>
    if byteAt r 1 == p + 1 && byteAt r 3 == 0 && isPosition [byteAt r 8, byteAt r 9, byteAt r 10] then
      s.flag (Fl.SNS_STR_STATUS_DATUM_HOLD (byteAt r 0))
        (((s.port p).datum).any (fun t => beAt r 6 2 == t || beAt r 6 2 == 0x2D2D))
    else s)

/-- A held position sample goes to the filter chain. -/
def releaseHeld (s : State) (h : HeldPos) (gst : Option (Nat × Nat)) : State :=
  s.strArrive h.stream h.v h.stamp h.arr { h.att with gst := gst }

/-- Held samples of a port that satisfy a condition go to the filter chain. -/
def releaseIf (s : State) (p : Nat) (c : HeldPos → Bool) (gst : Option (Nat × Nat)) : State :=
  let l := (s.port p).held.filter c
  let s := s.setPort p { s.port p with held := (s.port p).held.filter (fun h => !c h) }
  s.each l (fun s h => s.releaseHeld h gst)

/-- A leg boundary ends every wait for a GST. -/
def releaseAll (s : State) : State := s.each (List.range 5) (fun s p => s.releaseIf p (fun _ => true) none)

/-- A GST's UTC time is that of a position sentence that the talker sent within one T_NOM of a stream before it (R82). -/
def gstMatches (s : State) (p talker : Nat) (utc : Option Nat) (r : Bytes) : Bool :=
  match aGet (s.port p).lastPos talker with
  | some (u, at_) => u.isSome && u == utc && decide (s.now ≤ at_ + strNom r * 1000)
  | none => false

/-- A decoded sentence whose first start-bit edge lay `ago` ns back is delivered (R82). Whether a position sample still waits
when its GST arrives is left open by the spec, and a free value decides (log entry 33). -/
def deliver (s : State) (p talker ago : Nat) (rs : List Bytes) (d : Decoded) : State :=
  let t0 := s.edgeStamp p ago
  let arr := s.now - ago
  let t (n : Nat) : Nat := t0 - s.strLatAt n arr
  match d with
  | .refused => s.count (Reg.SNS_PORT_ERR_OTHER p)
  | .nothing => s
  | .values vs =>
    s.each rs (fun s r => match vs[if byteAt r 11 < vs.length then byteAt r 11 else 0]? with
      | some v => s.strArrive (byteAt r 0) v (t (byteAt r 0)) arr
      | none => s)
  | .position v att utc =>
    if (s.port p).datum.contains talker then s
    else
      let s := s.releaseIf p (fun h => h.talker == talker) none
      let s := s.setPort p { s.port p with lastPos := aSet (s.port p).lastPos talker (utc, s.now) }
      let (k, s) := s.draw
      s.each rs (fun s r =>
        let n := byteAt r 0
        let h : HeldPos := ⟨n, v, t n, att, utc, talker, s.now, arr⟩
        if k % 2 = 1 then s.setPort p { s.port p with held := (s.port p).held ++ [h] } else s.releaseHeld h none)
  | .gst utc a b =>
    if rs.any (s.gstMatches p talker utc) then
      s.releaseIf p (fun h => h.talker == talker && h.utc == utc &&
        (strRec s h.stream).any (s.gstMatches p talker utc)) (some (a, b))
    else s.count (Reg.SNS_PORT_ERR_OTHER p)
  | .dtm w84 =>
    let x := s.port p
    (s.setPort p { x with datum := if w84 then x.datum.filter (· != talker)
                                   else if x.datum.contains talker then x.datum else x.datum ++ [talker] }).datumPublish p

/-- IEC_SENTENCE_RECEIVED (R81, R82): a sentence that had begun before its port's settings changed is discarded and
counted. -/
def sentence (s : State) (p : Nat) (rx : SerialIn) : State :=
  if s.get (Fl.SNS_PORT_CFG_MODE p) != 1 then s
  else
    let s := s.rxSeen p rx
    if rx.chars.isEmpty || rx.lost != 0 then s
    else if s.now < (s.port p).cfgAt + rx.agoNs then s.count (Reg.SNS_PORT_ERR_OTHER p)
    else match sentenceBody (bytesNat rx.chars) with
      | none => s.count (Reg.SNS_PORT_ERR_OTHER p)
      | some (ck, b) =>
        if !(ck.getD (s.is (Fl.SNS_PORT_CFG_CSUM_OPT p))) then s.count (Reg.SNS_PORT_ERR_CHECK p)
        else
          let f := splitOn 44 b
          let addr := f.headD []
          let talker := beAt addr 0 2
          let fm := addr.drop 2
          let rs := s.boundStreams p talker fm
          if addr.length ≠ 5 ∨ rs = [] then s.count (Reg.SNS_PORT_ERR_OTHER p)
          else s.deliver p talker rx.agoNs rs (decodeSentence fm (f.drop 1))

end State

/-! ### Binary frames (R85, R86) -/

/-- A frame's check value by its kind. -/
def frameCheck (kind : Nat) (bs : Bytes) : Nat :=
  match kind with
  | 1 => bs.foldl (· ^^^ ·) 0
  | 2 => bs.foldl (· + ·) 0 % 256
  | 3 => crc16 bs
  | 4 => crc32c bs
  | _ => 0

/-- Bytes the check takes. -/
def checkSize (kind : Nat) : Nat := match kind with | 1 => 1 | 2 => 1 | 3 => 2 | 4 => 4 | _ => 0

/-- A frame's length by its descriptor. -/
def frameLen (d f : Bytes) : Int :=
  if beAt d 2 2 != 0 then beAt d 2 2
  else (beAt f (byteAt d 8) (byteAt d 9) : Int) + sBits 8 (byteAt d 10)

/-- A value saturated to 32 bits: an angle's word may be read either way (R8), so that it saturates only outside both. -/
def satField (angle : Bool) (v : Int) : Int :=
  if angle then ((uInt (if v > 2 ^ 32 - 1 then 2 ^ 32 - 1 else if v < -2 ^ 31 then -2 ^ 31 else v) : Nat) : Int) else sat32 v

/-- A field of a frame, scaled (R86). -/
def frameField (angle : Bool) (r f : Bytes) : Int :=
  let w := byteAt r 2
  let raw := (f.drop (beAt r 0 2)).take w
  let v := beNat (if (byteAt r 3).testBit 1 then raw.reverse else raw)
  let x : Int := if (byteAt r 3).testBit 0 then sBits (8 * w) v else v
  satField angle (rnd ((x : Rat) * fAt r 8))

/-- What stands at the front of the bytes received so far (R86): no sync pattern, too few bytes to tell, a frame that is no
frame, a failed check, or a good frame of a length. -/
inductive FrameAt where
  | noSync | short | bad | check | good (len : Nat)
  deriving DecidableEq, Repr

/-- Judging the front of the bytes by a descriptor (R85, R86). -/
def frameAt (d f : Bytes) : FrameAt :=
  let n := byteAt d 0
  let sync := (d.drop 4).take n
  if f.take n != sync.take f.length then .noSync
  else if f.length < n then .short
  else if beAt d 2 2 = 0 ∧ f.length < byteAt d 8 + byteAt d 9 then .short
  else
    let len := frameLen d f
    let ck := checkSize (byteAt d 1)
    if 512 < len ∨ len < (byteAt d 11 + ck : Nat) ∨ len < 1 then .bad
    else if (f.length : Int) < len then .short
    else
      let g := f.take len.toNat
      let raw := g.drop (g.length - ck)
      let got := beNat (if byteAt d 12 = 1 then raw.reverse else raw)
      if byteAt d 1 != 0 && frameCheck (byteAt d 1) ((g.take (g.length - ck)).drop (byteAt d 11)) != got then .check
      else .good len.toNat

namespace State

/-- The fields of an accepted frame whose first start-bit edge lay at real time `arr`: all carry its one stamp (R86). -/
def frameFields (s : State) (p arr : Nat) (d f : Bytes) : State :=
  let t0 := s.edgeStamp p (s.now - arr)
  s.each (List.range (min 16 (byteAt d 13))) (fun s i =>
    let r := (d.drop (16 + 12 * i)).take 12
    let n := byteAt r 4
    match strRec s n with
    | some q => if byteAt q 1 == p + 1 && byteAt q 3 == 1 && byteAt q 11 == s.get (Fl.SNS_PORT_CFG_FRAMING p) then
        s.strArrive n [frameField (byteAt q 24 == 6) r f] (t0 - s.strLatAt n arr) arr else s
    | none => s)

/-- The search for frames in the bytes received (R86): after a failed check it resumes at the byte after the failed frame's
first sync byte, and likewise after a frame that is no frame (DESIGN CHOICE, log entry 78); `fuel` is their number. -/
def frameSearch (d : Bytes) (p : Nat) : Nat → List (Nat × Nat) → State → State
  | 0, l, s => s.setPort p { s.port p with bin := l }
  | fuel + 1, l, s =>
    if l.isEmpty then s.setPort p { s.port p with bin := [] } else
      match frameAt d (l.map (·.1)) with
      | .noSync => frameSearch d p fuel (l.drop 1) s
      | .short => s.setPort p { s.port p with bin := l }
      | .bad => frameSearch d p fuel (l.drop 1) (s.count (Reg.SNS_PORT_ERR_OTHER p))
      | .check => frameSearch d p fuel (l.drop 1) (s.count (Reg.SNS_PORT_ERR_CHECK p))
      | .good n => frameSearch d p fuel (l.drop n) (s.frameFields p (l.headD (0, 0)).2 d ((l.take n).map (·.1)))

/-- BINARY_FRAME_RECEIVED (R85, R86): the bytes join those of a frame not yet complete, each with its start-bit edge, one
character time after the last (DESIGN CHOICE, log entry 78); characters lost to a full buffer discard the frame that
contained them. -/
def binaryFrame (s : State) (p : Nat) (rx : SerialIn) : State :=
  if s.get (Fl.SNS_PORT_CFG_MODE p) != 2 then s
  else
    let s := s.rxSeen p rx
    if rx.lost != 0 then s.setPort p { s.port p with bin := [] } else
      let new := (List.range rx.chars.length).zip (bytesNat rx.chars) |>.map (fun (i, b) => (b, s.now - rx.agoNs + i * s.charNs p))
      let l := (s.port p).bin ++ new.filter (fun e => decide ((s.port p).cfgAt ≤ e.2))
      frameSearch (framingOf s (s.get (Fl.SNS_PORT_CFG_FRAMING p))) p (l.length + 1) l s

/-- New settings of a port at its leg boundary: a frame that is incomplete is discarded and counted, and the receiver starts
afresh (R86). -/
def applyPortCfg (s : State) (p w : Nat) : State :=
  let x := s.port p
  let s := s.when (!x.bin.isEmpty) (fun s => s.count (Reg.SNS_PORT_ERR_OTHER p))
  (s.setPort p { x with bin := [], held := [], cfgAt := s.now }).wr (Reg.SNS_PORT_CFG p) (w &&& Rw.SNS_PORT_CFG.mask)

/-! ### Sample port and triggers (R87 to R91) -/

/-- The streams of the sample port restart (R87, R94). -/
def sampleRestart (s : State) : State :=
  ({ s with sns := { s.sns with frame := none, prevFrame := none } } : State).each
    ((strRecs s).filter (fun r => byteAt r 1 == 6)) (fun s r => s.strRestart (byteAt r 0) (byteAt r 21) r true)

/-- The ns of a frame (R87). -/
def frameNs (s : State) : Nat := 1000000000 / (500 * 2 ^ s.get Fl.SNS_SMP_CFG_RATE)

/-- The present pace boundary starts a frame of a 500 Hz port (R87): in RUN an even pace, outside RUN every second boundary
from the one at which the port was enabled. -/
def boundaryDue (s : State) : Bool := if s.inRun then s.cyc.pace % 2 == 0 else s.sns.bnd % 2 == 0

/-- A frame starts at this instant (R87): at a pace boundary and at every 1/f_S after it, at 500 Hz at the boundaries that are
due. Instants are judged on the 4 ns grid. -/
def frameDue (s : State) : Bool :=
  let since := s.now - s.cyc.boundaryAt
  if s.get Fl.SNS_SMP_CFG_RATE = 0 then decide (since < 4) && s.boundaryDue else decide (since % s.frameNs < 4)

/-- SAMPLE_PORT_FRAME_START (R87, R89). -/
def frameStart (s : State) : State :=
  if !s.is Fl.SNS_SMP_CFG_EN || !s.frameDue || s.sns.frame.any (fun f => decide (s.now < f.2 + 4)) then s
  else { s with sns := { s.sns with frame := some (s.clk, s.now), prevFrame := s.sns.frame, frameBnd := 0 } }

/-- The end of SCK period k (from 1) of a frame that began at real time `a` has come (R88), on the 4 ns grid. -/
def sckEnded (s : State) (k a : Nat) : Bool := decide (a + k * s.frameNs / 256 < s.now + 4)

/-- SAMPLE_SLOT_COMPLETE (R88, R89): slot 0 to 7 is complete at the end of SCK period 32s + 31, with FS_DELAY one later, where
slot 7 of a frame ends in the next frame's first period. -/
def slotComplete (s : State) (lane slot w : Nat) : State :=
  let k := 32 * slot + 32 + s.get Fl.SNS_SMP_CFG_FS_DELAY
  let of := match s.sns.frame.filter (fun f => s.sckEnded k f.2) with
    | some f => some f
    | none => if k = 257 then s.sns.prevFrame.filter (fun f => s.sckEnded k f.2) else none
  match of with
  | none => s
  | some (t, _) =>
    if s.is Fl.SNS_SMP_CFG_EN && decide (lane < 4) && decide (slot < 8) && (s.get Fl.SNS_SMP_CFG_LANES).testBit lane then
      s.each ((strRecs s).filter (fun r => byteAt r 1 == 6 && byteAt r 2 == 8 * lane + slot)) (fun s r =>
        s.strArrive (byteAt r 0) [sBits 24 (w / 256)] (t - s.strLat (byteAt r 0)) s.now)
    else s

/-- A pace boundary passes (R87): at 500 Hz, where it moves the frame phase, the frame in progress is abandoned and the port's
streams restart. -/
def frameMoved (s : State) : State :=
  let s : State := { s with sns := { s.sns with bnd := (s.sns.bnd + 1) % 2, frameBnd := s.sns.frameBnd + 1 } }
  if s.is Fl.SNS_SMP_CFG_EN && s.get Fl.SNS_SMP_CFG_RATE == 0 && s.sns.frame.isSome && (s.sns.frameBnd % 2 == 0) != s.boundaryDue then
    s.sampleRestart else s

/-- A trigger's period in ns. -/
def trigPeriod (s : State) (t : Nat) : Nat := s.rd (Reg.SNS_TRIG_PERIOD t) % 2 ^ 20 * 1000

/-- The local clock has reached a second boundary + PHASE + k × PERIOD (R90). -/
def trigDue (s : State) (t : Nat) : Bool :=
  let p := s.trigPeriod t
  p != 0 && decide ((s.clk + p - s.rd (Reg.SNS_TRIG_PHASE t) % 2 ^ 20 * 1000 % p) % p ≤ 4)

/-- TRIGGER_EDGE (R90, R91): an edge of the schedule on the 4 ns grid, once; one within PERIOD/2 of the last one before a clock
step is skipped. Each of its streams has one more edge to answer. Edges older than any latency are forgotten. -/
def triggerEdge (s : State) (t : Nat) : State :=
  let l := aGetD s.sns.edges t []
  let last := l.head?
  if !s.is (Fl.SNS_TRIG_CTL_EN t) || !s.clock.running || !s.trigDue t || last.any (fun e => decide (s.now < e.2 + 8)) then s
  else if s.sns.skip.contains t && last.any (fun e => decide (s.now < e.2 + s.trigPeriod t / 2)) then s
  else
    let s := s.each ((strRecs s).filter (fun r => byteAt r 20 == t + 1)) (fun s r =>
      let x := s.strm (byteAt r 0)
      s.setStrm (byteAt r 0) { x with seen := x.seen + 1 })
    let keep := l.filter (fun e => decide (s.now < e.2 + 2000000000))
    { s with sns := { s.sns with edges := aSet s.sns.edges t ((s.clk, s.now) :: keep), skip := s.sns.skip.filter (· != t) } }

/-- A clock step recomputes the edge schedules and re-anchors every stream estimator (R90, R91, R93). -/
def sensorsStepped (s : State) (off : Int) : State :=
  let mv (t : Nat) : Nat := ((t : Int) - off).toNat
  { s with sns := { s.sns with
      skip := [0, 1]
      strm := s.sns.strm.map (fun (k, x) => (k, { x with
        hat := x.hat.map (· - off * 65536), grid := x.grid - off * 65536, last := x.last.map mv, edge := x.edge.map mv }))
      fir := s.sns.fir.map (fun (k, f) => (k, { f with yStamp := f.yStamp.map mv }))
      edges := s.sns.edges.map (fun (k, l) => (k, l.map (fun e => (mv e.1, e.2))))
      frame := s.sns.frame.map (fun (t, a) => (mv t, a))
      prevFrame := s.sns.prevFrame.map (fun (t, a) => (mv t, a)) } }

/-- A trigger setting obeys R90: a period of 250 to 1,000,000 µs that divides 10^6, a phase below it, and, when running,
a width within its bounds. -/
def trigLegal (period phase ctl : Nat) : Bool :=
  250 ≤ period && period ≤ 1000000 && 1000000 % period == 0 && phase < period &&
    (!ctl.testBit 17 || (1 ≤ ctl % 65536 && ctl % 65536 ≤ min (period / 2) 65535))

/-! ### Configuration (R102, R362, R363) -/

/-- The channel records of the filter section with their offsets resolved. -/
def chRecs (b : Bytes) : Nat → List Bytes
  | 0 => []
  | n + 1 =>
    let k := 20 + 4 * (beAt b 4 2 + beAt b 6 2)
    b.take k :: chRecs (b.drop k) n

/-- The loader configures the sensor ports and the filter chain (R102, R362, R363). FIR_POOL.LOAD is rounded down (DESIGN
CHOICE, log entry 74). -/
def configSensors (s : State) : State :=
  let b := sectionOf s 3
  if b.isEmpty then s else
    let s : State := { s with sns := { s.sns with bnd := 1 } }
    let s := s.each (List.range 5) (fun s p => s.wr (Reg.SNS_PORT_CFG p) (beAt b (4 + 4 * p) 4 &&& Rw.SNS_PORT_CFG.mask))
    let s := s.wr Reg.SNS_SMP_CFG (beAt b 24 4 &&& Rw.SNS_SMP_CFG.mask)
    let s := s.each (List.range 2) (fun s t =>
      ((s.wr (Reg.SNS_TRIG_PERIOD t) (beAt b (28 + 12 * t) 4)).wr (Reg.SNS_TRIG_PHASE t) (beAt b (32 + 12 * t) 4)).wr
        (Reg.SNS_TRIG_CTL t) (beAt b (36 + 12 * t) 4))
    let s := s.each (strRecs s) (fun s r => (s.wr (Reg.SNS_STR_LAT (byteAt r 0)) (beAt r 16 4)).put
      (Fl.SNS_STR_STATUS_STATE (byteAt r 0)) 1)
    let f := sectionOf s 4
    let cs := chRecs (f.drop 4) (byteAt f 0)
    let s := s.each cs (fun s r =>
      let c := byteAt r 0
      let ta := beAt r 4 2
      let tb := beAt r 6 2
      let coef (o n : Nat) : List Int := (List.range n).map (fun i => sAt r (20 + 4 * (o + i)))
      let s := s.wr (Reg.FIR_CH_CFG c) ((byteAt r 1 % 2) * 2 ^ 26 + (byteAt r 2 - 1) % 64 * 2 ^ 20 + tb % 1024 * 2 ^ 10 + ta % 1024)
      let s := ((s.wr (Reg.FIR_CH_DELAY c) (beAt r 8 2)).wr (Reg.FIR_CH_GD_ACT c) (beAt r 12 4)).wr
        (Reg.FIR_CH_GD_INACT c) (beAt r 16 4)
      s.setFir c { a := coef 0 ta, b := coef ta tb })
    let used := (cs.map (fun r => beAt r 4 2 + beAt r 6 2)).foldl (· + ·) 0
    let ops : Rat := (strRecs s).foldl (fun a r =>
      let c := byteAt r 21
      a + (1000000 : Rat) / ((strNom r : Nat) : Rat) *
        (((s.get (Fl.FIR_CH_CFG_TAPS_A c) + s.get (Fl.FIR_CH_CFG_TAPS_B c) : Nat)) : Rat)) 0
    (s.put Fl.FIR_POOL_USED used).put Fl.FIR_POOL_LOAD (ops * 1024 / 150000000).floor.toNat

end State

end Sys2Proof.Machine
end

