-- ==== Sys2Proof/Machine/GnssOps.lean ====
section
/-! DEFINITION. Machine/GnssOps.lean: the satellite navigation baseband (R105 to R138): channels, epochs and their checks,
heading, corrections, notches, holdover and retention. -/

namespace Sys2Proof.Machine

/-- The epochs of a PVT second. -/
def epochsPerS : Nat := 10

/-- The body-frame vector rotated to the level by roll and pitch: Ry(θ) Rx(φ) v (R142, R122). -/
def levelled (phi theta : Rat) (v : Rat × Rat × Rat) : Rat × Rat × Rat :=
  let y := cosQ phi * v.2.1 - sinQ phi * v.2.2
  let z := sinQ phi * v.2.1 + cosQ phi * v.2.2
  (cosQ theta * v.1 + sinQ theta * z, y, -(sinQ theta) * v.1 + cosQ theta * z)

/-- An earth-frame vector in the body frame: Rx(−φ) Ry(−θ) Rz(−ψ) v (R123). -/
def toBodyFrame (phi theta psi : Rat) (v : Rat × Rat × Rat) : Rat × Rat × Rat :=
  let x := cosQ psi * v.1 + sinQ psi * v.2.1
  let y := -(sinQ psi) * v.1 + cosQ psi * v.2.1
  let x2 := cosQ theta * x - sinQ theta * v.2.2
  let z := sinQ theta * x + cosQ theta * v.2.2
  (x2, cosQ phi * y + sinQ phi * z, -(sinQ phi) * y + cosQ phi * z)

/-- WGS 84 radii of curvature at a latitude in radians, in metres: meridian and prime vertical (R143). -/
def wgsRadii (lat : Rat) : Rat × Rat :=
  let a : Rat := 6378137
  let f : Rat := 1000000000 / 298257223563
  let e2 := f * (2 - f)
  let s := sinQ lat
  let w := sqrtQ (1 - e2 * s * s)
  (a * (1 - e2) / (w * w * w), a / w)

namespace State

/-- A channel's exclusion. -/
def gnsCh (s : State) (k : Nat) : GnsCh := aGetD s.gns.ch k {}
/-- A channel's state: 0 IDLE, 1 ACQUIRING, 2 SCALAR, 3 VECTOR. -/
def chState (s : State) (k : Nat) : Nat := s.get (Fl.GNS_CH_STATUS_STATE k)
/-- A channel is in track. -/
def chTracks (s : State) (k : Nat) : Bool := decide (2 ≤ s.chState k)
/-- The identity of a channel's satellite. -/
def chSat (s : State) (k : Nat) : Nat × Nat := (s.get (Fl.GNS_CH_STATUS_SYS k), s.get (Fl.GNS_CH_STATUS_SVID k))

/-- Delivery is barred (R108, R128). -/
def gnssBarred (s : State) : Bool :=
  s.is Fl.GNS_STATUS_GCLK_UNLOCK || s.is Fl.GNS_STATUS_GCLK_LOST || s.is Fl.GNS_STATUS_INTEGRITY

/-- The baseband's mode, and with it every channel in track (R117, R118). -/
def setGnssMode (s : State) (m : Nat) : State :=
  (s.put Fl.GNS_STATUS_MODE m).each (List.range 192) (fun s k =>
    if s.chTracks k then s.put (Fl.GNS_CH_STATUS_STATE k) (if m = 2 then 3 else 2) else s)

/-- The mode of channels in track. -/
def trackMode (s : State) : Nat := if s.get Fl.GNS_STATUS_MODE = 2 then 2 else 1

/-- ACQUIRING while no channel is in track. -/
def modePublish (s : State) : State :=
  if (List.range 192).any s.chTracks then (if s.get Fl.GNS_STATUS_MODE = 0 then s.put Fl.GNS_STATUS_MODE 1 else s)
  else s.put Fl.GNS_STATUS_MODE 0

/-- ACQUISITION_DONE (R114). -/
def acquired (s : State) (k : Nat) (a : Acq) : State :=
  if k < 192 ∧ s.chState k = 1 ∧ ¬ s.is Fl.GNS_STATUS_GCLK_LOST then
    ((s.put (Fl.GNS_CH_STATUS_STATE k) (if s.trackMode = 2 then 3 else 2)).put (Fl.GNS_CH_STATUS_CN0 k)
      (min 255 (a.cn0 / 100))).modePublish
  else s

/-- SIGNAL_LOST (R115). -/
def signalLost (s : State) (k : Nat) : State :=
  if k < 192 ∧ s.chTracks k then (s.put (Fl.GNS_CH_STATUS_STATE k) 1).modePublish else s

/-- GCLK_LOST (R108). -/
def gclkLost (s : State) : State :=
  ((s.each (List.range 192) (fun s k => s.put (Fl.GNS_CH_STATUS_STATE k) 0)).flag Fl.GNS_STATUS_GCLK_LOST true).modePublish

/-! ### Allocation and modes at boundaries -/

/-- Channels a satellite takes, as streams (R111). -/
def satStreams (v : SatView) : List Nat := if v.sys = 3 then [0] else if v.dual then [0, 1, 2, 3] else [0, 2]

/-- A satellite's constellation is enabled. -/
def sysOn (s : State) (sys : Nat) : Bool := (s.rd Reg.GNS_CTL).testBit sys

/-- Satellites that hold channels. -/
def satsHeld (s : State) : List (Nat × Nat) :=
  (((List.range 192).filter (fun k => s.chState k != 0)).map s.chSat).eraseDups

/-- The channels of a satellite. -/
def satChannels (s : State) (x : Nat × Nat) : List Nat :=
  (List.range 192).filter (fun k => s.chState k != 0 && s.chSat k == x)

/-- One candidate takes free channels if enough are free and fewer than 48 satellites are in track (R112). -/
def allocSat (s : State) (v : SatView) : State :=
  let free := (List.range 192).filter (fun k => s.chState k == 0 && !s.gns.dead.contains k)
  let st := satStreams v
  let held := s.satsHeld
  if held.contains (v.sys, v.svid) || decide (free.length < st.length) || decide (48 ≤ held.length) ||
      (v.sys == 3 && decide (2 ≤ (held.filter (fun x => x.1 == 3)).length)) then s
  else s.each (free.zip st) (fun s (k, i) =>
    ({ s with gns := { s.gns with ch := aSet s.gns.ch k {} } } : State).wr (Reg.GNS_CH_STATUS k)
      (2 ^ 19 + i * 2 ^ 17 + v.sys % 8 * 2 ^ 14 + v.svid % 256))

/-- Candidates in descending order of elevation. -/
def byElevation (l : List SatView) : List SatView := sortBy (fun a b => decide (b.elev < a.elev)) l

/-- A channel retired with no spare left (R113, R442). -/
def retireChannel (s : State) (k : Nat) : State :=
  ({ s.wr (Reg.GNS_CH_STATUS k) 0 with gns := { s.gns with dead := s.gns.dead ++ [k] } } : State).put Fl.GNS_VERGE_RETIRED
    (min 255 (s.get Fl.GNS_VERGE_RETIRED + 1))

/-- GNSS_CHANNEL_ALLOCATION (R112) and the start of handovers (R113), at a stage boundary. -/
def gnssStage (s : State) (view : List SatView) : State :=
  if !s.isOpen 10 then s else
    let mask := s.rd Reg.GNS_MASK % 32 * 100
    let s : State := { s with gns := { s.gns with sick := (view.filter (fun v => !v.healthy)).map (fun v => (v.sys, v.svid)) } }
    let keep (x : Nat × Nat) : Bool := view.any (fun v => v.sys == x.1 && v.svid == x.2 && decide (mask ≤ v.elev + 100))
    let s := s.each (s.satsHeld.filter (fun x => !keep x)) (fun s x =>
      s.each (s.satChannels x) (fun s k => s.wr (Reg.GNS_CH_STATUS k) 0))
    let cand := byElevation (view.filter (fun v => s.sysOn v.sys && decide (mask ≤ v.elev)))
    let s := (if s.is Fl.GNS_STATUS_GCLK_LOST then s else s.each cand allocSat).modePublish
    s.each s.hlt.chansDue (fun s k =>
      let s : State := { s with hlt := { s.hlt with chansDue := s.hlt.chansDue.filter (· != k) } }
      if s.get Fl.GNS_VERGE_SPARES_FREE = 0 then (if s.gns.dead.contains k then s else s.retireChannel k)
      else
        let n := s.get Fl.GNS_VERGE_SPARES_FREE - 1
        ({ (s.put Fl.GNS_VERGE_SPARES_FREE n).put Fl.HLT_SPARES_CHANNELS n with
            gns := { s.gns with handover := s.gns.handover ++ [(k, 0)] } } : State))

/-- GNSS_CHANNEL_HANDOVER at a leg boundary: the phases agree and the handover leaves no mark, or ten legs have passed and the
carrier phase is marked as a cycle slip (R113). The channel's monitor is the spare's from now on. -/
def gnssHandover (s : State) (agree : List Nat) : State :=
  s.each s.gns.handover (fun s (k, n) =>
    let others := s.gns.handover.filter (fun e => e.1 != k)
    if agree.contains k || decide (10 ≤ n + 1) then
      ({ s with gns := { s.gns with handover := others, slipped := if agree.contains k then s.gns.slipped else k :: s.gns.slipped }
                hlt := { s.hlt with mons := aDel s.hlt.mons (66 + k) } } : State).logEv Ev.VERGE_CHANNEL (k % 256)
        (d8 (15 - s.get Fl.GNS_VERGE_SPARES_FREE))
    else { s with gns := { s.gns with handover := others ++ [(k, n + 1)] } })

/-- GCLK_CHECK at a leg boundary: the departure in 0.01 ppm, none without GCLK (R108). -/
def gclkCheck (s : State) (dep : Option Int) : State :=
  match dep with
  | none => s.gclkLost
  | some d =>
    let ok := decide (d.natAbs ≤ 10)
    let s := s.flag Fl.GNS_STATUS_GCLK_LOST false
    let s := if !ok then s.flag Fl.GNS_STATUS_GCLK_UNLOCK true
      else if s.gns.gclkGood then s.flag Fl.GNS_STATUS_GCLK_UNLOCK false else s
    { s with gns := { s.gns with gclkGood := ok } }

/-- The conditions of VECTOR mode (R117). -/
def vectorOk (s : State) : Bool :=
  s.is Fl.GNS_CTL_VECTOR_EN && s.get (Fl.FUS_TRK_STATUS_STATE 0) == 1 && s.cyc.obsMet &&
    decide (s.get Fl.FUS_DETOUR_LEVEL ≤ 1) && decide (5 ≤ s.get Fl.GNS_STATUS_SATS_USED) && !s.is Fl.GNS_STATUS_INTEGRITY

/-- GNSS_MODE_CHANGE at a leg boundary (R117). -/
def gnssMode (s : State) : State :=
  let n := if s.vectorOk then s.gns.vecRun + 1 else 0
  let s : State := { s with gns := { s.gns with vecRun := min n 10 } }
  if s.get Fl.GNS_STATUS_MODE = 2 ∧ n = 0 then s.setGnssMode 1
  else if s.get Fl.GNS_STATUS_MODE = 1 ∧ 10 ≤ n then s.setGnssMode 2
  else s

/-- A channel's signal is used: in track, not excluded, its satellite not marked unhealthy (R112, R127). -/
def sigUsed (s : State) (k : Nat) : Bool :=
  decide (k < 192) && s.chTracks k && !(s.gnsCh k).out && !s.gns.sick.contains (s.chSat k)

/-- The leg output of VECTOR mode (R118): for each used signal a pseudorange and a range-rate innovation with variances from
its C/N0, in m² and (m/s)² as free values, stamped at the middle of the leg. -/
def vectorOutput (s : State) (vec : List VecSig) (legMs : Nat) : State :=
  if s.get Fl.GNS_STATUS_MODE = 2 && !s.gnssBarred && s.isOpen 9 then
    let one (v : VecSig) : FusSample :=
      ⟨66, [v.rho, v.rate, v.ln, v.le, v.ld, (Config.vecVar 0 v.cn0 : Nat), (Config.vecVar 1 v.cn0 : Nat)], s.clk - legMs * 500000, {}, false⟩
    { s with fus := { s.fus with inbox := s.fus.inbox ++ (vec.filter (fun v => s.sigUsed v.ch)).map one } }
  else s

/-- The baseband at a leg boundary. -/
def gnssLeg (s : State) (dep : Option Int) (agree : List Nat) (vec : List VecSig) (legMs : Nat) : State :=
  if !s.isOpen 10 then s else (((s.gclkCheck dep).gnssHandover agree).vectorOutput vec legMs).gnssMode

/-! ### Checks (R127 to R129) -/

/-- The image's C/N0 profile of a stream at an elevation, in 0.01 dB-Hz, linear between its 10° steps. -/
def cn0Profile (s : State) (stream elev : Nat) : Rat :=
  let b := sectionOf s 11
  let i := min 8 (elev / 1000)
  let v (j : Nat) : Rat := ((byteAt b (16 + 10 * stream + j) * 100 : Nat) : Rat)
  v i + (v (i + 1) - v i) * (((elev - 1000 * i : Nat) : Nat) : Rat) / 1000

/-- The baseline's length in mm (R120). -/
def baseLen (s : State) : Rat :=
  let x := sInt (s.rd Reg.GNS_BASE_X)
  let y := sInt (s.rd Reg.GNS_BASE_Y)
  let z := sInt (s.rd Reg.GNS_BASE_Z)
  sqrtQ ((x * x + y * y + z * z : Int) : Rat)

/-- Which signals a check other than the residual fails: 2 BAND, 3 ANT, 4 CN0, 5 DOP, none. -/
def sigFails (s : State) (dopOn : Bool) (all : List GnsSig) (g : GnsSig) : Option Nat :=
  let strm := s.get (Fl.GNS_CH_STATUS_STREAM g.ch)
  let sat := s.chSat g.ch
  let mates (same : Bool) : List GnsSig := all.filter (fun h => s.chSat h.ch == sat &&
    (!same || s.get (Fl.GNS_CH_STATUS_STREAM h.ch) / 2 == strm / 2))
  let bandTh : Int := s.rd Reg.GNS_CHK_BAND % 65536
  if (mates true).any (fun h => h.band.any (fun d => decide (bandTh < (d.natAbs : Int)))) then some 2
  else if (mates false).any (fun h => h.ant.any (fun d =>
      decide (s.baseLen / 10 + ((s.rd Reg.GNS_CHK_ANT % 65536 : Nat) : Rat) < ((d.natAbs : Nat) : Rat)))) then some 3
  else if decide (s.cn0Profile strm g.elev + ((s.get Fl.GNS_CHK_CN0_EXCESS : Nat) : Rat) < ((g.cn0 : Nat) : Rat)) then some 4
  else if dopOn && decide (s.rd Reg.GNS_CHK_DOP % 65536 < g.dop.natAbs) then some 5
  else none

/-- The residual check of signals with their satellites: with six or more satellites used, at most three exclusions, then
whether more are needed (R127, R128). -/
def raim (th : Nat) (sat : Nat → Nat × Nat) : Nat → Nat → List GnsSig → List Nat → List Nat × Bool
  | 0, _, _, ex => (ex, false)
  | n + 1, k, used, ex =>
    let worst := used.foldl (fun (m : Option GnsSig) g => match m with
      | none => some g
      | some h => if h.resid.getD k 0 < g.resid.getD k 0 then some g else m) none
    match worst with
    | none => (ex, false)
    | some g =>
      if 6 ≤ ((used.map (fun g => sat g.ch)).eraseDups).length ∧ th < g.resid.getD k 0 then
        if n = 0 then (ex, true) else raim th sat n (k + 1) (used.filter (fun h => h.ch != g.ch)) (ex ++ [g.ch])
      else (ex, false)

/-- The C/N0 spread of a stream is below SPREAD_MIN (R127). -/
def spreadFails (s : State) (all : List GnsSig) (stream : Nat) : Bool :=
  let l := (all.filter (fun g => s.get (Fl.GNS_CH_STATUS_STREAM g.ch) == stream)).map (·.cn0)
  let n := l.length
  let sum := l.foldl (· + ·) 0
  let sq := l.foldl (fun a x => a + x * x) 0
  let m := s.get Fl.GNS_CHK_CN0_SPREAD_MIN
  decide (6 ≤ n) && decide (n * sq - sum * sum < n * n * m * m)

/-- A channel's exclusion after an epoch with a check failed or none (R127). -/
def exclude (s : State) (k : Nat) (f : Option Nat) : State :=
  let x := s.gnsCh k
  match f with
  | some c => ({ s with gns := { s.gns with ch := aSet s.gns.ch k ⟨true, 0⟩ } } : State).put (Fl.GNS_CH_STATUS_EXCL k) c
  | none =>
    if x.out then { s with gns := { s.gns with ch := aSet s.gns.ch k ⟨decide (x.pass + 1 < 30), x.pass + 1⟩ } } else s

/-- GNSS_INTEGRITY raised or lowered by an epoch's causes, as bits of its register (R128, R129). -/
def integrity (s : State) (causes : Nat) : State :=
  if causes != 0 then
    let was := s.is Fl.GNS_STATUS_INTEGRITY
    let s : State := { s.wr Reg.GNS_INTEGRITY (s.rd Reg.GNS_INTEGRITY ||| causes) with gns := { s.gns with clean := 0 } }
    let s := s.flag Fl.GNS_STATUS_INTEGRITY true
    if was then s else ((s.setGnssMode (if s.get Fl.GNS_STATUS_MODE = 0 then 0 else 1)).logEv Ev.INTEGRITY_RAISED causes).irq 4
  else if s.is Fl.GNS_STATUS_INTEGRITY then
    let n := s.gns.clean + 1
    let s : State := { s with gns := { s.gns with clean := n } }
    if n < epochsPerS * (s.rd Reg.GNS_CHK_CLEAR % 256) then s
    else (({ s with gns := { s.gns with clean := 0 } } : State).flag Fl.GNS_STATUS_INTEGRITY false).logEv Ev.INTEGRITY_LOWERED
  else s

/-- The checks of an epoch: exclusions and integrity (R127 to R129); answers the clock check's failure. -/
def gnssChecks (s : State) (e : PvtIn) : Bool × State :=
  let sigs := e.sigs.filter (fun g => decide (g.ch < 192) && s.chTracks g.ch)
  let dopOn := s.cyc.obsMet && decide (s.get Fl.FUS_DETOUR_LEVEL ≤ 2)
  let fails := sigs.map (fun g => (g.ch, s.sigFails dopOn sigs g))
  let used := sigs.filter (fun g => s.sigUsed g.ch && (aGetD fails g.ch none).isNone)
  let th := s.rd Reg.GNS_CHK_RAIM % 65536
  let (ex, ovr) := raim th s.chSat 4 0 used []
  let rest (g : GnsSig) : Option Nat :=
    match aGetD fails g.ch none with
    | some c => some c
    | none => if ex.contains g.ch || ((s.gnsCh g.ch).out && decide (th < g.resid.headD 0)) then some 1 else none
  let s := s.each sigs (fun s g => (s.exclude g.ch (rest g)).put (Fl.GNS_CH_STATUS_CN0 g.ch) (min 255 (g.cn0 / 100)))
  let outs (c : Nat) : Nat := ((List.range 192).filter (fun k => (s.gnsCh k).out && s.get (Fl.GNS_CH_STATUS_EXCL k) == c)).length
  let clk := decide (s.rd Reg.GNS_CHK_CLK % 65536 < e.clkDep.natAbs)
  let b (c : Bool) (k : Nat) : Nat := if c then 2 ^ k else 0
  let causes := b (decide (4 ≤ outs 1)) 0 + b (decide (4 ≤ outs 2)) 1 + b (decide (4 ≤ outs 3)) 2 + b clk 3 +
    b (decide (4 ≤ outs 4) || (List.range 4).any (s.spreadFails sigs)) 4 + b (decide (4 ≤ outs 5)) 5 + b ovr 6
  (clk, s.integrity causes)

/-! ### Solutions (R116, R120 to R126) -/

/-- Milliseconds of the GPS week of the local clock: TAI is 19 s ahead of GPS time. -/
def weekMs (s : State) (lead : Nat) : Nat := (s.ms + 604800000 * 4 - lead * 1000) % 604800000

/-- The age of the base observations in ms; none without any (R126). -/
def baseAge (s : State) : Option Nat := s.gns.baseAt.map (fun t => (s.weekMs 19 + 604800000 - t) % 604800000)

/-- That age as its register fields show it, in s (255 none). -/
def baseAgeShown (s : State) : Nat := match s.baseAge with | some a => min (a / 1000) 254 | none => 255

/-- The fix type of an epoch with a solution (R116, R126): SBAS where its corrections were applied and no RTK solution is
available. -/
def fixType (s : State) (e : PvtIn) (p : PvtSol) : Nat × State :=
  let fresh := s.baseAge.any (fun a => decide (a ≤ s.rd Reg.GNS_RTCM_CFG % 64 * 1000)) && s.gns.base.isSome
  if fresh then
    let fixed := !s.gns.rtkRestart && (match e.rtkRatio with | some r => decide (30 ≤ r) | none => s.gns.rtkFixed)
    (if fixed then 4 else 3, { s with gns := { s.gns with rtkFixed := fixed, rtkRestart := false } })
  else (if s.is Fl.GNS_CTL_SBAS_CORR && s.sysOn 3 && p.sbas then 2 else 1, { s with gns := { s.gns with rtkFixed := false } })

/-- The PVT registers (R116). -/
def pvtPublish (s : State) (p : PvtSol) : State :=
  ((((s.wr Reg.GNS_PVT_LAT p.lat.toNat).wr Reg.GNS_PVT_LON p.lon.toNat).wr Reg.GNS_PVT_HGT (uInt p.hgt)).put
    Fl.GNS_PVT_Q_HDOP (min 65535 p.hdop)).put Fl.GNS_PVT_Q_AGE s.baseAgeShown

/-- A sample of the internal GNSS reference or of the dual-antenna heading handed to fusion. -/
def gnssSample (s : State) (dest : Nat) (v : List Int) (att : Att) : State :=
  if s.isOpen 9 then { s with fus := { s.fus with inbox := s.fus.inbox ++ [⟨dest, v, s.clk, att, false⟩] } } else s

/-- The dual-antenna heading of an epoch (R121 to R123): with a configured baseline outside the lengths of R120 it is never
VALID (DEDUCED, log entry 82). While delivery is barred the registers follow the epochs all the same (log entry 83). -/
def headingEpoch (s : State) (e : PvtIn) : State :=
  let marked := ((s.gns.slipped.map s.chSat).eraseDups).length
  let slipped := decide (0 < e.common) && decide (e.common ≤ 2 * (e.slips + marked))
  let s : State := { s with gns := { s.gns with slipped := [] } }
  let fixed := match e.hdgRatio with | some r => decide (30 ≤ r) | none => s.gns.hdgFixed && !slipped
  let s : State := { s with gns := { s.gns with hdgFixed := fixed } }
  let n : Rat := (e.baseN : Rat)
  let ea : Rat := (e.baseE : Rat)
  let d : Rat := (e.baseD : Rat)
  let len := sqrtQ (n * n + ea * ea + d * d)
  let cal := s.is Fl.GNS_CTL_HDG_CAL
  let good := fixed && decide (5 ≤ e.common) &&
    (cal || (decide (500 ≤ s.baseLen) && decide (s.baseLen ≤ 50000))) && (cal || decide (absQ (len - s.baseLen) ≤ ((s.rd Reg.GNS_BASE_TOL % 65536 : Nat) : Rat)))
  let phi := angQ (s.rd Reg.FUS_ATT_ROLL)
  let theta := angQ (s.rd Reg.FUS_ATT_PITCH)
  let s := ((s.flag Fl.GNS_HDG_Q_VALID (good && !cal)).put Fl.GNS_HDG_Q_SATS (min 255 e.common)).put Fl.GNS_HDG_Q_SIGMA
    (min 65535 e.hdgSigma)
  if cal then
    if !good || s.is Fl.GNS_STATUS_HDG_CAL_DONE then s else
      let b := toBodyFrame phi theta (angQ (s.rd Reg.FUS_EST_HDG)) (n, ea, d)
      let c := s.gns.calSum
      let sum := (c.1 + rnd (b.1 * 1000), c.2.1 + rnd (b.2.1 * 1000), c.2.2 + rnd (b.2.2 * 1000))
      let k := s.gns.calN + 1
      let s : State := { s with gns := { s.gns with calN := k, calSum := sum } }
      if k < 600 * epochsPerS then s else
        let m (v : Int) : Nat := uInt (divRound v (k * 1000))
        (((s.wr (Reg.GNS_BASE_MEAS 0) (m sum.1)).wr (Reg.GNS_BASE_MEAS 1) (m sum.2.1)).wr (Reg.GNS_BASE_MEAS 2)
          (m sum.2.2)).flag Fl.GNS_STATUS_HDG_CAL_DONE true
  else if !good then s
  else
    let h := levelled phi theta ((sInt (s.rd Reg.GNS_BASE_X) : Rat), (sInt (s.rd Reg.GNS_BASE_Y) : Rat),
      (sInt (s.rd Reg.GNS_BASE_Z) : Rat))
    let psi := toAng (wrapPi (atan2Q ea n - atan2Q h.2.1 h.1))
    let s := s.wr Reg.GNS_HDG psi
    if s.is Fl.GNS_CTL_HDG_EN && !s.gnssBarred then s.gnssSample 65 [(psi : Int), (e.hdgSigma : Int), (e.common : Int)] {} else s

/-- One time offset of the baseband, or an epoch without one (R132, R133, R135). -/
def gnssTime (s : State) (off : Option Int) : State :=
  if !s.isOpen 11 then s
  else match off with
  | none => ((s.timLost 1).put ⟨Reg.GNS_TIME_RET, 3, 0⟩ 0)
  | some o =>
    let before := (s.timSrc 1).run
    let enters := s.tim.entering || s.get Fl.TIM_STATUS_SOURCE != 1
    let s := s.timOffset 1 o
    let s := s.put ⟨Reg.GNS_TIME_RET, 3, 0⟩ (min 10 (before + 1))
    if s.get Fl.TIM_STATUS_SOURCE = 1 && enters then
      s.wr Reg.GNS_TIME_OFFSET (uInt (sat32 o))
    else s

/-- Navigation data decoded since the last epoch are held (R137). -/
def navTake (s : State) (e : PvtIn) : State :=
  let put (l : List (Nat × List Nat)) (x : List (Nat × (Nat × List Nat))) : List (Nat × List Nat) :=
    x.foldl (fun l y => aSet l (y.1 * 1024 + y.2.1) y.2.2) l
  let n := s.gns.nav
  { s with gns := { s.gns with nav := { n with
      eph := put n.eph e.ephs, alm := put n.alm e.alms, iono := if e.iono.isEmpty then n.iono else e.iono } } }

/-- The solution is held (R137); the first one after a HOT start that lies more than 10 km from the retained position makes the
start COLD (R114). -/
def solTake (s : State) (p : PvtSol) : State :=
  let n := s.gns.nav
  let far := match n.pos with
    | none => true
    | some (lat, lon, _) =>
      let (m, v) := wgsRadii (angQ lat)
      let y := angQ (uInt (sInt p.lat.toNat - sInt lat)) * m
      let x := angQ (uInt (sInt p.lon.toNat - sInt lon)) * v * cosQ (angQ lat)
      decide (10000 * 10000 < x * x + y * y)
  let s := s.when (s.gns.retCheck && far) (fun s => s.put Fl.GNS_STATUS_START 2)
  { s with gns := { s.gns with
      retCheck := false, sdev := (p.sn, p.se)
      nav := { n with pos := some (p.lat.toNat, p.lon.toNat, p.hgt), vel := [p.vn, p.ve, p.vd], bias := p.bias, drift := p.drift } } }

/-- PVT_EPOCH (R116, R118, R121, R127, R132). While R108 or R128 bars delivery the registers follow the epochs all the same, and
only samples and time offsets are withheld (DESIGN CHOICE, log entry 83). -/
def pvtEpoch (s : State) (e : PvtIn) : State :=
  let (clkBad, s) := (s.navTake e).gnssChecks e
  let good := e.sigs.filter (fun g => s.sigUsed g.ch)
  let sats := ((good.map (fun g => s.chSat g.ch)).eraseDups).length
  let s := s.put Fl.GNS_STATUS_SATS_USED (min 48 sats)
  let s := s.put Fl.GNS_RTCM_STATUS_AGE s.baseAgeShown
  let s := match e.sol with
    | none => s.put Fl.GNS_STATUS_FIX 0
    | some p =>
      let (f, s) := s.fixType e p
      let s := ((s.put Fl.GNS_STATUS_FIX f).pvtPublish p).solTake p
      if (s.get Fl.GNS_STATUS_MODE == 1 || f == 4) && !s.gnssBarred then
        s.gnssSample 64 [sInt p.lat.toNat, (p.lon.toNat : Int), p.vn, p.ve] { gst := some (p.sn, p.se) }
      else s
  let s := s.headingEpoch e
  let time := decide (2 ≤ sats) && !s.gnssBarred && !clkBad
  let s := if time then (match e.utc with
    | some (u, l) => if s.isOpen 11 && s.get Fl.TIM_STATUS_SOURCE == 1 then s.timUtc 1 u l else s
    | none => s) else s
  s.gnssTime (if time then some e.offset else none)

/-! ### Corrections (R124 to R126) -/

/-- Bits [off, off + n) of a byte string, first bit most significant. -/
def bitsAt (bs : Bytes) (off n : Nat) : Nat := beNat bs / 2 ^ (8 * bs.length - off - n) % 2 ^ n

/-- A byte reaches the FIFO, which the decoder empties at a rate the spec does not give (log entry 34); a byte that
meets a full one is discarded and counted. -/
def rtcmByte (s : State) (b : Nat) : State :=
  let (k, s) := s.draw
  let n := k % (s.gns.fifo.length + 1)
  let f := s.gns.fifo.drop n
  let s : State := { s with gns := { s.gns with dec := s.gns.dec ++ s.gns.fifo.take n, fifo := f } }
  if 256 ≤ f.length then s.count Reg.GNS_RTCM_IGNORED else { s with gns := { s.gns with fifo := f ++ [b] } }

/-- Bytes of the ring's stream (R124, R310). -/
def rtcmRing (s : State) (bs : List Nat) : State :=
  if !s.isOpen 10 then s
  else s.each bs (fun s b => if s.get Fl.GNS_CTL_RTK_SRC = 2 then s.rtcmByte b else s.count Reg.GNS_RTCM_IGNORED)

/-- A new base position: a change of station or a move of more than 0.10 m restarts at RTK_FLOAT (R126). -/
def setBase (s : State) (st : Nat) (x y z : Int) : State :=
  let far := match s.gns.base with
    | none => false
    | some (q, a, b, c) => q != st || decide ((x - a) ^ 2 + (y - b) ^ 2 + (z - c) ^ 2 > 1000 * 1000)
  ({ s with gns := { s.gns with base := some (st, x, y, z), rtkFixed := s.gns.rtkFixed && !far
                                rtkRestart := s.gns.rtkRestart || far } } : State).put Fl.GNS_RTCM_STATUS_STATION st

/-- The base's observation epoch: a change of station restarts at RTK_FLOAT (R126). -/
def setBaseEpoch (s : State) (st tow : Nat) : State :=
  let far := match s.gns.base with | some (q, _) => q != st | none => false
  { s with gns := { s.gns with baseAt := some tow, rtkFixed := s.gns.rtkFixed && !far, rtkRestart := s.gns.rtkRestart || far } }

/-- A message's use by type (R125). -/
def rtcmUse (s : State) (m : Bytes) : State :=
  let ty := bitsAt m 0 12
  let st := bitsAt m 12 12
  if ty = 1005 ∨ ty = 1006 then s.setBase st (sBits 38 (bitsAt m 34 38)) (sBits 38 (bitsAt m 74 38)) (sBits 38 (bitsAt m 114 38))
  else if [1074, 1075, 1077, 1094, 1095, 1097].contains ty then s.setBaseEpoch st (bitsAt m 24 30)
  else if [1124, 1125, 1127].contains ty then s.setBaseEpoch st ((bitsAt m 24 30 + 14000) % 604800000)
  else if [1019, 1042, 1045, 1046].contains ty then { s with gns := { s.gns with aid := aSet s.gns.aid (ty * 256 + bitsAt m 12 6) m } }
  else s.count Reg.GNS_RTCM_IGNORED

/-- The decoder's search (R124): a frame is preamble, six reserved bits, a 10-bit length, the message and a CRC; after a CRC
that fails the search resumes at the byte after its preamble. `fuel` is the number of bytes. -/
def rtcmSearch : Nat → Bytes → State → State
  | 0, l, s => { s with gns := { s.gns with dec := l } }
  | fuel + 1, l, s =>
    match l with
    | [] => { s with gns := { s.gns with dec := [] } }
    | b :: r =>
      if b ≠ 0xD3 then rtcmSearch fuel r s
      else
        let n := beAt l 1 2 % 1024
        if l.length < 3 ∨ l.length < n + 6 then { s with gns := { s.gns with dec := l } }
        else if crc24q (l.take (n + 3)) ≠ beAt l (n + 3) 3 then rtcmSearch fuel r (s.count Reg.GNS_RTCM_ERR)
        else rtcmSearch fuel (l.drop (n + 6)) (s.rtcmUse ((l.drop 3).take n))

/-- `a` stands somewhere in `b`. -/
def standsIn (a b : Bytes) : Bool := (List.range (b.length + 1 - a.length)).any (fun i => (b.drop i).take a.length == a)

/-- RTCM_FRAME_RECEIVED (R124, R125): the decoder has the bytes that the selected source brought, those of the frame among
them (log entry 34). -/
def rtcmFrame (s : State) (f : Bytes) : State :=
  if s.get Fl.GNS_CTL_RTK_SRC = 0 then s
  else
    let l := s.gns.dec ++ s.gns.fifo
    let l := if standsIn f l then l else l ++ f
    rtcmSearch (l.length + 1) l { s with gns := { s.gns with fifo := [], dec := [] } }

/-! ### Notches (R130) -/

/-- A notch's signed frequency. -/
def notchFreq (s : State) (i j : Nat) : Int := sBits 16 (s.get (Fl.GNS_NOTCH_STATUS_FREQ (2 * i + j)))
/-- A notch is engaged. -/
def notchOn (s : State) (i j : Nat) : Bool := s.is (Fl.GNS_NOTCH_STATUS_ACTIVE (2 * i + j))
/-- A notch's register. -/
def setNotch (s : State) (i j : Nat) (on : Bool) (jnr : Nat) (f : Int) : State :=
  s.wr (Reg.GNS_NOTCH_STATUS (2 * i + j)) ((if on then 2 ^ 31 else 0) + min 127 jnr * 2 ^ 24 + (f % 65536).toNat)

/-- One notch follows its line, waits, or releases. -/
def notchFollow (s : State) (i j : Nat) (lines : List SpecLine) : State :=
  if !s.notchOn i j then s else
    let f := s.notchFreq i j
    let th := s.get Fl.GNS_NOTCH_CFG_TH
    let near := lines.foldl (fun (m : Option SpecLine) l => match m with
      | none => if (l.freq - f).natAbs ≤ 10 then some l else none
      | some h => if (l.freq - f).natAbs < (h.freq - f).natAbs then some l else m) none
    let quiet := aGetD s.gns.quiet (2 * i + j) 0
    match near with
    | some l =>
      let q := if l.level + 3 < th then quiet + 1 else 0
      let s := ({ s with gns := { s.gns with quiet := aSet s.gns.quiet (2 * i + j) q } } : State).setNotch i j true l.level l.freq
      if 100 ≤ q then (s.setNotch i j false 0 0).logEv Ev.NOTCH_RELEASED i (d8 j) else s
    | none =>
      let s : State := { s with gns := { s.gns with quiet := aSet s.gns.quiet (2 * i + j) (quiet + 1) } }
      if 100 ≤ quiet + 1 then (s.setNotch i j false 0 0).logEv Ev.NOTCH_RELEASED i (d8 j) else s

/-- A notch releases, and the release is logged (R130). -/
def notchRelease (s : State) (i j : Nat) : State :=
  if s.notchOn i j then (s.setNotch i j false 0 0).logEv Ev.NOTCH_RELEASED i (d8 j) else s.setNotch i j false 0 0

/-- A line above threshold without a notch engages a free one; of more than two, the two strongest are notched. -/
def notchEngage (s : State) (i : Nat) (lines : List SpecLine) : State :=
  let th := s.get Fl.GNS_NOTCH_CFG_TH
  let strong := (sortBy (fun a b => decide (b.level < a.level)) (lines.filter (fun l => decide (th < l.level)))).take 2
  s.each strong (fun s l =>
    if (List.range 2).any (fun j => s.notchOn i j && s.notchFreq i j == l.freq) then s
    else
      let weak (j : Nat) : Bool := !s.notchOn i j || !strong.any (fun m => m.freq == s.notchFreq i j)
      match ((List.range 2).find? (fun j => !s.notchOn i j)).or
          (if 2 < (lines.filter (fun l => decide (th < l.level))).length then (List.range 2).find? weak else none) with
      | none => s
      | some j =>
        let s := s.notchRelease i j
        (({ s with gns := { s.gns with quiet := aSet s.gns.quiet (2 * i + j) 0 } } : State).setNotch i j true l.level l.freq).logEv
          Ev.NOTCH_ENGAGED i (d8 j))

/-- NOTCH_SPECTRUM_UPDATE (R130). -/
def notchUpdate (s : State) (lines : List SpecLine) : State :=
  let th := s.get Fl.GNS_NOTCH_CFG_TH
  let s := s.each (List.range 4) (fun s i =>
    let l := lines.filter (fun x => x.stream == i)
    if (s.get Fl.GNS_NOTCH_CFG_EN).testBit i then ((s.notchFollow i 0 l).notchFollow i 1 l).notchEngage i l
    else (s.notchRelease i 0).notchRelease i 1)
  s.flag Fl.GNS_STATUS_NOTCH_FULL ((List.range 4).any (fun i => (s.get Fl.GNS_NOTCH_CFG_EN).testBit i &&
    decide (2 < (lines.filter (fun x => x.stream == i && decide (th < x.level))).length)))

/-! ### Holdover, PPS, retention (R131, R133, R134, R136, R137) -/

/-- u(t) in ns, rounded up, t in ns of real time (R133). -/
def holdU (s : State) : Nat :=
  let t : Rat := (((s.now - s.tim.holdAt : Nat) : Nat) : Rat) / 1000000000
  let f : Rat := ((s.rd Reg.GNS_HOLD_F : Nat) : Rat) / 1000
  let a : Rat := ((s.rd Reg.GNS_HOLD_A : Nat) : Rat) / 1000000
  (((s.rd Reg.GNS_HOLD_U0 : Nat) : Rat) + f * t + a * t * t / 2).ceil.toNat

/-- HOLD_U_UPDATE (R133), at a pace boundary. -/
def holdUpdate (s : State) : State :=
  s.wr Reg.GNS_HOLD_U (match s.get Fl.TIM_STATUS_QUALITY with | 2 | 3 => min 0xFFFFFFFF s.holdU | _ => 0)

/-- HOLDOVER_LIMIT (R134). -/
def holdLimit (s : State) : State :=
  if s.get Fl.TIM_STATUS_QUALITY = 2 ∧ s.tim.holdAt + s.rd Reg.GNS_HOLD_LIMIT % 65536 * 1000000000 ≤ s.now then
    ({ s with gns := { s.gns with timeHeld := false } } : State).put Fl.TIM_STATUS_QUALITY 3
  else s

/-- The local clock has reached a second boundary plus GNS_PPS_OFFSET (R131). -/
def ppsDue (s : State) : Bool :=
  let off := sBits 16 (s.rd Reg.GNS_PPS_OFFSET)
  decide ((((s.clk : Int) - off) % 1000000000) ≤ 4) && s.gns.ppsAt.all (fun a => decide (a + 8 < s.now))

/-- PPS_EDGE (R131, R134): an active edge of the schedule, on the 4 ns grid. -/
def ppsEdge (s : State) : State :=
  if !s.ppsDue then s else
  let q := s.get Fl.TIM_STATUS_QUALITY
  let held := s.is Fl.GNS_PPS_CTL_SUPPRESS_UNQUAL && (q == 3 || (s.gns.ppsHeld && q != 1))
  let s : State := { s with gns := { s.gns with ppsHeld := held } }
  if held || !s.is Fl.GNS_PPS_CTL_EN then s else { s with gns := { s.gns with ppsAt := some s.now } }

/-- The retention set is written (R136, R137). -/
def gnssRetain (s : State) : State :=
  let q := s.get Fl.TIM_STATUS_QUALITY
  { s with gns := { s.gns with
      retSram := some (s.now, s.gns.nav), retKeep := some (s.now, s.gns.nav.pos), timeHeld := q == 1 || q == 2 } }

/-- The keep-alive domain's 32.768 kHz count since the park (R137). -/
def retCount (s : State) : Option Nat := s.gns.retKeep.map (fun r => (s.now - r.1) * 32768 / 1000000000)

/-- The retained data that a start finds: both parts where they survive and agree on the park time (R137). -/
def retained (s : State) : Option (Nat × GnsNav) :=
  match s.gns.retSram, s.gns.retKeep with
  | some (a, n), some (b, _) => if a = b then some (a, n) else none
  | _, _ => none

/-- The kind of start at an opening: HOT with valid retained data at most 4 h old, ephemerides of six satellites, and a
timebase disciplined throughout (R114); the retained position is judged by the first solution. With only the keep-alive part
left, its position still narrows the search. -/
def gnssStart (s : State) : State :=
  let g := s.gns
  let q := s.get Fl.TIM_STATUS_QUALITY
  let ret := s.retained
  let hot := ret.any (fun r => decide (s.now ≤ r.1 + 14400000000000) && decide (6 ≤ r.2.eph.length)) && g.timeHeld &&
    (q == 1 || q == 2)
  let nav := match ret with | some r => r.2 | none => { pos := g.retKeep.bind (·.2) }
  let s : State := { s with gns := { s.gns with
    ch := [], vecRun := 0, clean := 0, gclkGood := false, hdgFixed := false, rtkFixed := false, calN := 0, calSum := (0, 0, 0)
    quiet := [], fifo := [], dec := [], handover := [], slipped := [], sick := [], nav := nav, retCheck := hot, fe := none } }
  let s := s.each (List.range 192) (fun s k => s.put (Fl.GNS_CH_STATUS_STATE k) 0)
  let s := s.each (List.range 8) (fun s j => s.setNotch (j / 2) (j % 2) false 0 0)
  ((s.put Fl.GNS_STATUS_START (if hot then 1 else 2)).put Fl.GNS_STATUS_MODE 0).put Fl.GNS_STATUS_FIX 0

/-- A change of the baseline registers discards every fixed ambiguity (R120). -/
def baseChanged (s : State) : State := { s with gns := { s.gns with hdgFixed := false, rtkFixed := false } }

/-- GNS_CTL applied: a calibration starts afresh when HDG_CAL rises (R123). -/
def applyGnsCtl (s : State) (w : Nat) : State :=
  let rise := !s.is Fl.GNS_CTL_HDG_CAL && w.testBit 10
  let s := s.wr Reg.GNS_CTL (w &&& Rw.GNS_CTL.mask)
  if rise then ({ s with gns := { s.gns with calN := 0, calSum := (0, 0, 0) } } : State).flag Fl.GNS_STATUS_HDG_CAL_DONE false
  else s

/-! ### Front-end wire (R109) -/

/-- FE_TRANSACTION: a write of GNS_FE_CMD; GO starts a transaction with the bits of GNS_FE_DATA. -/
def feCmd (s : State) (w : Nat) : State :=
  if s.is Fl.GNS_FE_CMD_GO then s
  else
    let s := s.wr Reg.GNS_FE_CMD (w &&& Rw.GNS_FE_CMD.mask)
    if s.is Fl.GNS_FE_CMD_GO then { s with gns := { s.gns with fe := some (s.now, s.rd Reg.GNS_FE_DATA) } } else s

/-- FE_TRANSACTION_DONE: after its STOP; the bits received are right-aligned in GNS_FE_DATA. -/
def feDone (s : State) (v : Nat) : State :=
  let ended := s.gns.fe.any (fun f => decide (f.1 + feHalves s * feHalf s ≤ s.now))
  if !(s.is Fl.GNS_FE_CMD_GO && ended) then s else
    let n := s.get Fl.GNS_FE_CMD_LEN_IN
    let s : State := { s with gns := { s.gns with fe := none } }
    (if n = 0 then s else s.wr Reg.GNS_FE_DATA (v % 2 ^ n)).flag Fl.GNS_FE_CMD_GO false

end State

end Sys2Proof.Machine
end

