-- ==== Sys2Proof/Machine/GraphTables.lean ====
section
/-! DEFINITION. Machine/GraphTables.lean: the tables of route graphs as the image holds them (R74 to R76, R361), the cost of every
catalogue block (R77), and the engines on which the loader placed the graphs (R73). -/

namespace Sys2Proof.Machine

/-- The graph tables of a ROUTE_GRAPHS section, at most `n` of them (R361, R74). -/
def graphTables : Nat → Bytes → List Bytes
  | 0, _ => []
  | n + 1, b =>
    let len := beAt b 28 4
    if b.length < 32 ∨ len < 32 then [] else b.take len :: graphTables n (b.drop len)

/-- The working configuration's graphs. -/
def graphsOf (s : State) : List Bytes := let b := sectionOf s 1; graphTables (beAt b 0 2) (b.drop 4)

def gId (g : Bytes) : Nat := beAt g 0 2
def gGroup (g : Bytes) : Nat := byteAt g 2
def gRate (g : Bytes) : Nat := byteAt g 4
def gStart (g : Bytes) : Nat := byteAt g 5
def gEnd (g : Bytes) : Nat := byteAt g 6
def gFlags (g : Bytes) : Nat := byteAt g 7
def gSigs (g : Bytes) : Nat := beAt g 8 2
def gInsts (g : Bytes) : Nat := beAt g 10 2

/-- A signal's record (R75): type, quantity and element count. -/
def sigType (g : Bytes) (k : Nat) : Nat := byteAt g (beAt g 16 4 + 4 * k)
def sigQty (g : Bytes) (k : Nat) : Nat := byteAt g (beAt g 16 4 + 4 * k + 1)
def sigCount (g : Bytes) (k : Nat) : Nat := beAt g (beAt g 16 4 + 4 * k + 2) 2

/-- An instance's record (R76). -/
def instAt (g : Bytes) (i : Nat) : Bytes := (g.drop (beAt g 20 4 + 24 * i)).take 24
/-- A parameter word of an instance. -/
def instParam (g inst : Bytes) (k : Nat) : Nat := beAt g (beAt g 24 4 + 4 * (beAt inst 4 4 + k)) 4
/-- Inputs and outputs in use. -/
def instIns (inst : Bytes) : List Nat := ((List.range 4).map (fun i => beAt inst (8 + 2 * i) 2)).filter (· != 0xFFFF)
def instOuts (inst : Bytes) : List Nat := ((List.range 2).map (fun i => beAt inst (16 + 2 * i) 2)).filter (· != 0xFFFF)

/-- The elements of an instance's input or output `i`; 0 where it is unused. -/
def inCount (g inst : Bytes) (i : Nat) : Nat := match (instIns inst)[i]? with | some k => sigCount g k | none => 0
def outCount (g inst : Bytes) (i : Nat) : Nat := match (instOuts inst)[i]? with | some k => sigCount g k | none => 0
/-- The type of an instance's input or output `i`. -/
def inType (g inst : Bytes) (i : Nat) : Nat := match (instIns inst)[i]? with | some k => sigType g k | none => 0
def outType (g inst : Bytes) (i : Nat) : Nat := match (instOuts inst)[i]? with | some k => sigType g k | none => 0

/-- ⌈log₂ n⌉. -/
def clog2 (n : Nat) : Nat := if n ≤ 1 then 0 else Nat.log2 (n - 1) + 1

/-- The cost of an instance (R77): `n` its first input's elements or, for blocks without an input, its output's; `s` the
observer's state count (R150); m of EKF_UPDATE its innovation's elements. SELECT's first input is `sel`, and its n is that of
a[n] (DEDUCED, log entry 71). -/
def instCost (s : Nat) (g inst : Bytes) : Nat :=
  let n := inCount g inst 0
  let o := outCount g inst 0
  let p := instParam g inst
  match byteAt inst 0 with
  | 0x01 => 4 + 2 * n
  | 0x02 => 4 + 2 * n
  | 0x03 => 4 + 3 * n
  | 0x04 => 4 + 4 * n
  | 0x05 => 6 + 6 * n
  | 0x06 => 6 + 5 * n
  | 0x07 => 8 + 2 * o * n
  | 0x08 => 40
  | 0x09 => 120
  | 0x0A => 16 + 4 * clog2 (p 0)
  | 0x0B => 4 + 10 * n
  | 0x0C => 4 + 2 * n
  | 0x0D => 4 + inCount g inst 1
  | 0x0E => 8
  | 0x0F => 2 + n
  | 0x10 => 2400
  | 0x11 => 200 + 40 * p 1 * p 1
  | 0x12 => 200 + 30 * s * s * n
  | 0x13 => 2000 + 60 * n
  | 0x14 => 1000 + 12 * n * o
  | 0x15 => 50 + 6 * n * n
  | 0x16 => 40 + 90 * o
  | 0x17 => 60
  | 0x18 => 30
  | 0x19 => 50
  | 0x1A => 40 + o
  | 0x1B => 40 + n
  | 0x1C => 30 + o
  | 0x1D => 20 + n
  | 0x1E => 30
  | _ => 0

/-- The cost of a run of a graph (R73). -/
def graphCost (s : Nat) (g : Bytes) : Nat := ((List.range (gInsts g)).map (fun i => instCost s g (instAt g i))).sum

namespace State

/-- The logical engine on which the loader placed a graph. -/
def engineOf (s : State) (g : Bytes) : Nat := aGetD s.ldr.graphsAt (gId g) (match gGroup g with
  | 0 => 0 | 1 => 4 | 2 => 6 | 3 => 8 | 4 => 10 | 5 => 12 | _ => 14)

end State

end Sys2Proof.Machine
end

