-- ==== Sys2Proof/Machine/Motion.lean ====
section
/-! DEFINITION. Machine/Motion.lean: vectors and matrices of binary32 numbers, and the motion model that the observer (R151)
and the horizon planner (R224) share: masses, damping, Coriolis terms, their derivatives, and the wind force of the image's
coefficients. A number that an engine or the solver stores is rounded to binary32 where it is stored (log entry 85). -/

namespace Sys2Proof.Machine

/-- A column of numbers. -/
abbrev Vec := List Rat
/-- A matrix as its rows. -/
abbrev Mat := List Vec

/-- A number as binary32 stores it (R11). -/
def r32 (q : Rat) : Rat := f32Q (toF32 q)

/-- A number as the binary32 word that stores it. -/
def w32 (q : Rat) : Word := BitVec.ofNat 32 (toF32 q)

/-- The sum of some numbers. -/
def sumQ (v : Vec) : Rat := v.foldl (· + ·) 0

/-- The inner product. -/
def vDot (a b : Vec) : Rat := sumQ (List.zipWith (· * ·) a b)
/-- The sum of two vectors. -/
def vAdd (a b : Vec) : Vec := List.zipWith (· + ·) a b
/-- The difference of two vectors. -/
def vSub (a b : Vec) : Vec := List.zipWith (· - ·) a b
/-- A multiple of a vector. -/
def vScale (k : Rat) (a : Vec) : Vec := a.map (k * ·)
/-- A vector of zeros. -/
def vZero (n : Nat) : Vec := List.replicate n 0
/-- The largest absolute value of some numbers. -/
def vMax (v : Vec) : Rat := v.foldl (fun m x => if m < absQ x then absQ x else m) 0

/-- The columns of a matrix of `n` columns, as rows. -/
def mT (n : Nat) (m : Mat) : Mat := (List.range n).map (fun j => m.map (fun r => r.getD j 0))
/-- A matrix times a vector. -/
def mVec (m : Mat) (v : Vec) : Vec := m.map (fun r => vDot r v)
/-- A matrix times a matrix of `n` columns. -/
def mMul (n : Nat) (a b : Mat) : Mat := let c := mT n b; a.map (fun r => c.map (vDot r))
/-- The sum of two matrices. -/
def mAdd (a b : Mat) : Mat := List.zipWith vAdd a b
/-- The difference of two matrices. -/
def mSub (a b : Mat) : Mat := List.zipWith vSub a b
/-- A multiple of a matrix. -/
def mScale (k : Rat) (a : Mat) : Mat := a.map (vScale k)
/-- A diagonal matrix. -/
def mDiag (d : Vec) : Mat :=
  (List.range d.length).map (fun i => (List.range d.length).map (fun j => if i = j then d.getD i 0 else 0))
/-- The unit matrix. -/
def mOne (n : Nat) : Mat := mDiag (List.replicate n 1)
/-- An element of a matrix. -/
def mAt (m : Mat) (i j : Nat) : Rat := (m.getD i []).getD j 0
/-- The inverse of a symmetric matrix of one or two rows; zero where it has none. -/
def mInv2 (m : Mat) : Mat :=
  if m.length = 1 then [[1 / mAt m 0 0]]
  else
    let d := mAt m 0 0 * mAt m 1 1 - mAt m 0 1 * mAt m 1 0
    [[mAt m 1 1 / d, -mAt m 0 1 / d], [-mAt m 1 0 / d, mAt m 0 0 / d]]

/-- A number between the steps of one computation: 64 significant bits (log entry 85). -/
def work (q : Rat) : Rat :=
  if q = 0 then 0
  else let e := log2Q (absQ q); let m : Rat := rnd (q * pow2Q (63 - e)); m * pow2Q (e - 63)

/-- Every number of a vector so, and of a matrix. -/
def vWork (v : Vec) : Vec := v.map work
def mWork (m : Mat) : Mat := m.map vWork

/-- Every number rounded as it is stored. -/
def vStore (v : Vec) : Vec := v.map r32
/-- Every number of a matrix rounded as it is stored. -/
def mStore (m : Mat) : Mat := m.map vStore

/-! ### The hull (R151, R224, R225) -/

/-- The model parameters: masses with added mass, linear and quadratic damping. -/
structure Hull where
  m11 : Rat
  m22 : Rat
  m33 : Rat
  m23 : Rat
  d : Vec
  q : Vec
  deriving DecidableEq, Repr

/-- Ten parameters in the order of the MODEL section (R364). -/
def hullOf (p : Vec) : Hull where
  m11 := p.getD 0 0
  m22 := p.getD 1 0
  m33 := p.getD 2 0
  m23 := p.getD 3 0
  d := (p.drop 4).take 3
  q := (p.drop 7).take 3

/-- The inverse of M. -/
def hullInv (h : Hull) : Mat :=
  let det := h.m22 * h.m33 - h.m23 * h.m23
  [[1 / h.m11, 0, 0], [0, h.m33 / det, -h.m23 / det], [0, -h.m23 / det, h.m22 / det]]

/-- C(ν)ν. -/
def coriolis (h : Hull) (u v r : Rat) : Vec :=
  let c := h.m22 * v + h.m23 * r
  [-(c * r), h.m11 * u * r, c * u - h.m11 * u * v]

/-- R(ψ)ᵀ of an earth force. -/
def rotBody (psi : Rat) (b : Vec) : Vec :=
  let c := cosQ psi
  let s := sinQ psi
  [c * b.getD 0 0 + s * b.getD 1 0, c * b.getD 1 0 - s * b.getD 0 0, b.getD 2 0]

/-- η̇ and ν̇ at x = (n, e, ψ, u, v, r) under a body force and an earth force. -/
def hullRates (h : Hull) (force earth x : Vec) : Vec :=
  let psi := x.getD 2 0
  let u := x.getD 3 0
  let v := x.getD 4 0
  let r := x.getD 5 0
  let c := cosQ psi
  let s := sinQ psi
  let nu := [u, v, r]
  let damp := List.zipWith (· * ·) (vAdd h.d (List.zipWith (fun q x => q * absQ x) h.q nu)) nu
  let f := vSub (vSub (vAdd force (rotBody psi earth)) damp) (coriolis h u v r)
  [c * u - s * v, s * u + c * v, r] ++ mVec (hullInv h) f

/-- The derivatives of η̇ and ν̇: by η and ν, by the body force and by the earth force. -/
def hullJac (h : Hull) (earth x : Vec) : Mat × (Mat × Mat) :=
  let psi := x.getD 2 0
  let u := x.getD 3 0
  let v := x.getD 4 0
  let r := x.getD 5 0
  let c := cosQ psi
  let s := sinQ psi
  let q (i : Nat) (y : Rat) : Rat := h.d.getD i 0 + 2 * h.q.getD i 0 * absQ y
  let inv := hullInv h
  let bx := earth.getD 0 0
  let by_ := earth.getD 1 0
  let turn : Vec := [c * by_ - s * bx, -(c * bx) - s * by_, 0]
  let du : Vec := [-(q 0 u), -(h.m11 * r), h.m11 * v - (h.m22 * v + h.m23 * r)]
  let dv : Vec := [h.m22 * r, -(q 1 v), h.m11 * u - h.m22 * u]
  let dr : Vec := [h.m22 * v + 2 * h.m23 * r, -(h.m11 * u), -(q 2 r) - h.m23 * u]
  let cols := [vZero 3, vZero 3, mVec inv turn, mVec inv du, mVec inv dv, mVec inv dr]
  let eta : Mat := [[0, 0, -(s * u) - c * v, c, -s, 0], [0, 0, c * u - s * v, s, c, 0], [0, 0, 0, 0, 0, 1]]
  let z : Mat := List.replicate 3 (vZero 3)
  (eta ++ mT 3 cols, (z ++ inv, z ++ mMul 3 inv [[c, s, 0], [-s, c, 0], [0, 0, 1]]))

/-- One step of fourth-order Runge–Kutta. -/
def rk4 (f : Vec → Vec) (h : Rat) (x : Vec) : Vec :=
  let k1 := vStore (f x)
  let k2 := vStore (f (vAdd x (vScale (h / 2) k1)))
  let k3 := vStore (f (vAdd x (vScale (h / 2) k2)))
  let k4 := vStore (f (vAdd x (vScale h k3)))
  vStore (vAdd x (vScale (h / 6) (vAdd (vAdd k1 (vScale 2 k2)) (vAdd (vScale 2 k3) k4))))

/-- `n` steps of it. -/
def rk4N (f : Vec → Vec) (h : Rat) : Nat → Vec → Vec
  | 0, x => x
  | n + 1, x => rk4N f h n (rk4 f h x)

/-! ### Filters of the catalogue (R77, R240) -/

/-- A number held between 0 and 1. -/
def cut01 (x : Rat) : Rat := if x < 0 then 0 else if 1 < x then 1 else x

/-- The gain of a first-order low-pass with a run's period in µs and a time constant as binary32. -/
def lowpassGain (us tc : Nat) : Rat := cut01 (f32Q (Config.lowpass us tc % 2 ^ 32))

/-- A recursive least-squares step with a forgetting factor: estimates and covariance (R77). -/
def rlsStep (forget : Rat) (th : Vec) (p : Mat) (phi : Vec) (y : Rat) : Vec × Mat :=
  let pp := mVec p phi
  let k := vScale (1 / (forget + vDot phi pp)) pp
  (vStore (vAdd th (vScale (y - vDot phi th) k)),
    mStore (mScale (1 / forget) (mSub p (k.map (fun a => vScale a pp)))))

/-! ### Wind (R151, R364) -/

/-- A coefficient at a relative angle in radians from 0 to 2π: 37 values every 10°, linear between them. -/
def windCoef (c : Vec) (a : Rat) : Rat :=
  let k := a * 18 / piQ
  let i := min 35 k.floor.toNat
  c.getD i 0 + (k - i) * (c.getD (i + 1) 0 - c.getD i 0)

/-- The wind force on the hull in N, N and N·m: areas and length, the three coefficient tables, the relative wind over the
hull in m/s, forward and starboard, as the direction it blows to (log entry 86). -/
def windForce (size : Vec) (cx cy cn : Vec) (fwd stb : Rat) : Vec :=
  let a := atan2Q (-stb) (-fwd)
  let g := if a < 0 then a + 2 * piQ else a
  let p := f32Q Config.airDensity * (fwd * fwd + stb * stb) / 2
  let lat := p * size.getD 1 0
  vStore [p * size.getD 0 0 * windCoef cx g, lat * windCoef cy g, lat * size.getD 2 0 * windCoef cn g]

end Sys2Proof.Machine
end

