-- ==== Sys2Proof/Machine/FeedbackOps.lean ====
section
/-! DEFINITION. Machine/FeedbackOps.lean: the local feedback channels (R242 to R254): decoding of a filtered change,
counting on the main and the check path, the compare, the pulse divider, Waymarks and speed. -/

namespace Sys2Proof.Machine

/-- A line of a channel: bit 0 A, bit 1 B, bit 2 C. -/
def fbLine (l i : Nat) : Bool := l.testBit i

/-- The filtered lines as 4C + 2B + A. -/
def fbLines (a b c : Bool) : Nat := (if a then 1 else 0) + (if b then 2 else 0) + (if c then 4 else 0)

/-- What a filtered change amounts to (R244 to R246): counts of +1 or −1 in order, ILLEGAL, DIR_SETUP, an index edge. -/
structure FbStep where
  counts : List Int := []
  illegal : Bool := false
  dirSetup : Bool := false
  index : Bool := false
  deriving DecidableEq, Repr

/-- The place of AB in the forward sequence 00, 10, 11, 01 (R244). -/
def quadPlace (l : Nat) : Nat :=
  match fbLine l 0, fbLine l 1 with | false, false => 0 | true, false => 1 | true, true => 2 | false, true => 3

/-- QUAD (R244). -/
def quadStep (indexEn : Bool) (old new : Nat) : FbStep :=
  let d := (quadPlace new + 4 - quadPlace old) % 4
  { counts := if d = 1 then [1] else if d = 3 then [-1] else [], illegal := d == 2
    index := indexEn && !fbLine old 2 && fbLine new 2 }

/-- The place of a Hall state in the forward sequence 1, 3, 2, 6, 4, 5 (R245). -/
def hallPlace (h : Nat) : Nat := match h with | 1 => 0 | 3 => 1 | 2 => 2 | 6 => 3 | 4 => 4 | _ => 5

/-- HALL (R245). -/
def hallStep (old new : Nat) : FbStep :=
  if old = new then {}
  else if old = 0 ∨ old = 7 ∨ new = 0 ∨ new = 7 then { illegal := true }
  else
    let d := (hallPlace new + 6 - hallPlace old) % 6
    { counts := if d = 1 then [1] else if d = 5 then [-1] else [], illegal := d != 1 && d != 5 }

/-- STEP_DIR (R246). -/
def stepDirStep (old new : Nat) : FbStep :=
  if !fbLine old 0 && fbLine new 0 then
    { counts := [if fbLine old 1 then -1 else 1], dirSetup := fbLine old 1 != fbLine new 1 }
  else {}

/-- UP_DOWN (R246): rising edges of A and B in one sample are a forward and a reverse count at once, which nothing shows: the
position, the direction and the compare are as before (DEDUCED, log entry 99). -/
def upDownStep (old new : Nat) : FbStep :=
  match !fbLine old 0 && fbLine new 0, !fbLine old 1 && fbLine new 1 with
  | true, false => { counts := [1] } | false, true => { counts := [-1] } | _, _ => {}

/-- The decoder in its mode (R243). -/
def fbDecode (mode : Nat) (indexEn : Bool) (old new : Nat) : FbStep :=
  match mode with
  | 1 => stepDirStep old new
  | 2 => upDownStep old new
  | 3 => quadStep indexEn old new
  | 4 => hallStep (old % 8) (new % 8)
  | _ => {}

/-- A path after one count (R247). -/
def FbPath.counted (p : FbPath) (d : Int) (t : Nat) : FbPath :=
  let q := uInt (sInt p.pos + d)
  { p with pos := q, last := some (q, t), first := p.first.or (some (q, t)) }

/-- The speed at a pace boundary (R254) as (numerator, denominator) in counts/s, and STANDSTILL. -/
def FbPath.speed (p : FbPath) (win stand now : Nat) : Int × Nat × Bool :=
  match p.last with
  | none => (0, 1, true)
  | some (pe, te) =>
    let (pr, tr) := ((p.hist.getD (win - 1) none).or p.first).getD (pe, te)
    if tr < te then (sInt (pe + 2 ^ 32 - pr) * 10 ^ 9, te - tr, false)
    else if now - te < stand * 10000000 then
      let gap := now - te
      let mag : Nat := p.vNum.natAbs
      if gap = 0 ∨ mag * gap ≤ 10 ^ 9 * p.vDen then (p.vNum, p.vDen, false)
      else ((if p.vNum < 0 then -(10 ^ 9) else 10 ^ 9), gap, false)
    else (0, 1, true)

/-- A path at a pace boundary: its speed is computed and its last edge joins the history (R254). -/
def FbPath.boundary (p : FbPath) (win stand now : Nat) : FbPath :=
  let v := p.speed win stand now
  { p with vNum := v.1, vDen := v.2.1, hist := (p.last :: p.hist).take 255 }

/-- A path's speed as a rational. -/
def FbPath.v (p : FbPath) : Rat := (p.vNum : Rat) / ((p.vDen : Nat) : Rat)

namespace State

/-- A channel. -/
def fbCh (s : State) (n : Nat) : FbCh := aGetD s.fbk.ch n {}
/-- Changing a channel. -/
def setFbCh (s : State) (n : Nat) (c : FbCh) : State := { s with fbk := { s.fbk with ch := aSet s.fbk.ch n c } }

/-- PDIV outputs. -/
def pdivPin (s : State) (d : Nat) (b : Bool) : State :=
  { s with pins := if d = 0 then { s.pins with pdiv0 := b } else { s.pins with pdiv1 := b } }
/-- The level of a PDIV output. -/
def pdivOf (s : State) (d : Nat) : Bool := if d = 0 then s.pins.pdiv0 else s.pins.pdiv1

/-- A count reaches a divider in DIVIDE (R253). -/
def pdivCount (s : State) (ch : Nat) (d : Int) : State :=
  s.each (List.range 2) (fun s k =>
    if s.get (Fl.FBK_PDIV_CFG_SRC k) = 1 ∧ s.get (Fl.FBK_PDIV_CFG_CHAN k) = ch then
      let a := aGetD s.fbk.acc k 0 + d
      if a.natAbs = s.get (Fl.FBK_PDIV_CFG_DIV_M1 k) + 1 then
        ({ s with fbk := { s.fbk with acc := aSet s.fbk.acc k 0 } } : State).pdivPin k (!s.pdivOf k)
      else { s with fbk := { s.fbk with acc := aSet s.fbk.acc k a } }
    else s)

/-- A firing starts, or restarts, the pulse of a divider in COMPARE (R253). -/
def pdivPulse (s : State) (ch : Nat) : State :=
  s.each (List.range 2) (fun s k =>
    if s.get (Fl.FBK_PDIV_CFG_SRC k) = 2 ∧ s.get (Fl.FBK_PDIV_CFG_CHAN k) = ch then
      ({ s with fbk := { s.fbk with pulseAt := aSet s.fbk.pulseAt k s.now } } : State).pdivPin k true
    else s)

/-- The filtered lines of a path when the raw inputs show levels from a sample on, each for a number of samples: an inverted input
is inverted before the filter, and a line takes a level that stands for FILTER + 1 samples (R242, R248). -/
def fbFilter (s : State) (n : Nat) (check : Bool) (raw : List (Bool × Nat)) : Nat :=
  let c := s.fbCh n
  let old := if check then c.check.lines else c.main.lines
  let line (i : Nat) : Bool :=
    let (b, k) := raw.getD i (false, 0)
    if s.get (Fl.FB_CFG_FILTER n) < k then b != s.is ⟨Reg.FB_CFG n, 4 + i, 4 + i⟩ else fbLine old i
  fbLines (line 0) (line 1) (line 2)

/-- COMPARE_FIRE (R252): the Waymark, FIRED and the count, the interrupt, then auto-advance or disarming. -/
def compareFire (s : State) (n : Nat) (d : Int) : State :=
  let c := s.fbCh n
  let s := (s.setFbCh n { c with cmpEvt := some (c.main.pos, s.clk) }).flag (Fl.FB_CMP_STATUS_FIRED n) true
  let s := (s.count (Reg.FB_CMP_FIRES n)).when (s.is (Fl.FB_CMP_CTL_IRQ n)) (fun s => s.irq 6)
  let s := s.pdivPulse n
  if s.is (Fl.FB_CMP_CTL_AUTO n) then
    ((s.wr (Reg.FB_CMP n) (uInt (sInt (s.rd (Reg.FB_CMP n)) + d * s.rd (Reg.FB_CMP_STEP n)))).put
      (Fl.FB_CMP_STATUS_ARM n) (if d > 0 then 1 else 2)).flag (Fl.FB_CMP_STATUS_BEHIND n) false
  else (s.put (Fl.FB_CMP_STATUS_ARM n) 0).flag (Fl.FB_CMP_STATUS_BEHIND n) false

/-- The compare fires at this count (R251). -/
def compareHits (s : State) (n : Nat) (d : Int) : Bool :=
  match s.get (Fl.FB_CMP_STATUS_ARM n) with
  | 1 => d == 1 && (s.fbCh n).main.pos == s.rd (Reg.FB_CMP n)
  | 2 => d == -1 && (s.fbCh n).main.pos == s.rd (Reg.FB_CMP n)
  | 3 => true
  | _ => false

/-- One count on the main path (R247, R251, R253, R254). -/
def fbCount (s : State) (n : Nat) (d : Int) : State :=
  let c := s.fbCh n
  let old := c.main.pos
  let m := c.main.counted d s.clk
  let s := (s.setFbCh n { c with main := m }).wr (Reg.FB_POS n) m.pos
  let s := s.when (d == 1 && old == 0x7FFFFFFF) (fun s => s.flag (Fl.FB_FLAGS_WRAP_FWD n) true)
  let s := s.when (d == -1 && old == 0x80000000) (fun s => s.flag (Fl.FB_FLAGS_WRAP_REV n) true)
  let s := (s.put (Fl.FB_STATE_DIR n) (if d = 1 then 1 else 2)).flag (Fl.FB_STATE_STANDSTILL n) false
  let s := s.pdivCount n d
  s.when (s.compareHits n d) (fun s => s.compareFire n d)

/-- FB_COUNT_EDGE on the main path (R243 to R247, R250). -/
def fbEdge (s : State) (n new : Nat) : State :=
  let c := s.fbCh n
  let e := fbDecode (s.get (Fl.FB_CFG_MODE n)) (s.is (Fl.FB_CFG_INDEX_EN n)) c.main.lines new
  let s := s.setFbCh n { c with main := { c.main with lines := new } }
  let s := s.each e.counts (fun s d => s.fbCount n d)
  let s := s.when e.illegal (fun s =>
    ((s.setFbCh n { s.fbCh n with illLeg := (s.fbCh n).illLeg + 1 }).flag (Fl.FB_FLAGS_ILLEGAL n) true).count
      (Reg.FB_ILLEGAL n))
  let s := s.when e.dirSetup (fun s => s.flag (Fl.FB_FLAGS_DIR_SETUP n) true)
  s.when e.index (fun s =>
    let c := s.fbCh n
    (s.setFbCh n { c with idxEvt := some (c.main.pos, s.clk), main := { c.main with idx := some c.main.pos } }).flag
      (Fl.FB_STATE_INDEX_SEEN n) true)

/-- A filtered change while the interface is closed moves the reference lines and counts nothing. -/
def fbFollow (s : State) (n : Nat) (check : Bool) (new : Nat) : State :=
  let c := s.fbCh n
  s.setFbCh n (if check then { c with check := { c.check with lines := new } } else { c with main := { c.main with lines := new } })

/-- The interface starts with positions at zero; the filtered lines are those of the pins (R243, R247). -/
def fbStart (s : State) : Fbk :=
  { ch := s.fbk.ch.map (fun e => (e.1, { main := { lines := e.2.main.lines }, check := { lines := e.2.check.lines } })) }

/-- FB_COUNT_EDGE on the check path, whose counts go to the Kerb only (R248). -/
def fbCheckEdge (s : State) (n new : Nat) : State :=
  let c := s.fbCh n
  let e := fbDecode (s.get (Fl.FB_CFG_MODE n)) (s.is (Fl.FB_CFG_INDEX_EN n)) c.check.lines new
  let k := e.counts.foldl (fun p d => p.counted d s.clk) { c.check with lines := new }
  s.setFbCh n { c with check := if e.index then { k with idx := some k.pos } else k }

/-- Arming the compare from d = C − P and the direction of motion (R251). -/
def compareArm (s : State) (n : Nat) : State :=
  let d := sInt (s.rd (Reg.FB_CMP n) + 2 ^ 32 - (s.fbCh n).main.pos)
  let dir := if s.is (Fl.FB_STATE_STANDSTILL n) then 0 else s.get (Fl.FB_STATE_DIR n)
  let ahead := dir = 0 ∨ (dir = 1 ∧ d > 0) ∨ (dir = 2 ∧ d < 0)
  let arm := if d = 0 then 3 else if d > 0 then 1 else 2
  (s.put (Fl.FB_CMP_STATUS_ARM n) arm).flag (Fl.FB_CMP_STATUS_BEHIND n) (decide (d ≠ 0 ∧ ¬ ahead))

/-- Writing FB_CMP (R251). -/
def compareWrite (s : State) (n w : Nat) : State :=
  let s := s.wr (Reg.FB_CMP n) w
  if s.is (Fl.FB_CMP_CTL_EN n) then s.compareArm n else s

/-- Writing FB_CMP_CTL (R251). -/
def compareCtl (s : State) (n w : Nat) : State :=
  let was := s.is (Fl.FB_CMP_CTL_EN n)
  let s := s.wr (Reg.FB_CMP_CTL n) (mergeWrite Rw.FB_CMP_CTL (s.rd (Reg.FB_CMP_CTL n)) w)
  if !s.is (Fl.FB_CMP_CTL_EN n) then (s.put (Fl.FB_CMP_STATUS_ARM n) 0).flag (Fl.FB_CMP_STATUS_BEHIND n) false
  else if was then s else s.compareArm n

/-- A Waymark's registers (R249, R250). -/
def putWaymark (s : State) (pos ns lo hi v t : Nat) : State :=
  let p := stampParts t
  (((s.wr pos v).wr ns p.2.2).wr lo p.1).wr hi p.2.1

/-- WAYMARK_LATCH and SPEED_ESTIMATE of one channel at a pace boundary (R249, R254). -/
def waymark (s : State) (n : Nat) : State :=
  let c := s.fbCh n
  let win := s.get (Fl.FB_CFG_SPEED_WIN n)
  let st := s.get (Fl.FB_CFG_STANDSTILL n)
  let v := c.main.speed win st s.clk
  let c := { c with main := c.main.boundary win st s.clk, check := c.check.boundary win st s.clk }
  let s := (s.setFbCh n c).putWaymark (Reg.FB_WM_POS n) (Reg.FB_WM_NS n) (Reg.FB_WM_SEC_LO n) (Reg.FB_WM_SEC_HI n)
    c.main.pos s.clk
  let s := (s.put (Fl.FB_STATE_LINES n) c.main.lines).flag (Fl.FB_STATE_STANDSTILL n) v.2.2
  let s := s.when v.2.2 (fun s => s.put (Fl.FB_STATE_DIR n) 0)
  s.wr (Reg.FB_SPEED n) (uInt (rnd32 (64 * c.main.v)))

/-- All six channels, while the feedback interface is open (R61). -/
def waymarks (s : State) : State := if s.isOpen 12 then s.each (List.range 6) waymark else s

/-- Event Waymarks are committed at the end mark (R250). -/
def commitEvents (s : State) : State :=
  s.each (List.range 6) (fun s n =>
    let c := s.fbCh n
    let s := match c.cmpEvt with
      | none => s
      | some (p, t) => s.putWaymark (Reg.FB_CMP_WM_POS n) (Reg.FB_CMP_WM_NS n) (Reg.FB_CMP_WM_SEC_LO n)
          (Reg.FB_CMP_WM_SEC_HI n) p t
    let s := match c.idxEvt with
      | none => s
      | some (p, t) => s.putWaymark (Reg.FB_IDX_WM_POS n) (Reg.FB_IDX_WM_NS n) (Reg.FB_IDX_WM_SEC_LO n)
          (Reg.FB_IDX_WM_SEC_HI n) p t
    s.setFbCh n { c with cmpEvt := none, idxEvt := none })

/-- A leg boundary ends the count of illegal transitions (R262). -/
def legIllegal (s : State) : State :=
  s.each (List.range 6) (fun s n => s.setFbCh n { s.fbCh n with illLeg := 0 })

/-- FB_CFG takes effect at a leg boundary (R243): a changed INV bit inverts the held line; a change of MODE or INV starts
the count history of R254 again. -/
def applyFbCfg (s : State) (n w : Nat) : State :=
  let old := s.rd (Reg.FB_CFG n)
  let flip := (old ^^^ w) / 16 % 8
  let fresh := flip != 0 || old % 8 != w % 8
  let f (p : FbPath) : FbPath := { p with lines := p.lines ^^^ flip, first := if fresh then none else p.first }
  let c := s.fbCh n
  (s.setFbCh n { c with main := f c.main, check := f c.check }).wr (Reg.FB_CFG n) (w &&& Rw.FB_CFG.mask)

/-- FBK_PDIV_CFG takes effect at a leg boundary (R253). -/
def applyPdiv (s : State) (d w : Nat) : State :=
  (({ s with fbk := { s.fbk with acc := aDel s.fbk.acc d, pulseAt := aDel s.fbk.pulseAt d } } : State).pdivPin d false).wr
    (Reg.FBK_PDIV_CFG d) (w &&& Rw.FBK_PDIV_CFG.mask)

end State

end Sys2Proof.Machine
end

