-- ==== Sys2Proof/Machine/LaneOps.lean ====
section
/-! DEFINITION. Machine/LaneOps.lean: the lane manager's operations (R255 to R262): measured values and phases, fault
causes and transitions, commands. -/

namespace Sys2Proof.Machine

/-- A phase after a count difference, with the lane's sense (R257). -/
def phaseStep (phi cpr : Nat) (rev : Bool) (d : Int) : Nat := (((phi : Int) + (if rev then -d else d)) % cpr).toNat

/-- A phase as a binary angle: round(φ × 2^32 / CPR) (R256). -/
def phaseAngle (phi cpr : Nat) : Nat := uInt (divRound ((phi : Int) * 2 ^ 32) cpr)

/-- A binary angle as a phase: round(value × CPR / 2^32) mod CPR (R257). -/
def anglePhase (v cpr : Nat) : Nat := ((divRound ((v : Int) * cpr) (2 ^ 32)) % cpr).toNat

/-- The circular distance of two phases in counts. -/
def phaseDist (a b cpr : Nat) : Nat := let d := (a + cpr - b % cpr) % cpr; min d (cpr - d)

/-- A lane's measured thrust from a local speed: THRUST_K × v × |v| (R256). -/
def localThrust (k : Nat) (v : Rat) : Int := rnd32 (f32Q k * v * absQ v)

namespace State

/-- A lane's own state. -/
def laneSt (s : State) (n : Nat) : LaneSt := aGetD s.lanes.lane n {}
/-- Changing a lane's own state. -/
def setLaneSt (s : State) (n : Nat) (x : LaneSt) : State :=
  { s with lanes := { s.lanes with lane := aSet s.lanes.lane n x } }

/-- The lane's descriptor is in use (R255). -/
def laneOn (s : State) (n : Nat) : Bool := s.is (Fl.LANE_BIND_ENABLED n)
/-- Lanes in use. -/
def lanesOn (s : State) : List Nat := (List.range 64).filter s.laneOn
/-- A lane's state (R260). -/
def laneState (s : State) (n : Nat) : Nat := s.get (Fl.LANE_STATE_STATE n)
/-- Entering a state. -/
def setLane (s : State) (n st : Nat) : State := s.put (Fl.LANE_STATE_STATE n) st

/-- The lane is available to allocation (R260, R198). -/
def laneAvailable (s : State) (n : Nat) : Bool := s.laneOn n && s.laneState n == 2 && laneKind s n != 4

/-- A lane's sources: 0 to 5 local channel, 6 remote, 7 none. -/
def fbAz (s : State) (n : Nat) : Nat := s.get (Fl.LANE_BIND_FB_AZ n)
def fbT (s : State) (n : Nat) : Nat := s.get (Fl.LANE_BIND_FB_T n)

/-- A remote field frozen at the pace boundary (R34). -/
def frozenField (s : State) (n k : Nat) : Option Nat :=
  match aGet s.ring.fbFrozen (s.get (Fl.LANE_FB_REMOTE_FB_NODE n)) with | none => none | some x => x.fb[k]?

/-- A local phase at a pace boundary, with an index (R257) and a host setting; whether it was set, and whether the index
moved it by more than two counts. -/
def phaseAt (s : State) (n : Nat) (old : Nat) (wasWm wm : Nat) (idx set : Option Nat) : Nat × Bool × Bool :=
  let cpr := max 1 (s.rd (Reg.LANE_CPR n))
  let rev := s.is (Fl.LANE_BIND_AZ_SENSE n)
  let p1 := phaseStep old cpr rev (sInt (wm + 2 ^ 32 - wasWm))
  let p2 := match idx with
    | none => p1
    | some i => phaseStep (s.rd (Reg.LANE_HOME n)) cpr rev (sInt (wm + 2 ^ 32 - i))
  let p3 := match set with | none => p2 | some v => anglePhase v cpr
  (p3, idx.isSome || set.isSome, idx.isSome && decide (2 < phaseDist p1 p2 cpr))

/-- The measured angle of a local source (R256, R257). -/
def measureLocalAngle (s : State) (n : Nat) : State :=
  let x := s.laneSt n
  let c := (s.fbCh (s.fbAz n)).main
  let idx := if s.is (Fl.FB_CFG_INDEX_EN (s.fbAz n)) then c.idx else none
  let (phi, set, moved) := s.phaseAt n x.phi x.wm c.pos idx x.azSet
  let s := s.when (moved && s.is (Fl.LANE_STATE_AZ_VALID n)) (fun s => s.logEv Ev.FB_INDEX_MISMATCH n)
  let cpr := max 1 (s.rd (Reg.LANE_CPR n))
  let sg : Rat := if s.is (Fl.LANE_BIND_AZ_SENSE n) then -1 else 1
  let s := (s.setLaneSt n { x with phi := phi, wm := c.pos, azSet := none }).when set
    (fun s => s.flag (Fl.LANE_STATE_AZ_VALID n) true)
  (s.wr (Reg.LANE_AZ n) (phaseAngle phi cpr)).wr (Reg.LANE_AZ_RATE n)
    (uInt (rnd32 (sg * c.v * 2 * piQ / (cpr : Rat) * 1000000)))

/-- The measured angle of a remote source: the frozen field, and its rate from the previous freeze 1 ms earlier (R256,
R257). -/
def measureRemoteAngle (s : State) (n : Nat) : State :=
  let x := s.laneSt n
  let s := s.flag (Fl.LANE_STATE_AZ_VALID n) (x.azSeen && decide (x.azAge < s.get (Fl.LANE_SAFE_FB_TMO n)))
  match s.frozenField n (s.get (Fl.LANE_FB_REMOTE_FB_AZ_FIELD n)) with
  | none => s
  | some a =>
    let d := match x.frozen with | none => 0 | some b => angDiff a b
    ((s.setLaneSt n { x with frozen := some a }).wr (Reg.LANE_AZ n) a).wr (Reg.LANE_AZ_RATE n)
      (uInt (rnd32 ((d : Rat) * 2 * piQ * 1000000000 / ((2 ^ 32 : Nat) : Rat))))

/-- The measured thrust, or for AUX the measured quantity (R256). -/
def measureThrust (s : State) (n : Nat) : State :=
  if s.fbT n < 6 then
    if s.isOpen 12 then s.wr (Reg.LANE_T n) (uInt (localThrust (s.rd (Reg.LANE_THRUST_K n)) (s.fbCh (s.fbT n)).main.v)) else s
  else if s.fbT n = 6 then
    match s.frozenField n (s.get (Fl.LANE_FB_REMOTE_FB_T_FIELD n)) with
    | none => s
    | some v => s.wr (Reg.LANE_T n) v
  else s

/-- A bound source is valid (R262, FB_OK): a local one while the interface is open and its channel is not OFF; a remote
one once heard and within FB_TMO. -/
def sourceOk (s : State) (n src age : Nat) (seen : Bool) : Bool :=
  if src < 6 then s.isOpen 12 && s.get (Fl.FB_CFG_MODE src) != 0
  else if src = 6 then seen && decide (age < s.get (Fl.LANE_SAFE_FB_TMO n))
  else true

/-- The reported drive bits of a lane: ready and fault (R308). -/
def driveBits (s : State) (n : Nat) : Bool × Bool :=
  match aGet s.ring.fbIn (s.get (Fl.LANE_CMD_DEST_CMD_NODE n)) with
  | none => (false, false)
  | some x =>
    let i := s.get (Fl.LANE_CMD_DEST_CMD_INDEX n)
    (x.drive.testBit (2 * i), x.drive.testBit (2 * i + 1))

/-- MEASURED_VALUES of one lane (R256, R257). -/
def measureLane (s : State) (n : Nat) : State :=
  let s := if s.fbAz n < 6 then (if s.isOpen 12 then s.measureLocalAngle n else s)
    else if s.fbAz n = 6 then s.measureRemoteAngle n else s
  let s := s.measureThrust n
  let x := s.laneSt n
  let ok := s.sourceOk n (s.fbAz n) x.azAge x.azSeen && s.sourceOk n (s.fbT n) x.tAge x.tSeen
  (s.flag (Fl.LANE_STATE_FB_OK n) ok).flag (Fl.LANE_STATE_DRIVE_READY n) (s.driveBits n).1

/-- The index edges of the main path have been taken into the phases. -/
def takeIndexes (s : State) : State :=
  s.each (List.range 6) (fun s n =>
    let c := s.fbCh n
    s.setFbCh n { c with main := { c.main with idx := none } })

/-- Measured values of every lane in use (R256). -/
def measureLanes (s : State) : State :=
  if s.isOpen 13 then s.each s.lanesOn measureLane else s

/-- A ring cycle ends: the age of each remote field, and a source heard (R257, R262). -/
def ageLane (s : State) (n : Nat) : State :=
  let x := s.laneSt n
  let fb := match aGet s.ring.slots (s.get (Fl.LANE_FB_REMOTE_FB_NODE n)) with | none => [] | some v => v.fb
  let az := s.fbAz n == 6 && decide (s.get (Fl.LANE_FB_REMOTE_FB_AZ_FIELD n) < fb.length)
  let t := s.fbT n == 6 && decide (s.get (Fl.LANE_FB_REMOTE_FB_T_FIELD n) < fb.length)
  s.setLaneSt n { x with
    azAge := if az then 0 else x.azAge + 1, tAge := if t then 0 else x.tAge + 1
    azSeen := x.azSeen || az, tSeen := x.tSeen || t }

/-- Ages of the remote fields of every lane at the end of a ring cycle. -/
def ageLanes (s : State) : State := if s.isOpen 13 then s.each s.lanesOn ageLane else s

/-! ### Fault causes and transitions -/

/-- A trip that stops the lane's group or connection is latched, or the lane's command violated (R262 cause 5). -/
def kerbStops (s : State) (n : Nat) : Bool :=
  let g := s.get (Fl.LANE_SAFE_SO_GROUP n)
  let trip (m : Nat) : Bool := (aGetD s.krb.p m {}).trip != 0 || (aGetD s.krb.l m {}).trip != 0
  trip n || s.krb.cmdTrip.contains n ||
    (g < 4 && (s.lanesOn.any (fun m => s.get (Fl.LANE_SAFE_SO_GROUP m) == g && trip m) ||
      s.get (Fl.KRB_SO_STATUS_FAULT g) != 0))

/-- A source was heard and has been lost for FB_TMO cycles, or its local channel is closed (R262 cause 1). -/
def fbLost (s : State) (n : Nat) : Bool :=
  let x := s.laneSt n
  let tmo := s.get (Fl.LANE_SAFE_FB_TMO n)
  let l (src age : Nat) (seen : Bool) : Bool :=
    if src < 6 then !s.isOpen 12 else src == 6 && seen && decide (tmo ≤ age)
  l (s.fbAz n) x.azAge x.azSeen || l (s.fbT n) x.tAge x.tSeen

/-- A local source has counted ILL_LIM illegal transitions in the leg (R262 cause 2). -/
def illegalLane (s : State) (n : Nat) : Bool :=
  let lim := s.get (Fl.LANE_SAFE_ILL_LIM n)
  let l (src : Nat) : Bool := src < 6 && decide (lim ≤ (s.fbCh src).illLeg)
  lim != 0 && (l (s.fbAz n) || l (s.fbT n))

/-- The fault causes that hold, lowest code first (R262). -/
def laneCauses (s : State) (n : Nat) : List Nat :=
  let x := s.laneSt n
  (if s.fbLost n then [1] else []) ++ (if s.illegalLane n then [2] else []) ++
    (if x.follow > s.get (Fl.LANE_FOLLOW_FOLLOW_T n) && s.laneState n == 2 then [3] else []) ++
    (if (s.driveBits n).2 then [4] else []) ++ (if s.kerbStops n then [5] else []) ++
    (if 3 ≤ x.servoMiss then [6] else []) ++ (if x.reopened then [7] else [])

/-- LANE_FAULT: entry into FAULT with a cause, logged, counted, raised (R262, R424). -/
def laneFault (s : State) (n c : Nat) : State :=
  if s.laneState n = 0 ∨ s.laneState n = 4 then s
  else
    let s := (s.setLane n 4).put (Fl.LANE_STATE_CAUSE n) c
    ((s.logEv Ev.LANE_FAULT n (d8 c)).irq 7).count (Reg.LANE_FAULTS n)

/-- A device in role SYNCING, which keeps every lane that is not OFF in HELD (R259). -/
def laneSyncing (s : State) : Bool := s.inRun && s.role == 1

/-- A DRIVE or KERB fault at the instant it is committed: the command of this pace is withheld (R262). -/
def laneFaultNow (s : State) (n c : Nat) : State :=
  if s.laneState n = 0 ∨ s.laneState n = 4 ∨ s.role = 2 ∨ s.laneSyncing then s
  else { s.laneFault n c with lanes := { (s.laneFault n c).lanes with withheld := s.lanes.withheld ++ [n] } }

/-- Lanes of a standby come from its partner (R259). -/
def laneFollower (s : State) : Bool := s.role == 2


/-- The FOLLOW measure at a pace boundary: boundaries in a row at which the measured azimuth of an ACTIVE AZIMUTH lane
is further than FOLLOW_AZ from the command in force (R262 cause 3). -/
def followStep (s : State) (n : Nat) : State :=
  let x := s.laneSt n
  let d := (angDiff (s.rd (Reg.LANE_CMD_AZ n)) (s.rd (Reg.LANE_AZ n))).natAbs
  let far := s.laneState n == 2 && laneKind s n == 0 && decide (s.get (Fl.LANE_FOLLOW_FOLLOW_AZ n) * 2 ^ 32 < d * 36000)
  s.setLaneSt n { x with follow := if far then x.follow + 1 else 0 }

/-- Everything that HELD → ACTIVE asks for (R261). -/
def mayActivate (s : State) (n : Nat) : Bool :=
  s.inRun && s.role == 3 && !s.is Fl.PWR_STATUS_LEAVING && s.is (Fl.LANE_CTL_EN n) &&
    (s.fbAz n == 7 || s.is (Fl.LANE_STATE_AZ_VALID n)) && s.is (Fl.LANE_STATE_FB_OK n) &&
    s.is (Fl.LANE_STATE_DRIVE_READY n) && s.is (Fl.LANE_STATE_KERB_PERMIT n)

/-- Entry into RAMP with the command then in force (R259). -/
def enterRamp (s : State) (n : Nat) : State :=
  (s.setLaneSt n { s.laneSt n with ramp := 0, rampAz := s.rd (Reg.LANE_CMD_AZ n), rampT := sInt (s.rd (Reg.LANE_CMD_T n)) }).setLane n 3

/-- LANE_STATE_TRANSITIONS of one lane at a pace boundary, in the order of R261. -/
def laneTransition (s : State) (n : Nat) : State :=
  let x := s.laneSt n
  let s := s.setLaneSt n { x with clear := false, reopened := x.reopened && !x.clear }
  let st := s.laneState n
  let causes := s.laneCauses n
  if (st = 1 ∨ st = 2 ∨ st = 3) ∧ causes ≠ [] then s.laneFault n (causes.headD 0)
  else if st = 2 ∧ s.role ≠ 3 then s.setLane n 1
  else if st = 2 ∧ (¬ s.inRun ∨ s.is Fl.PWR_STATUS_LEAVING ∨ ¬ s.is (Fl.LANE_CTL_EN n)) then s.enterRamp n
  else if st = 3 then
    let e := (s.laneSt n).ramp + 1
    if s.role ≠ 3 ∨ s.get (Fl.LANE_RAMP_RAMP_T n) ≤ e then s.setLane n 1
    else s.setLaneSt n { s.laneSt n with ramp := e }
  else if st = 1 ∧ s.mayActivate n then s.setLane n 2
  else if st = 4 ∧ x.clear then
    if causes = [] then s.setLane n 1 else s.flag (Fl.LANE_STATE_CLEAR_REFUSED n) true
  else s

/-- Transitions of every lane in use, by a device that makes its own (R259, R261). -/
def laneTransitions (s : State) : State :=
  if !s.isOpen 13 || s.laneFollower then s
  else if s.laneSyncing then s.each (s.lanesOn.filter (fun n => s.laneState n != 0)) (fun s n => s.setLane n 1)
  else s.each s.lanesOn (fun s n => (s.followStep n).laneTransition n)

/-- DRIVE causes take effect at the end of the ring cycle in which they are committed (R262). -/
def driveFaults (s : State) : State :=
  if !s.isOpen 13 || s.laneFollower then s
  else s.each s.lanesOn (fun s n => if (s.driveBits n).2 then s.laneFaultNow n 4 else s)

/-! ### Commands -/

/-- Commanded angle and thrust of a lane (R259). -/
def laneCommand (s : State) (n : Nat) : Nat × Int :=
  match s.laneState n with
  | 2 => if laneKind s n = 4 then (0, 0) else (s.rd (Reg.ALC_LANE_CMD_ANG n), sInt (s.rd (Reg.ALC_LANE_CMD_T n)))
  | 3 =>
    let x := s.laneSt n
    let t := max 1 (s.get (Fl.LANE_RAMP_RAMP_T n))
    (x.rampAz, divRound (x.rampT * ((t - x.ramp : Nat) : Int)) t)
  | _ => (s.rd (Reg.LANE_AZ n), 0)

/-- u of a bound slot, sent in ACTIVE and RAMP; while the loop engine is closed, the u of the last run, `last` (R259, R262). -/
def laneU (s : State) (n slot last : Nat) : Nat :=
  if slot < 96 ∧ (s.laneState n = 2 ∨ s.laneState n = 3) then (if s.isOpen 6 then s.rd (Reg.LOOP_SLOT_OUT slot) else last) else 0

/-- A COMMAND record (R307). -/
def commandRecord (s : State) (n : Nat) : Bytes :=
  [s.get (Fl.LANE_CMD_DEST_CMD_INDEX n), s.laneState n, 0, 0] ++ toBE 4 (s.rd (Reg.LANE_CMD_AZ n)) ++
    toBE 4 (s.rd (Reg.LANE_CMD_T n)) ++ toBE 4 (s.rd (Reg.LANE_U_AZ n)) ++ toBE 4 (s.rd (Reg.LANE_U_T n)) ++
    toBE 4 s.cyc.pace

/-- COMMAND blocks, back to back, one per node (R307). -/
def commandBlocks (s : State) (ls : List Nat) : Bytes :=
  let node (n : Nat) : Nat := s.get (Fl.LANE_CMD_DEST_CMD_NODE n)
  ((ls.map node).eraseDups).flatMap (fun a =>
    let m := ls.filter (fun n => node n == a)
    toBE 2 a ++ [1, m.length] ++ m.flatMap s.commandRecord)

/-- The lane's values of the command mark (R259), and its servo outputs' presence (R262 cause 6). -/
def commandLane (s : State) (n : Nat) : State :=
  let c := s.laneCommand n
  let a := s.get (Fl.LANE_BIND_SLOT_AZ n)
  let t := s.get (Fl.LANE_BIND_SLOT_T n)
  let s := (((s.wr (Reg.LANE_CMD_AZ n) c.1).wr (Reg.LANE_CMD_T n) (uInt c.2)).wr (Reg.LANE_U_AZ n) (s.laneU n a (s.rd (Reg.LANE_U_AZ n)))).wr
    (Reg.LANE_U_T n) (s.laneU n t (s.rd (Reg.LANE_U_T n)))
  let bound := decide (a < 96) || decide (t < 96)
  let x := s.laneSt n
  s.setLaneSt n { x with servoMiss := if bound && !s.isOpen 6 then x.servoMiss + 1 else 0 }

/-- COMMAND_MARK: one command for every lane that is not OFF, to the ring controller (R259, R37). -/
def commandMark (s : State) : State :=
  if !s.isOpen 13 || s.role != 3 then s else
    let ls := s.lanesOn.filter (fun n => s.laneState n != 0)
    let s := s.each ls commandLane
    let out := ls.filter (fun n => !s.lanes.withheld.contains n)
    { s with ring := { s.ring with cmdOut := some (s.commandBlocks out) } }

/-- A host write of LANE_CTL: refused to a standby, held otherwise (R261). -/
def laneCtl (s : State) (n w : Nat) : State :=
  if s.role = 2 then s.badWrite (Reg.LANE_CTL n) else s.stage (Reg.LANE_CTL n) (w % 4)

/-- A held LANE_CTL at its boundary: discarded with STAGE_LOST if the device has become a standby. -/
def applyLaneCtl (s : State) (n w : Nat) : State :=
  if s.role = 2 then s.flag Fl.HIF_STATUS_STAGE_LOST true
  else (s.setLaneSt n { s.laneSt n with clear := (s.laneSt n).clear || w.testBit 1 }).flag (Fl.LANE_CTL_EN n) (w.testBit 0)

/-- A host write of LANE_AZ_SET: only while HELD and with a local angle source (R257). -/
def azSet (s : State) (n w : Nat) : State :=
  if s.laneState n = 1 ∧ s.fbAz n < 6 then s.stage (Reg.LANE_AZ_SET n) w else s.badWrite (Reg.LANE_AZ_SET n)

/-- A held AZ_SET at its boundary: it sets the phase there, and homes the Kerb in commissioning mode (R257, R269). -/
def applyAzSet (s : State) (n w : Nat) : State :=
  let s := (s.setLaneSt n { s.laneSt n with azSet := some w }).wr (Reg.LANE_AZ_SET n) w
  { s with krb := { s.krb with azSets := aSet s.krb.azSets n w } }

/-- Enabled lanes start HELD (R427), or in FAULT with cause REOPENED after a closure in service (R262). -/
def startLanes (s : State) (reopened : Bool) : State :=
  s.each s.lanesOn (fun s n =>
    let s := s.flag (Fl.LANE_CTL_EN n) false
    if reopened then
      let x := s.laneSt n
      let y : LaneSt := { phi := x.phi, wm := x.wm, reopened := true }
      ((s.setLaneSt n y).setLane n 1).laneFault n 7
    else (s.setLaneSt n {}).setLane n 1)

/-- The feedback interface restarts: positions at zero, and every lane with a local angle source loses AZ_VALID (R262,
R269). -/
def lanesFbReset (s : State) : State :=
  s.each s.lanesOn (fun s n =>
    if s.fbAz n < 6 then (s.setLaneSt n { s.laneSt n with wm := 0 }).flag (Fl.LANE_STATE_AZ_VALID n) false else s)

end State

end Sys2Proof.Machine
end

