-- ==== Sys2Proof/Machine/KerbOps.lean ====
section
/-! DEFINITION. Machine/KerbOps.lean: the two Kerb technologies (R263 to R293): copies, functions, trips and permits, the
sealed switch bank, the safety output stage, and the safety layer's connections. Technology 0 is the processor, 1 the
logic. -/

namespace Sys2Proof.Machine

/-- A binary angle difference as a rate in µrad/s over `ns` (R267). -/
def angleRate (d : Int) (ns : Nat) : Rat :=
  ((d.natAbs : Nat) : Rat) * 2 * piQ * 1000000000000000 / (((2 ^ 32 * ns : Nat)) : Rat)

/-- The thrust ceiling of function 4; none at the off value (R266, R267). -/
def EnvEntry.ceiling (e : EnvEntry) (comm : Bool) : Option Nat :=
  let c := if comm then e.commThrust else e.thrustMax
  if c = 0x7FFFFFFF then none else some c

/-- A value lies in the forbidden sense beyond DIR_TOL (R267 function 3): modes 1 and 2 of thrust, 3 and 4 of shaft. -/
def EnvEntry.wrongSense (e : EnvEntry) (th sh : Option Int) : Bool :=
  match e.dirMode with
  | 1 => th.any (fun v => decide (v > e.dirTol))
  | 2 => th.any (fun v => decide (v < -e.dirTol))
  | 3 => sh.any (fun v => decide (v > e.dirTol))
  | 4 => sh.any (fun v => decide (v < -e.dirTol))
  | _ => false

/-- An azimuth strictly inside a sector with thrust above SECTOR_T (R267 function 2). -/
def EnvEntry.inSector (e : EnvEntry) (az : Option Nat) (th : Option Int) : Bool :=
  match az, th with
  | some a, some v => decide ((v.natAbs : Int) > e.sectorT) && e.sectors.any (fun p => strictlyIn a p.1 p.2)
  | _, _ => false

/-- Thrust above the ceiling (R267 function 4). -/
def EnvEntry.overThrust (e : EnvEntry) (comm : Bool) (th : Option Int) : Bool :=
  match e.ceiling comm, th with
  | some c, some v => decide (v.natAbs > c)
  | _, _ => false

/-- Functions 1 to 4 of an evaluation whose spacing from the previous one is `ns`, 0 for none; each counts as violated
after FILT_N evaluations in a row (R267). -/
def KLane.judge (x : KLane) (e : Option EnvEntry) (comm homed : Bool) (ns : Nat) : KLane :=
  match e with
  | none => { x with runs := [0, 0, 0, 0], viol := x.viol.filter (5 ≤ ·), prev := x.az }
  | some e =>
    let az := if homed then x.az else none
    let f1 := match x.az, x.prev with
      | some a, some b => e.azRate != 0 && ns != 0 && decide (angleRate (angDiff a b) ns > (e.azRate : Rat))
      | _, _ => false
    let now := [f1, e.inSector az x.th, e.wrongSense x.th x.sh, e.overThrust comm x.th]
    let runs := (now.zip x.runs).map (fun p => if p.1 then p.2 + 1 else 0)
    let v := (List.range 4).filter (fun i => max 1 e.filtN ≤ runs.getD i 0)
    { x with runs := runs, prev := x.az, viol := v.map (· + 1) ++ x.viol.filter (fun f => 5 ≤ f) }

namespace State

/-! ### Lanes of a technology -/

/-- A technology's lane. -/
def kl (s : State) (t n : Nat) : KLane := aGetD (if t = 0 then s.krb.p else s.krb.l) n {}
/-- Changing it. -/
def setKl (s : State) (t n : Nat) (x : KLane) : State :=
  if t = 0 then { s with krb := { s.krb with p := aSet s.krb.p n x } }
  else { s with krb := { s.krb with l := aSet s.krb.l n x } }

/-- A technology is open: the processor is unit 14, the logic unit 15. -/
def kerbOn (s : State) (t : Nat) : Bool := s.isOpen (14 + t)

/-- The seal state: 0 NONE, 1 VALID, 2 MISMATCH, 3 CHANGED. -/
def sealState (s : State) : Nat := s.get Fl.KRB_STATUS_SEAL_STATE
/-- The set selected by the seal in force (R275). -/
def kerbSet (s : State) : Nat := s.rd Reg.KRB_SEAL / 256 % 256
/-- Commissioning mode (R275). -/
def commissioning (s : State) : Bool := s.sealState == 1 && (s.rd Reg.KRB_SEAL).testBit 1
/-- A lane's entry in the set in force (R266). -/
def kerbEntry (s : State) (n : Nat) : Option EnvEntry := envEntry s s.kerbSet (s.get (Fl.LANE_SAFE_KERB_ENTRY n))

/-- A lane has a local source (R264). -/
def kerbLocal (s : State) (n : Nat) : Bool := s.fbAz n < 6 || s.fbT n < 6

/-- A technology's homing of a lane's angle: always for a remote one (R269). -/
def kerbHomed (s : State) (t n : Nat) : Bool := 6 ≤ s.fbAz n || (s.kl t n).homed

/-! ### Connections -/

/-- A connection. -/
def kconn (s : State) (c : Nat) : KConn := aGetD s.krb.conn c {}
/-- Changing it. -/
def setKconn (s : State) (c : Nat) (x : KConn) : State := { s with krb := { s.krb with conn := aSet s.krb.conn c x } }

/-- A connection's table entry: CONN_ID, T_EXP, ERR_LIM (R366); ERR_LIM 0 stands for the default 4. -/
def connImage (s : State) (c : Nat) : Nat × Nat × Nat :=
  let b := (sectionOf s 7).drop (connTable s + 4 * c)
  (beAt b 0 2, byteAt b 2, if byteAt b 3 = 0 then 4 else byteAt b 3)

/-- The stop connection of a technology to a lane's command node, if listed (R283). -/
def stopConn (s : State) (t n : Nat) : Option Nat :=
  ((stopNodes s).findIdx? (· == s.get (Fl.LANE_CMD_DEST_CMD_NODE n))).map (fun m => 128 + 2 * m + t)

/-- A feedback connection's values may be used: it is VALID and its ECHO does not lag the stop connection's present SEQ
by more than that connection's T_EXP (R285, R288). -/
def connUsable (s : State) (c : Nat) (data : Bytes) : Bool :=
  s.get (Fl.KRB_CONN_STATUS_STATE c) == 2 && data != [] &&
    (match s.stopConn (c % 2) (c / 2) with
     | none => true
     | some k => match (s.kconn k).seq with
       | none => true
       | some q => decide ((q + 2 ^ 16 - beAt data 1 2) % 2 ^ 16 ≤ (s.connImage k).2.1))

/-- The remote copies of a lane in a technology from a telegram's DATA: angle, thrust, shaft (R285). -/
def remoteCopies (s : State) (t n : Nat) (data : Bytes) : Option Nat × Option Int × Option Int :=
  if s.connUsable (2 * n + t) data then
    let st := byteAt data 0
    (if st.testBit 0 then some (beAt data 3 4) else none, if st.testBit 1 then some (sAt data 7) else none,
      if st.testBit 2 then some (sAt data 11) else none)
  else (none, none, none)

/-! ### Latching the copies at a pace boundary -/

/-- A technology's local phase at a pace boundary (R263, R269): the main path for the logic, the check path for the
processor. Only its own index homes it, or an applied AZ_SET in commissioning mode. -/
def kerbPhase (s : State) (t n : Nat) (x : KLane) : KLane :=
  if !s.isOpen 12 then { x with homed := false, az := none, prev := none } else
    let c := s.fbCh (s.fbAz n)
    let p := if t = 0 then c.check else c.main
    let idx := if s.is (Fl.FB_CFG_INDEX_EN (s.fbAz n)) then p.idx else none
    let set := if s.commissioning then aGet s.krb.azSets n else none
    let (phi, done, _) := s.phaseAt n x.phi x.wm p.pos idx set
    { x with phi := phi, wm := p.pos, homed := x.homed || done, prev := if done then none else x.prev
             az := some (phaseAngle phi (max 1 (s.rd (Reg.LANE_CPR n)))) }

/-- The copies of a lane in a technology at a pace boundary (R263, R264). -/
def kerbLatchLane (s : State) (t n : Nat) : State :=
  let data := (s.kconn (2 * n + t)).data
  let s := s.setKconn (2 * n + t) { s.kconn (2 * n + t) with atPace := data }
  let r := s.remoteCopies t n data
  let x := s.kl t n
  let x := if s.fbAz n < 6 then s.kerbPhase t n x else { x with az := if s.fbAz n = 6 then r.1 else none }
  let th := if s.fbT n < 6 then
      (if s.isOpen 12 then
        some (localThrust (s.rd (Reg.LANE_THRUST_K n)) (if t = 0 then (s.fbCh (s.fbT n)).check.v else (s.fbCh (s.fbT n)).main.v))
       else none)
    else if s.fbT n = 6 then r.2.1 else none
  s.setKl t n { x with th := th, sh := r.2.2 }

/-- The pace strobe reaches the Kerb: each open technology latches the copies of lanes with a local source (R264). -/
def kerbLatch (s : State) : State :=
  let s : State := { s with krb := { s.krb with strobe := s.now } }
  let s := s.each (List.range 2) (fun s t =>
    if s.kerbOn t then s.each (s.lanesOn.filter s.kerbLocal) (fun s n => s.kerbLatchLane t n) else s)
  let s := s.each (List.range 6) (fun s n =>
    let c := s.fbCh n
    s.setFbCh n { c with check := { c.check with idx := none } })
  { s with krb := { s.krb with azSets := [] } }

/-! ### Safety output stage -/

/-- A channel. -/
def soCh (s : State) (k : Nat) : SoCh := aGetD s.krb.so k {}
/-- Changing a channel. -/
def setSoCh (s : State) (k : Nat) (c : SoCh) : State := { s with krb := { s.krb with so := aSet s.krb.so k c } }
/-- A channel's fault code (R279). -/
def soFaultOf (s : State) (k : Nat) : Nat := s.get (Fl.KRB_SO_STATUS_FAULT k)

/-- A trip of a group is latched in a technology (R268). -/
def groupTripped (s : State) (t k : Nat) : Bool :=
  s.lanesOn.any (fun n => s.get (Fl.LANE_SAFE_SO_GROUP n) == k && (s.kl t n).trip != 0)

/-- A fatal fault in a technology (R265). -/
def kerbFatalOf (s : State) (t : Nat) : Bool := if t = 0 then s.krb.fatalP else s.krb.fatalL

/-- The conditions of R278 in a technology's own evaluation. -/
def soWant (s : State) (t k : Nat) : Bool :=
  s.kerbOn t && (s.rd Reg.KRB_SO_EN).testBit k && s.inRun && s.role == 3 && s.sealState == 1 && !s.groupTripped t k &&
    s.soFaultOf k == 0 && !s.kerbFatalOf t

/-- A channel's switches both turned off; a test in progress is discarded and counted, and that switch is tested again
after the channel is next energised (R281). -/
def soOff (s : State) (k : Nat) : State :=
  let c := s.soCh k
  let off (w : SoSw) : SoSw := { w with on := false, test := false, want := false, stay := w.test, owed := w.owed || w.test }
  let s := s.when (c.hs.test || c.ls.test) (fun s => s.count Reg.KRB_TEST_DISCARD)
  s.setSoCh k { c with hs := off c.hs, ls := off c.ls, changedAt := s.now }

/-- The instant before which a switch just energised is not tested, when a test is owed (R281, R282). -/
def SwDue (w : SoSw) (now : Nat) : SoSw := if w.owed then { w with owed := false, due := some (now + 100000000) } else w

/-- A channel's switches follow the demands (R278, R281): a de-energise demand during a test wins at once; an energise
demand waits for the other switch's test to end. -/
def soFollow (s : State) (k : Nat) : State :=
  let c := s.soCh k
  let wP := s.soWant 0 k
  let wL := s.soWant 1 k
  let testing := c.hs.test || c.ls.test
  let drop := (!wP && (c.hs.on || c.hs.test)) || (!wL && (c.ls.on || c.ls.test))
  if testing && drop then s.soOff k
  else
    let hs := c.hs.on && wP || (wP && !testing && (!c.hs.stay || wL))
    let ls := c.ls.on && wL || (wL && !testing && (!c.ls.stay || wP))
    let both := hs && ls && !(c.hs.on && c.ls.on)
    let up (w : SoSw) (on : Bool) : SoSw :=
      let w := { w with on := on, stay := w.stay && !on }
      if both then SwDue w s.now else w
    let moved := hs != c.hs.on || ls != c.ls.on
    s.setSoCh k { c with hs := up c.hs hs, ls := up c.ls ls, changedAt := if moved then s.now else c.changedAt }

/-- A channel's register (R279, R280). -/
def soPublish (s : State) (k : Nat) : State :=
  let c := s.soCh k
  let st := if s.soFaultOf k ≠ 0 then 4 else if s.groupTripped 0 k || s.groupTripped 1 k then 3
    else if c.hs.on && c.ls.on then 1 else if c.hs.on || c.ls.on then 2 else 0
  let s := ((s.put (Fl.KRB_SO_STATUS_STATE k) st).flag (Fl.KRB_SO_STATUS_HS k) c.hs.on).flag (Fl.KRB_SO_STATUS_LS k) c.ls.on
  ((s.flag (Fl.KRB_SO_STATUS_RBH k) c.hP.stands).flag (Fl.KRB_SO_STATUS_RBL k) c.lP.stands).put (Fl.KRB_SO_STATUS_MISSED k)
    (min 8 (max c.hs.missed c.ls.missed))

/-! ### Permits and publication -/

/-- The Kerb permits a lane (R273). -/
def kerbPermits (s : State) (n : Nat) : Bool :=
  match s.kerbEntry n with
  | none => false
  | some e =>
    let g := s.get (Fl.LANE_SAFE_SO_GROUP n)
    s.kerbOn 0 && s.kerbOn 1 && s.sealState == 1 && !s.krb.fatalP && !s.krb.fatalL && !s.kerbStops n &&
      ((s.kerbHomed 0 n && s.kerbHomed 1 n) || (e.sectors == [] && e.dirMode == 0)) &&
      (s.kl 0 n).judged && (s.kl 1 n).judged && !(s.kl 0 n).viol.contains 6 && !(s.kl 1 n).viol.contains 6 &&
      (4 ≤ g || s.soFaultOf g == 0)

/-- A lane's Kerb registers (R267 to R273). -/
def kerbLanePublish (s : State) (n : Nat) : State :=
  let p := s.kl 0 n
  let l := s.kl 1 n
  let ok := s.kerbPermits n
  let func := if p.trip ≠ 0 then p.trip else if l.trip ≠ 0 then l.trip else if s.krb.cmdTrip.contains n then 9 else 0
  let s := ((s.flag (Fl.KRB_LANE_STATUS_PERMIT n) ok).flag (Fl.KRB_LANE_STATUS_HOMED_P n) p.homed).flag
    (Fl.KRB_LANE_STATUS_HOMED_L n) l.homed
  let s := ((s.flag (Fl.KRB_LANE_STATUS_LATCHED n) (func != 0)).put (Fl.KRB_LANE_STATUS_FUNC n) func).flag
    (Fl.KRB_LANE_STATUS_VIOLATION n) (p.viol != [] || l.viol != [])
  let s := s.flag (Fl.KRB_LANE_STATUS_DISC n) (aGetD s.krb.disc (2 * n) 0 != 0 || aGetD s.krb.disc (2 * n + 1) 0 != 0)
  let s := ((s.wr (Reg.KRB_LANE_AZ_P n) (p.az.getD 0)).wr (Reg.KRB_LANE_AZ_L n) (l.az.getD 0)).wr (Reg.KRB_LANE_T_P n)
    (uInt (p.th.getD 0))
  (s.wr (Reg.KRB_LANE_T_L n) (uInt (l.th.getD 0))).flag (Fl.LANE_STATE_KERB_PERMIT n) ok

/-- Outputs and registers follow the Kerb's verdicts (R273, R277, R278). -/
def kerbUpdate (s : State) : State :=
  let s := s.each (List.range 4) soFollow
  let s := s.each (List.range 4) soPublish
  let s := s.each s.lanesOn kerbLanePublish
  let s := ((s.put Fl.KRB_STATUS_SET s.kerbSet).flag Fl.KRB_STATUS_COMM s.commissioning).flag Fl.KRB_STATUS_TEST_PERMIT
    ((s.rd Reg.KRB_SEAL).testBit 0)
  ((s.flag Fl.KRB_STATUS_FATAL (s.krb.fatalP || s.krb.fatalL)).flag Fl.KRB_STATUS_P_RUN (s.kerbOn 0 && !s.krb.fatalP)).flag
    Fl.KRB_STATUS_L_RUN (s.kerbOn 1 && !s.krb.fatalL)

/-- Every local channel de-energised at once (R293, R344). -/
def deEnergise (s : State) : State :=
  (s.each (List.range 4) (fun s k => if (s.soCh k).hs.on || (s.soCh k).ls.on || (s.soCh k).hs.test || (s.soCh k).ls.test
    then s.soOff k else s)).each (List.range 4) soPublish

/-! ### Trips -/

/-- KERB_TRIP (R268): latched, counted, logged with lane, function and technology; every lane whose energy it removes
enters FAULT with cause KERB. -/
def kerbTrip (s : State) (t n f : Nat) : State :=
  if (s.kl t n).trip ≠ 0 then s else
    let s := (s.setKl t n { s.kl t n with trip := f }).count Reg.KRB_TRIPS
    let s := (s.logEv (if t = 0 then Ev.KERB_TRIP else Ev.KERB_TRIP_L) n (d8 f t)).irq 8
    let g := s.get (Fl.LANE_SAFE_SO_GROUP n)
    s.each (s.lanesOn.filter (fun m => m == n || (g < 4 && s.get (Fl.LANE_SAFE_SO_GROUP m) == g))) (fun s m => s.laneFaultNow m 5)

/-- Functions 6 to 8 in a technology (R267). -/
def kerbOther (s : State) (t n : Nat) : List Nat :=
  let x := s.kl t n
  let g := s.get (Fl.LANE_SAFE_SO_GROUP n)
  let shaft := match s.kerbEntry n with | some e => e.dirMode == 3 || e.dirMode == 4 | none => false
  (if (s.fbAz n != 7 && x.az.isNone) || (s.fbT n != 7 && x.th.isNone) || (shaft && x.sh.isNone) then [6] else []) ++
    (if s.sealState ≠ 1 then [7] else []) ++ (if g < 4 ∧ s.soFaultOf g ≠ 0 then [8] else [])

/-- The copies of a lane differ by more than DISC_AZ or DISC_T (R270). -/
def copiesDiffer (s : State) (n : Nat) (e : EnvEntry) : Bool :=
  let p := s.kl 0 n
  let l := s.kl 1 n
  let az := match p.az, l.az with
    | some a, some b => s.kerbHomed 0 n && s.kerbHomed 1 n && decide ((angDiff a b).natAbs > e.discAz)
    | _, _ => false
  let th := match p.th, l.th with | some a, some b => decide (((a - b).natAbs : Int) > e.discT) | _, _ => false
  az || th

/-- A discrepancy counted at an evaluation of a technology; it counts as a violation of function 5 once it has persisted for DISC_N
evaluations (R270). -/
def kerbDisc (s : State) (t n : Nat) : State :=
  let k := 2 * n + t
  let c := match s.kerbEntry n with | none => 0 | some e => if s.copiesDiffer n e then aGetD s.krb.disc k 0 + 1 else 0
  let lim := match s.kerbEntry n with | none => 1 | some e => if e.discN = 0 then 3 else e.discN
  let x := s.kl t n
  let s := s.setKl t n { x with viol := x.viol.filter (· != 5) ++ if lim ≤ c then [5] else [] }
  { s with krb := { s.krb with disc := aSet s.krb.disc k c } }

/-- One lane's evaluation at the Kerb checks: functions 1 to 5 for a lane with a local source, 6 to 8 for every lane; a lane whose
sources are all remote meets the others on its telegrams (R264, R267, R270). -/
def kerbCheckLane (s : State) (n : Nat) : State :=
  let on := (List.range 2).filter s.kerbOn
  let s := if s.kerbLocal n then (s.each on (fun s t =>
      s.setKl t n ((s.kl t n).judge (s.kerbEntry n) s.commissioning (s.kerbHomed t n) 1000000))).each on (fun s t => s.kerbDisc t n)
    else s.each on (fun s t =>
      let r := s.remoteCopies t n (s.kconn (2 * n + t)).data
      s.setKl t n { s.kl t n with az := if s.fbAz n = 6 then r.1 else none, th := if s.fbT n = 6 then r.2.1 else none, sh := r.2.2 })
  let held := s.is (Fl.KRB_LANE_STATUS_PERMIT n)
  let s := s.each on (fun s t =>
    let x := s.kl t n
    s.setKl t n { x with judged := true, viol := x.viol.filter (fun f => f ≤ 5) ++ s.kerbOther t n })
  s.each on (fun s t =>
    match (s.kl t n).viol.filter (fun f => f != 6 || held) with
    | [] => s
    | f :: _ => s.kerbTrip t n f)

/-- A lane command violates (R271). -/
def commandBad (s : State) (n az : Nat) (th : Int) : Bool :=
  match s.kerbEntry n with
  | none => false
  | some e => e.overThrust s.commissioning (some th) ||
      e.inSector (if s.fbAz n = 7 then none else some az) (some th) ||
      ((e.dirMode == 1 || e.dirMode == 2) && e.wrongSense (some th) none)

/-- KERB_CMD (R271): the lane loses its permit, its command is withheld and it enters FAULT. -/
def kerbCommand (s : State) (n : Nat) : State :=
  let c := s.laneCommand n
  if s.commandBad n c.1 c.2 && !s.krb.cmdTrip.contains n then
    let s : State := { s with krb := { s.krb with cmdTrip := s.krb.cmdTrip ++ [n] } }
    ((s.logEv Ev.KERB_CMD n).count Reg.KRB_CMD_VIOL).laneFaultNow n 5
  else s

/-- Each evaluating technology writes its mailbox (R263, R265). -/
def mailboxes (s : State) : State :=
  let up (t m : Nat) : Nat := if s.kerbOn t && !s.kerbFatalOf t then s.now else m
  { s with krb := { s.krb with mailP := up 0 s.krb.mailP, mailL := up 1 s.krb.mailL } }

/-- The other technology's mailbox has not advanced for 2 ms of a technology's own oscillator, which may be 10 % fast (R265). -/
def mailStill (s : State) (t : Nat) : Bool := decide ((if t = 0 then s.krb.mailL else s.krb.mailP) + 1800000 ≤ s.now)

/-- KERB_CHECKS_END (R264, R271). -/
def kerbChecks (s : State) : State :=
  if !s.kerbOn 0 && !s.kerbOn 1 then s else
    let s := s.mailboxes.each s.lanesOn kerbCheckLane
    let s := s.when (s.kerbOn 0 && s.role == 3) (fun s => s.each s.lanesOn kerbCommand)
    s.kerbUpdate

/-- KERB_PRECHECK of the provisional commands (R272): the lanes whose provisional command violates. -/
def kerbPrecheck (s : State) (cmds : List (Nat × Nat × Int)) : State :=
  { s with krb := { s.krb with pre := (cmds.filter (fun c => s.commandBad c.1 c.2.1 c.2.2)).map (·.1) } }

/-- The run-ahead is committed: its pre-alarms end in the pace's own check (R272). -/
def preCommitted (s : State) : State := { s with krb := { s.krb with pre := [] } }

/-- The run-ahead is withdrawn: its pre-alarms are discarded and counted (R272). -/
def preWithdrawn (s : State) : State :=
  let s1 := s.each s.krb.pre (fun s _ => s.count Reg.KRB_PREALARM_WITHDRAWN)
  { s1 with krb := { s1.krb with pre := [] } }

/-- The lanes that an acknowledgement names: those of local groups in `mask`, and one remote lane (R268). -/
def ackLanes (s : State) (mask : Nat) (lane : Option Nat) : List Nat :=
  s.lanesOn.filter (fun n =>
    let g := s.get (Fl.LANE_SAFE_SO_GROUP n)
    (g < 4 && mask.testBit g) || (g == 15 && lane == some n))

/-- KRB_ACK of trips (R268). -/
def kerbAck (s : State) (mask : Nat) (lane : Option Nat) : State :=
  let ls := s.ackLanes mask lane
  let latched (n : Nat) : Bool := (s.kl 0 n).trip != 0 || (s.kl 1 n).trip != 0 || s.krb.cmdTrip.contains n
  if !ls.any latched then s
  else if ls.any (fun n => (s.kl 0 n).viol != [] || (s.kl 1 n).viol != []) then s.flag Fl.KRB_STATUS_ACK_REFUSED true
  else
    let s := s.each ls (fun s n => (s.setKl 0 n { s.kl 0 n with trip := 0 }).setKl 1 n { s.kl 1 n with trip := 0 })
    ({ s with krb := { s.krb with cmdTrip := s.krb.cmdTrip.filter (fun n => !ls.contains n) } } : State).kerbUpdate

/-- KRB_ACK.CH_CLEAR (R282). -/
def kerbChClear (s : State) (mask : Nat) : State :=
  (s.each ((List.range 4).filter mask.testBit) (fun s k =>
    if s.soFaultOf k = 0 then s else
      let c := s.soCh k
      if c.hP.stands || c.lP.stands || c.hL.stands || c.lL.stands then s.flag Fl.KRB_STATUS_ACK_REFUSED true
      else
        let f (w : SoSw) : SoSw := { w with missed := 0, owed := true, stay := false, due := none }
        (s.setSoCh k { c with hs := f c.hs, ls := f c.ls, apart := none }).put (Fl.KRB_SO_STATUS_FAULT k) 0)).kerbUpdate

/-- A host write of KRB_ACK (R268, R282). -/
def kerbAckWrite (s : State) (w : Nat) : State :=
  let s := s.kerbChClear (w / 2 ^ 20 % 16)
  s.kerbAck (w / 2 ^ 16 % 16) (if w.testBit 15 then some (w % 64) else none)

/-! ### Channel faults and tests -/

/-- SO_FAULT (R282): both switches off, the code latched and logged by technology `t`, the group's lanes in FAULT. -/
def soFail (s : State) (t k code : Nat) : State :=
  if s.soFaultOf k ≠ 0 then s else
    let c := s.soCh k
    let off (w : SoSw) : SoSw := { w with on := false, test := false, want := false }
    let s := (s.setSoCh k { c with hs := off c.hs, ls := off c.ls, changedAt := s.now }).put (Fl.KRB_SO_STATUS_FAULT k) code
    let s := (s.logEv (if t = 0 then Ev.SO_FAULT else Ev.SO_FAULT_L) code).irq 8
    let s := s.each (s.lanesOn.filter (fun m => s.get (Fl.LANE_SAFE_SO_GROUP m) == k)) (fun s m => s.laneFaultNow m 5)
    s.kerbUpdate

/-- One more sample of a level at a real time: it stands after three equal ones (R279). -/
def rbSample (t : Nat) (l : RbLevel) (v : Bool) : RbLevel :=
  let run := if v == l.now then min 3 (l.run + 1) else 1
  let stands := if 3 ≤ run then v else l.stands
  { run := run, now := v, stands := stands, since := if stands == l.stands then l.since else t }

/-- The code that standing levels give against the switches (R279); 0 for agreement. -/
def rbCode (hs ls h l : Bool) : Nat :=
  match hs, ls with
  | false, false => if h then 1 else if l then 5 else 0
  | true, false => if !h then 2 else if !l then 3 else 0
  | false, true => if h then 1 else 0
  | true, true => if !h then 2 else if l then 4 else 0

/-- READBACK_SAMPLE of one channel (R279). -/
def readback (s : State) (r : Readback) : State :=
  if 4 ≤ r.ch then s else
    let c := s.soCh r.ch
    let f := rbSample s.now
    let c := { c with hP := f c.hP r.hP, lP := f c.lP r.lP, hL := f c.hL r.hL, lL := f c.lL r.lL }
    let same := c.hP.stands == c.hL.stands && c.lP.stands == c.lL.stands
    let c := { c with apart := if same then none else some (c.apart.getD s.now) }
    let s := (s.setSoCh r.ch c).soPublish r.ch
    let code := rbCode c.hs.on c.ls.on c.hP.stands c.lP.stands
    let full := c.hP.run == 3 && c.lP.run == 3 && c.hL.run == 3 && c.lL.run == 3
    if !same then (if c.apart.getD s.now + 100000 ≤ s.now then s.soFail 0 r.ch 6 else s)
    else if full && !c.hs.test && !c.ls.test && decide (c.changedAt + 50000 ≤ s.now) && code != 0 then s.soFail 0 r.ch code
    else s

/-- A switch may be tested: HS whenever it is on, LS whenever both are (R280). -/
def testable (s : State) (t k : Nat) : Bool :=
  let c := s.soCh k
  if t = 0 then c.hs.on || c.ls.test && s.soWant 0 k else c.ls.on && (c.hs.on || c.hs.test) 

/-- A test starts: the switch turns off (R280). -/
def testBegin (s : State) (t k : Nat) : State :=
  let c := s.soCh k
  let f (w : SoSw) : SoSw := { w with on := false, test := true, want := false, due := none }
  (s.setSoCh k (if t = 0 then { c with hs := f c.hs, changedAt := s.now } else { c with ls := f c.ls, changedAt := s.now })).soPublish k

/-- The instant of a switch's test in its own interval may have come: 1 s of an oscillator, which may be 10 % fast, after the last
(R280); a test that is owed comes at its own time (R281, R282). -/
def testTime (s : State) (w : SoSw) : Bool :=
  match w.due with
  | some d => decide (d ≤ s.now)
  | none => match w.slot with | none => true | some x => decide (x + 900000000 ≤ s.now)

/-- TEST_PULSE_START (R280): a switch without a pass in eight intervals fails with code 7; a test waits for the other
switch's test to end. -/
def testStart (s : State) (t k : Nat) : State :=
  if 2 ≤ t ∨ 4 ≤ k ∨ !s.kerbOn t ∨ s.soFaultOf k ≠ 0 ∨ !s.testable t k then s else
    let c := s.soCh k
    let w := if t = 0 then c.hs else c.ls
    if w.test || !s.testTime w then s
    else if 8 ≤ w.missed then s.soFail t k 7
    else
      let w := { w with missed := w.missed + 1, slot := if w.due.isSome then w.slot else some s.now }
      let s := s.setSoCh k (if t = 0 then { c with hs := w } else { c with ls := w })
      if (if t = 0 then c.ls.test else c.hs.test) then
        s.setSoCh k (if t = 0 then { c with hs := { w with want := true } } else { c with ls := { w with want := true } })
      else s.testBegin t k

/-- TEST_W in ns (R280, R366). -/
def testWidth (s : State) : Nat := let w := beAt (sectionOf s 7) 2 2; (if w = 0 then 200 else w) * 1000

/-- The level a test waits for stands, in its own technology's readback: RBH at 0 for HS, RBL at 1 for LS (R280); and since when. -/
def testLevel (c : SoCh) (t : Nat) : Bool × Nat := if t = 0 then (!c.hP.stands, c.hP.since) else (c.lL.stands, c.lL.since)

/-- TEST_PULSE_END (R280, R281): the level has come to stand within TEST_W, and the switch turns back on at once; or TEST_W has
passed without it, which is code 2 for HS and 3 for LS. What waited proceeds. -/
def testEnd (s : State) (t k : Nat) : State :=
  if 2 ≤ t ∨ 4 ≤ k then s else
    let c := s.soCh k
    let w := if t = 0 then c.hs else c.ls
    let lim := c.changedAt + s.testWidth
    let l := testLevel c t
    if !w.test then s
    else if l.1 && decide (l.2 ≤ lim) then
      let w := { w with test := false, on := true, missed := 0 }
      let s := s.setSoCh k (if t = 0 then { c with hs := w, changedAt := s.now } else { c with ls := w, changedAt := s.now })
      let s := s.flag (if t = 0 then Fl.KRB_SO_STATUS_HS_PASS k else Fl.KRB_SO_STATUS_LS_PASS k) true
      let o := if t = 0 then c.ls else c.hs
      (s.when (o.want && o.on) (fun s => s.testBegin (1 - t) k)).kerbUpdate
    else if lim ≤ s.now then
      (s.flag (if t = 0 then Fl.KRB_SO_STATUS_HS_PASS k else Fl.KRB_SO_STATUS_LS_PASS k) false).soFail t k (2 + t)
    else s

/-! ### The sealed switch bank -/

/-- The value of a reading is VALID in itself (R275 to R277). -/
def sealGood (s : State) (v : Nat) : Bool :=
  v / 4 % 64 == 0 && (match envSet s (v / 256 % 256) with
    | none => false
    | some (n, off) => crc16 (((sectionOf s 7).drop off).take (64 * n)) == v / 2 ^ 16)

/-- The seal state follows the value in force and the readings (R277). -/
def sealJudge (s : State) : State :=
  let st := if !s.krb.taken then (if s.krb.mismatch then 2 else 0) else if s.krb.changed then 3
    else if s.krb.mismatch || !s.sealGood (s.rd Reg.KRB_SEAL) then 2 else 1
  (s.put Fl.KRB_STATUS_SEAL_STATE st).kerbUpdate

/-- A value taken into force. -/
def sealTake (s : State) (v : Nat) : State :=
  ({ s with krb := { s.krb with taken := true } } : State).wr Reg.KRB_SEAL v

/-- SEAL_READING (R274, R277): two readings that agree stand; in RUN a difference in [31:8] or bit 1 makes the state
CHANGED and fires trigger 4, a difference of bit 0 alone is taken at once. -/
def sealReading (s : State) (a b : Nat) : State :=
  if a ≠ b then
    let n := s.krb.sealBad + 1
    (({ s with krb := { s.krb with sealBad := n, mismatch := s.krb.mismatch || decide (3 ≤ n) } } : State).count
      Reg.KRB_SEAL_UNSTABLE).sealJudge
  else
    let s := ({ s with krb := { s.krb with sealBad := 0, mismatch := false } } : State).wr Reg.KRB_SEAL_LAST a
    if !s.krb.taken || !s.inRun then (s.sealTake a).sealJudge
    else
      let d := s.rd Reg.KRB_SEAL ^^^ a
      if d &&& 0xFFFFFF02 ≠ 0 then
        let was := s.krb.changed
        let s := ({ s with krb := { s.krb with changed := true } } : State).sealJudge
        s.when (!was) (fun s => s.secTrigger 4)
      else if d = 1 then (s.sealTake a).sealJudge
      else s.sealJudge

/-- READY is entered: CHANGED ends and the latest standing reading is taken into force (R277). -/
def sealReady (s : State) : State :=
  if s.krb.taken then (({ s with krb := { s.krb with changed := false } } : State).sealTake (s.rd Reg.KRB_SEAL_LAST)).sealJudge
  else s.sealJudge

/-! ### The safety layer -/

/-- A connection times out or is reset: RESYNC with no reference (R288). -/
def connResync (s : State) (c : Nat) : State :=
  (s.setKconn c { s.kconn c with last := none, good := 0, age := 0, seqErr := false }).put (Fl.KRB_CONN_STATUS_STATE c) 1

/-- The error level rises; at ERR_LIM the connection enters ERROR (R289). -/
def connError (s : State) (c : Nat) : State :=
  let l := s.get (Fl.KRB_CONN_STATUS_ERR_LEVEL c) + 1
  let s := if l = 1 then s.setKconn c { s.kconn c with fallAt := s.now } else s
  let s := s.put (Fl.KRB_CONN_STATUS_ERR_LEVEL c) (min 15 l)
  s.when (decide ((s.connImage c).2.2 ≤ l)) (fun s => s.put (Fl.KRB_CONN_STATUS_STATE c) 3)

/-- REMOTE_LANE_EVALUATION (R264): a lane whose sources are all remote is evaluated on an accepted telegram. -/
def remoteEvaluate (s : State) (t n d : Nat) : State :=
  if !s.laneOn n || s.kerbLocal n || !s.kerbOn t then s else
    let r := s.remoteCopies t n (s.kconn (2 * n + t)).data
    let x := { s.kl t n with az := if s.fbAz n = 6 then r.1 else none, th := if s.fbT n = 6 then r.2.1 else none, sh := r.2.2 }
    let ns := d * (match s.get Fl.RING_CFG_CYCLE with | 0 => 125000 | 1 => 250000 | _ => 500000)
    let s := (s.setKl t n (x.judge (s.kerbEntry n) s.commissioning true ns)).kerbDisc t n
    match (s.kl t n).viol.filter (fun f => f ≤ 5) with
    | [] => s
    | f :: _ => (s.kerbTrip t n f).kerbUpdate

/-- A telegram accepted by connection c, d after the last (R288). -/
def connAccept (s : State) (c q d : Nat) (data : Bytes) : State :=
  let x := s.kconn c
  let st := s.get (Fl.KRB_CONN_STATUS_STATE c)
  let good := if d = 1 then x.good + 1 else 0
  let s := s.setKconn c { x with last := some q, good := good, age := 0, seqErr := false, data := data }
  let s := if st = 1 ∧ 3 ≤ good then s.put (Fl.KRB_CONN_STATUS_STATE c) 2 else s
  if s.get (Fl.KRB_CONN_STATUS_STATE c) = 2 then s.remoteEvaluate (c % 2) (c / 2) (if st = 2 then d else 0) else s

/-- SAFETY_TELEGRAM_RECEIVED (R284 to R289): the consumer connection whose CONN_ID it carries. -/
def safetyTelegram (s : State) (_node : Nat) (t : Bytes) : State :=
  match (List.range 128).find? (fun c => (s.connImage c).2.1 != 0 && (s.connImage c).1 == beAt t 0 2) with
  | none => s
  | some c =>
    let st := s.get (Fl.KRB_CONN_STATUS_STATE c)
    let q := beAt t 2 2
    let seed := 0xFFFFFFFF ^^^ ((s.connImage c).1 * 2 ^ 16 + q)
    if !s.kerbOn (c % 2) || (st != 1 && st != 2) then s
    else if crc32cFrom seed ((t.drop 4).take 20) != beAt t 24 4 || byteAt t 4 != 1 then
      (s.count (Reg.KRB_CONN_CRC_ERR c)).connError c
    else
      let x := s.kconn c
      match x.last with
      | none => s.setKconn c { x with last := some q, good := 0, age := 0, seqErr := false, data := (t.drop 5).take 19 }
      | some p =>
        let d := (q + 2 ^ 16 - p) % 2 ^ 16
        if d = 0 then s
        else if d ≤ (s.connImage c).2.1 then s.connAccept c q d ((t.drop 5).take 19)
        else
          let s := (s.count (Reg.KRB_CONN_SEQ_ERR c)).setKconn c { x with seqErr := true, good := 0 }
          if x.seqErr then s else s.connError c

/-- A ring cycle ends without, or with, an acceptance: ages of consumer connections (R288). -/
def connAges (s : State) : State :=
  s.each s.krb.conn (fun s e => if e.1 < 128 then s.setKconn e.1 { s.kconn e.1 with age := (s.kconn e.1).age + 1 } else s)

/-- CONNECTION_TIMEOUT (R288, item 3). -/
def connTimeout (s : State) (c : Nat) : State :=
  let st := s.get (Fl.KRB_CONN_STATUS_STATE c)
  let x := s.kconn c
  if c < 128 ∧ (st = 2 ∨ (st = 1 ∧ x.last.isSome)) ∧ (s.connImage c).2.1 ≤ x.age then
    ((s.count (Reg.KRB_CONN_TIMEOUTS c)).connResync c).kerbUpdate
  else s

/-- ERROR_LEVEL_DECAY (R289): 900 s after the level rose from zero or last fell. -/
def connDecay (s : State) (c : Nat) : State :=
  if c < 128 ∧ (s.kconn c).fallAt + 900000000000 ≤ s.now then
    (s.setKconn c { s.kconn c with fallAt := s.now }).put (Fl.KRB_CONN_STATUS_ERR_LEVEL c) (s.get (Fl.KRB_CONN_STATUS_ERR_LEVEL c) - 1)
  else s

/-- KRB_CONN_CLR with GO (R289). -/
def connClear (s : State) (c : Nat) : State :=
  let s := ((s.clearCount (Reg.KRB_CONN_CRC_ERR c)).clearCount (Reg.KRB_CONN_SEQ_ERR c)).clearCount (Reg.KRB_CONN_TIMEOUTS c)
  let s := s.put (Fl.KRB_CONN_STATUS_ERR_LEVEL c) 0
  if s.get (Fl.KRB_CONN_STATUS_STATE c) = 3 then s.connResync c else s

/-- RUN_MASK of a technology for a node: its own verdicts only (R268, R277, R287). -/
def runMask (s : State) (t node : Nat) : Nat :=
  if s.kerbFatalOf t || s.sealState != 1 then 0
  else (s.lanesOn.filter (fun n => s.get (Fl.LANE_SAFE_SO_GROUP n) == 15 && s.get (Fl.LANE_CMD_DEST_CMD_NODE n) == node &&
      (s.kl t n).trip != 0)).foldl (fun m n => m &&& (0xFFFF ^^^ 2 ^ s.get (Fl.LANE_CMD_DEST_CMD_INDEX n))) 0xFFFF

/-- A stop telegram (R284 to R286). -/
def stopTelegram (s : State) (t node id q : Nat) : Bytes :=
  let body := [2, t] ++ toBE 2 (s.runMask t node) ++ toBE 4 s.pace.compEpoch ++ List.replicate 12 0
  toBE 2 id ++ toBE 2 q ++ body ++ toBE 4 (crc32cFrom (0xFFFFFFFF ^^^ (id * 2 ^ 16 + q)) body)

/-- STOP_TELEGRAM_SEND (R287): SEQ one higher on every stop connection of an open technology; the first is arbitrary. -/
def stopTelegrams (s : State) : State :=
  s.each (List.range (2 * (stopNodes s).length)) (fun s i =>
    if !s.kerbOn (i % 2) || (s.connImage (128 + i)).2.1 = 0 then s else
      let x := s.kconn (128 + i)
      match x.seq with
      | some q => s.setKconn (128 + i) { x with seq := some ((q + 1) % 2 ^ 16) }
      | none => s.draw.2.setKconn (128 + i) { x with seq := some (s.draw.1 % 2 ^ 16) })

/-- The stop telegrams of this ring cycle, for the device's own slot (R308). -/
def ownSafe (s : State) : List Bytes :=
  (List.range (2 * (stopNodes s).length)).filterMap (fun i =>
    match (s.kconn (128 + i)).seq with
    | some q => if s.kerbOn (i % 2) then some (s.stopTelegram (i % 2) ((stopNodes s).getD (i / 2) 0) (s.connImage (128 + i)).1 q)
        else none
    | none => none)

/-- The Kerb starts: used consumer connections in RESYNC, producers marked (R288). -/
def kerbStart (s : State) : State :=
  let s := s.each (List.range 256) (fun s c =>
    let i := s.connImage c
    if i.2.1 = 0 then s else
      ((s.put (Fl.KRB_CONN_STATUS_CONN_ID c) i.1).put (Fl.KRB_CONN_STATUS_T_EXP c) i.2.1).put (Fl.KRB_CONN_STATUS_STATE c)
        (if c < 128 then 1 else 4) |>.setKconn c {})
  ({ s with krb := { s.krb with mailP := s.now, mailL := s.now } } : State).kerbUpdate

/-- What every fatal fault does (R3, R318, R427, R430, R446): role FAULTED, FAULT_N low, a transition not yet in effect cancelled,
both ring holds low, every safety output off. -/
def roleFaulted (s : State) : State :=
  let s := (((s.testAbort 6).put Fl.RED_STATUS_ROLE 4).flag Fl.PWR_STATUS_FAULTED true).cancelTrans
  let s := ((s.ringOut 0).ringOut 1).masterPublish
  ({ s with pins := { s.pins with faultN := false } } : State).kerbUpdate

/-- A Kerb fatal fault detected by technology `t` (R265): its switches off, RUN_MASK 0, FAULT_N low, role FAULTED. -/
def kerbFatal (s : State) (t cause : Nat) : State :=
  if s.kerbFatalOf t then s else
    let s : State := if t = 0 then { s with krb := { s.krb with fatalP := true } } else { s with krb := { s.krb with fatalL := true } }
    let s := if s.rd Reg.KRB_FATAL = 0 then s.wr Reg.KRB_FATAL cause else s
    let s := (s.logEv (if t = 0 then Ev.KERB_FATAL else Ev.KERB_FATAL_L) cause).irq 8
    s.roleFaulted

end State

end Sys2Proof.Machine
end

