-- ==== Sys2Proof/Machine/RedOps.lean ====
section
/-! DEFINITION. Machine/RedOps.lean: roles and the ownership epoch (R330, R331, R340 to R344), and the adoption of an
owner's pace (R470). -/

namespace Sys2Proof.Machine

/-- The pair (EPOCH, OWNER) precedes another (R342). -/
def precedes (e o e' o' : Nat) : Bool := after32 e e' || (!after32 e' e && decide (o < o'))

namespace State

/-- RED_STATUS.ROLE (R330); the Kerb's outputs follow it (R278), and leaving the active role aborts a test (R195). -/
def setRole (s : State) (r : Nat) : State :=
  (((if r = 3 then s else s.testAbort 6).put Fl.RED_STATUS_ROLE r).kerbUpdate).masterPublish

/-- The device's address and its partner's (R299, R332). -/
def address (s : State) : Nat := s.get Fl.RING_CFG_ADDRESS
def partner (s : State) : Nat := s.get Fl.RED_CFG_PARTNER
def hasPartner (s : State) : Bool := s.is Fl.RED_CFG_CAUSEWAY

/-- Taking an ownership pair; every epoch taken is kept in MRAM (R331, R343, R344). -/
def takePair (s : State) (e o : Nat) : State :=
  let s := (s.wr Reg.RED_EPOCH e).wr Reg.RED_OWNER o
  { s with ring := { s.ring with hasPair := true, highEpoch := if after32 e s.ring.highEpoch then e else s.ring.highEpoch }
           red := { s.red with epochMram := e } }

/-- A device that does not own the segment takes the origin and its state from the guidance page (R171, R176). -/
def originFromPage (s : State) : State :=
  let d := (aGetD s.ring.pages 0x33 ⟨0, []⟩).data
  if !s.inRun || s.role == 3 || d.isEmpty then s
  else
    ({ s with loop := { s.loop with originLat := beAt d 88 4, originLon := beAt d 92 4, originHgt := beAt d 96 4 } } : State).put
      Fl.LOOP_STATUS_ORIGIN (d.getD 87 0)

/-- A change of pace number or phases adopted from the owner voids every mark timed on the old count and not yet
reached, a standby's apply mark included (R470); a Milestone not applied for it is discarded and counted; pace and leg
work resumes at the next boundary of the adopted count. -/
def adoptPace (s : State) (pace leg stage : Nat) : State :=
  if s.cyc.pace = pace ∧ s.cyc.leg = leg ∧ s.cyc.stage = stage then s
  else
    let started := s.cyc.active || (s.role == 2 && s.red.loaded)
    let lost := started && s.red.fast.isSome
    let s : State := { s with
      cyc := { s.cyc with pace := pace, leg := leg, stage := stage, voided := started
                          legPace := (pace + 2 ^ 32 - leg) % 2 ^ 32 }
      red := { s.red with fast := if started then none else s.red.fast } }
    let s := (if s.inRun then s.wr Reg.GLB_PACE pace else s).originFromPage
    s.when lost (fun s => s.count Reg.RED_MS_LOST)

/-- Becoming a ring standby (R330). -/
def ringStandby (s : State) : State :=
  ((s.setRole 2).flag Fl.RED_STATUS_RING_STANDBY true).flag Fl.RED_STATUS_CURRENT false

/-- Lanes leave RAMP and ACTIVE for HELD at once (R261, R344); lanes in FAULT or OFF stay. -/
def lanesHeld (s : State) : State :=
  s.each (List.range 64) (fun s n =>
    let st := s.get (Fl.LANE_STATE_STATE n)
    if st = 2 ∨ st = 3 then s.put (Fl.LANE_STATE_STATE n) 1 else s)

/-- Pace work ends with a run-ahead undecided: no commit mark will come for it, and it is withdrawn at once (DESIGN CHOICE,
log entry 69). -/
def dropAhead (s : State) : State :=
  if s.provWork then
    let s := s.fabWithdraw.preWithdrawn
    { s with alc := { s.alc with ahead := none, aheadRes := none } }
  else s

/-- Demotion at once: the rest of the pace does not run, no more trains, local channels de-energised, lanes HELD, logged
and counted; then SYNCING under a Causeway partner, ring standby otherwise (R344).
An active that had stopped for an exchange reports it complete (R350). -/
def demote (s : State) (owner : Nat) : State :=
  let s : State := { s with cyc := { s.cyc with active := false, voided := true }
                            ring := { s.ring with trainOn := false, cmdOut := none } }
  let s := (s.deEnergise).lanesHeld.dropAhead
  let s := ((s.logEv Ev.DEMOTED).irq 9).count Reg.RED_DEMOTIONS
  let done := s.red.exchStopped
  let s : State := { s with red := { s.red with exch := none, exchStopped := false, exchAsked := none, granted := false
                                                loaded := false, detectAt := none, heldCmds := [], fastApplied := none } }
  let s := s.when done (fun s => (s.put Fl.RED_STATUS_EXCH_RESULT 1).logEv Ev.ROLE_EXCHANGE)
  if s.hasPartner && owner == s.partner then
    { s.setRole 1 with red := { (s.setRole 1).red with heardOwner := true, resyncFrom := some s.now } }
  else s.ringStandby

/-- A pair heard from a SYNC or an ACTIVE partner's heartbeat (R342 to R344): answers whether its train counts. -/
def hearPair (s : State) (e o : Nat) : Bool × State :=
  let s : State := { s with ring := { s.ring with
    highEpoch := if after32 e s.ring.highEpoch then e else s.ring.highEpoch } }
  if !s.ring.hasPair then (true, s.takePair e o)
  else if precedes e o (s.rd Reg.RED_EPOCH) (s.rd Reg.RED_OWNER) then
    let s := if s.role = 3 then s.demote o else s
    (true, s.takePair e o)
  else (e == s.rd Reg.RED_EPOCH && o == s.rd Reg.RED_OWNER, s)

/-- Taking role ACTIVE with a new epoch (R331, R340, R351, R352). `how` is the code of page 0x01 (R345). The working epoch's
start stays the one the segment page shows (R316), until an epoch starts. -/
def takeActive (s : State) (epoch how : Nat) : State :=
  let s : State := { s with ring := { s.ring with
    startNs := ((aGet s.ring.pages 0).bind (fun p => stampAt p.data 12)).getD s.ring.startNs } }
  let s := ((s.takePair epoch s.address).setRole 3).flag Fl.RED_STATUS_CURRENT false
  let s := s.flag Fl.RED_STATUS_RING_STANDBY false
  { s with red := { s.red with how := how, takenPace := s.cyc.pace } }

end State

end Sys2Proof.Machine
end

