-- ==== Sys2Proof/Machine/LoopOps.lean ====
section
/-! DEFINITION. Machine/LoopOps.lean: the loop engine's slots, test generator and capture (R184 to R197), guidance, the
classic law and the blend (R171 to R183). -/

namespace Sys2Proof.Machine

/-! ### Slot arithmetic (R185 to R188) -/

/-- A product of an operand with a coefficient word and its 5-bit shift, in units of 2^-46 LSB (R185). -/
def coefMul (v : Int) (c sh : Nat) : Int := v * sInt c * 2 ^ (sBits 5 sh + 16).toNat

/-- round(A / 2^46), unsaturated (R185). -/
def stage46 (a : Int) : Int := divRound a (2 ^ 46)

/-- A section's coefficients with shifts: b0, b1, b2, a1, a2 (R186). -/
structure SecCoef where
  b0 : Nat × Nat
  b1 : Nat × Nat
  b2 : Nat × Nat
  a1 : Nat × Nat
  a2 : Nat × Nat
  deriving DecidableEq, Repr

/-- One run of a section: its output, its new state, and whether it saturated (R186). -/
def secRun (c : SecCoef) (st : List Int) (x : Int) : Int × List Int × Bool :=
  let x1 := st.getD 0 0
  let x2 := st.getD 1 0
  let y1 := st.getD 2 0
  let y2 := st.getD 3 0
  let a := coefMul x c.b0.1 c.b0.2 + coefMul x1 c.b1.1 c.b1.2 + coefMul x2 c.b2.1 c.b2.2 - coefMul y1 c.a1.1 c.a1.2 -
    coefMul y2 c.a2.1 c.a2.2
  let r := stage46 a
  let y := sat32 r
  (y, [x, x1, y, y1], y != r)

/-- The cascade: its output, new states, section outputs, and SEC_SAT (R184, R186). -/
def cascade : List SecCoef → List (List Int) → Nat → Int → Int × List (List Int) × List Int × Nat
  | [], _, _, x => (x, [], [], 0)
  | c :: cs, sts, i, x =>
    let (y, st, sat) := secRun c (sts.headD []) x
    let (z, ss, ys, f) := cascade cs (sts.drop 1) (i + 1) y
    (z, st :: ss, y :: ys, f + if sat then 2 ^ i else 0)

/-- What a slot's run takes besides its registers: x, f, the tracking value while active, whether I is held (R180), the
limits, and injections at INPUT and OUTPUT. -/
structure SlotRun where
  x : Int
  f : Int
  track : Option Int := none
  hold : Bool := false
  lo : Int
  hi : Int
  injIn : Int := 0
  injOut : Int := 0
  deriving DecidableEq, Repr

/-- The registers of a slot that its arithmetic uses. -/
structure SlotReg where
  secs : List SecCoef
  aw : Nat
  g : Nat × Nat
  ki : Nat × Nat
  kt : Nat × Nat
  deriving DecidableEq, Repr

/-- A slot's run: its new state, x after injection, c, section outputs, u0, and FLAGS bits to set (R184 to R188). -/
structure SlotOut where
  st : SlotSt
  x : Int
  ys : List Int
  u0 : Int
  flags : Nat
  deriving DecidableEq, Repr

/-- The integrator's accumulation, unsaturated (R187). -/
def integrate (r : SlotReg) (st : SlotSt) (c : Int) (track : Option Int) : Int :=
  let t := if r.aw = 3 then track.getD st.u else st.u
  let d := if 2 ≤ r.aw then sat32 (t - st.u1) else 0
  let term := stage46 (coefMul c r.ki.1 r.ki.2)
  let held := r.aw != 0 && ((decide (st.u1 > st.hi) && decide (term > 0)) || (decide (st.u1 < st.lo) && decide (term < 0)))
  stage46 (st.i * 2 ^ 46 + (if held then 0 else coefMul c r.ki.1 r.ki.2) + coefMul d r.kt.1 r.kt.2)

/-- One run of a slot (R184). -/
def slotRun (r : SlotReg) (st : SlotSt) (q : SlotRun) : SlotOut :=
  let x := sat32 (q.x + q.injIn)
  let (c, ss, ys, secSat) := cascade r.secs st.secs 0 x
  let i1 := if q.hold then st.i else integrate r st c q.track
  let i := sat32 i1
  let s := sat32 (c + i)
  let g := stage46 (coefMul s r.g.1 r.g.2)
  let u0 := sat32 g
  let u1 := sat32 (u0 + q.f + q.injOut)
  let u := if u1 < q.lo then q.lo else if u1 > q.hi then q.hi else u1
  let b (c : Bool) (k : Nat) : Nat := if c then 2 ^ k else 0
  { st := { st with secs := ss, i := i, u1 := u1, u := u, lo := q.lo, hi := q.hi }
    x := x, ys := ys, u0 := u0
    flags := secSat * 256 + b (u1 != u) 4 + b (u1 != u0 + q.f + q.injOut || x != q.x + q.injIn) 3 + b (u0 != g) 2 +
      b (s != c + i) 1 + b (i != i1) 0 }

/-! ### The test generator (R194) -/

/-- h in Q1.30; a sine is within 2 LSB of 2^30 × sin(2πφ/2^32), where the spec leaves it: `e` is that error. -/
def TestGen.h (g : TestGen) (e : Nat) : Int :=
  match g.shape with
  | 0 => 2 ^ 30
  | 1 => if g.phase < 2 ^ 31 then 2 ^ 30 else -(2 ^ 30)
  | 4 => if g.lfsr.testBit 0 then 2 ^ 30 else -(2 ^ 30)
  | _ =>
    let x : Rat := (2 ^ 30 : Nat) * sinQ (angQ g.phase)
    let lo := (x - 2).ceil
    lo + ((e % ((x + 2).floor - lo + 1).toNat : Nat) : Int)

/-- The generator after a sample: φ, CHIRP's FREQ, and the PRBS register with feedback x^15 + x^14 + 1. -/
def TestGen.next (g : TestGen) : TestGen :=
  let f := if g.shape = 3 then
      (if g.freq < g.freqEnd then min g.freqEnd (g.freq + g.freqStep) else g.freq) else g.freq
  let fb := (if g.lfsr.testBit 14 then 1 else 0) ^^^ (if g.lfsr.testBit 13 then 1 else 0)
  { g with phase := (g.phase + g.freq) % 2 ^ 32, freq := f
           lfsr := if g.shape = 4 then (g.lfsr * 2 + fb) % 2 ^ 15 else g.lfsr }

namespace State

/-- A slot's state. -/
def slotSt (s : State) (k : Nat) : SlotSt := aGetD s.loop.slots k {}
/-- Changing a slot's state. -/
def setSlot (s : State) (k : Nat) (x : SlotSt) : State := { s with loop := { s.loop with slots := aSet s.loop.slots k x } }

/-- A section's coefficients from its registers (R186). -/
def secCoef (s : State) (j : Nat) : SecCoef :=
  let sh := s.rd (Reg.LOOP_SEC_SH j)
  { b0 := (s.rd (Reg.LOOP_SEC_B0 j), sh % 32), b1 := (s.rd (Reg.LOOP_SEC_B1 j), sh / 2 ^ 5 % 32)
    b2 := (s.rd (Reg.LOOP_SEC_B2 j), sh / 2 ^ 10 % 32), a1 := (s.rd (Reg.LOOP_SEC_A1 j), sh / 2 ^ 15 % 32)
    a2 := (s.rd (Reg.LOOP_SEC_A2 j), sh / 2 ^ 20 % 32) }

/-- A slot's registers. -/
def slotReg (s : State) (k : Nat) : SlotReg :=
  { secs := (List.range (s.get (Fl.LOOP_SLOT_CFG_N_SEC k))).map (fun i => s.secCoef (s.get (Fl.LOOP_SLOT_CFG_FIRST_SEC k) + i))
    aw := s.get (Fl.LOOP_SLOT_CTL_AW k)
    g := (s.rd (Reg.LOOP_SLOT_G k), s.get (Fl.LOOP_SLOT_SHIFTS_SH_G k))
    ki := (s.rd (Reg.LOOP_SLOT_KI k), s.get (Fl.LOOP_SLOT_SHIFTS_SH_KI k))
    kt := (s.rd (Reg.LOOP_SLOT_KT k), s.get (Fl.LOOP_SLOT_SHIFTS_SH_KT k)) }

/-- A slot's RATE: 0 OFF, 1 PACE, 2 LEG. -/
def slotRate (s : State) (k : Nat) : Nat := s.get (Fl.LOOP_SLOT_CFG_RATE k)

/-! ### Test and capture -/

/-- TEST_SAMPLE_INJECT (R194): the injected value of this run, and the generator advanced. -/
def injectSample (s : State) (k : Nat) : Option Int × State :=
  let g := s.loop.gen
  if s.get Fl.LOOP_TEST_STATUS_STATE = 1 ∧ g.slot = k then
    let (d, s) := if g.shape = 2 ∨ g.shape = 3 then s.draw else (0, s)
    let v := sat32 (g.offset + divRound (g.amp * g.h d) (2 ^ 30))
    let n := min 0x7FFFFFF (s.get Fl.LOOP_TEST_STATUS_SAMPLES + 1)
    let left := g.dur - 1
    let s : State := { s with loop := { s.loop with gen := { g.next with dur := left } } }
    let s := s.put Fl.LOOP_TEST_STATUS_SAMPLES n
    let s := if g.dur = 1 then (s.put Fl.LOOP_TEST_STATUS_STATE 2).flag Fl.LOOP_TEST_CTL_GO false else s
    (some v, s)
  else (none, s)

/-- A capture buffer. -/
def cap (s : State) (b : Nat) : Cap := if b = 0 then s.loop.cap0 else s.loop.cap1
/-- Changing a capture buffer. -/
def setCap (s : State) (b : Nat) (c : Cap) : State :=
  if b = 0 then { s with loop := { s.loop with cap0 := c } } else { s with loop := { s.loop with cap1 := c } }

/-- A signal of a run by its code (R196). -/
def capSignal (f : Int) (o : SlotOut) (inj : Int) (c : Nat) : Int :=
  match c with
  | 0 => o.x | 1 => f | 10 => o.st.i | 11 => o.u0 | 12 => o.st.u1 | 13 => o.st.u | 14 => inj
  | c => o.ys.getD (c - 2) 0

/-- A sample triggers (R197). -/
def capTriggers (trig : Nat) (level v : Int) (prev : Option Int) (first : Bool) : Bool :=
  match trig with
  | 0 => true
  | 1 => prev.any (fun p => decide (p < level) && decide (level ≤ v))
  | 2 => prev.any (fun p => decide (p > level) && decide (v ≤ level))
  | _ => first

/-- CAPTURE_SAMPLE (R197). -/
def capSample (s : State) (b : Nat) (v : Int × Int) (first : Bool) : State :=
  let c := s.cap b
  let st := s.get (Fl.LOOP_CAP_STATUS_STATE b)
  let pre := s.get ⟨Reg.LOOP_CAP_PRE b, 11, 0⟩
  let (c, st, trig) :=
    if st = 2 then ({ c with buf := c.buf ++ [v], left := c.left - 1 }, if c.left ≤ 1 then 3 else 2, false)
    else if capTriggers (s.get (Fl.LOOP_CAP_CTL_TRIG b)) (sInt (s.rd (Reg.LOOP_CAP_LEVEL b))) v.1 c.prev (first || c.hit) then
      ({ c with buf := c.buf ++ [v], left := 4095 - pre }, if 4095 ≤ pre then 3 else 2, true)
    else
      let l := c.buf ++ [v]
      ({ c with buf := l.drop (l.length - pre) }, 1, false)
  let s := (s.setCap b { c with prev := some v.1 }).when trig (fun s => s.wr (Reg.LOOP_CAP_TRIG_PACE b) s.cyc.pace)
  let s := (s.put (Fl.LOOP_CAP_STATUS_STATE b) st).put (Fl.LOOP_CAP_STATUS_COUNT b) c.buf.length
  s.when (st == 3) (fun s => s.flag (Fl.LOOP_CAP_CTL_ARM b) false)

/-- The generator's first injected sample reaches every ARMED buffer; one that watches another slot triggers at that slot's next
sample (R197). -/
def capGenerator (s : State) : State :=
  s.each (List.range 2) (fun s b =>
    if s.get (Fl.LOOP_CAP_STATUS_STATE b) = 1 then s.setCap b { s.cap b with hit := true } else s)

/-- Buffers that watch a slot record its run. -/
def capRun (s : State) (k : Nat) (f : Int) (o : SlotOut) (inj : Option Int) (first : Bool) : State :=
  s.each (List.range 2) (fun s b =>
    let st := s.get (Fl.LOOP_CAP_STATUS_STATE b)
    if (st = 1 ∨ st = 2) ∧ s.get (Fl.LOOP_CAP_CTL_SLOT b) = k then
      s.capSample b (capSignal f o (inj.getD 0) (s.get (Fl.LOOP_CAP_CTL_SIG0 b)),
        capSignal f o (inj.getD 0) (s.get (Fl.LOOP_CAP_CTL_SIG1 b))) first
    else s)

/-- CAPTURE_ARM and CAPTURE_ABORT as a write of LOOP_CAP_CTL: ABORT acts before ARM (R197). -/
def capCtl (s : State) (b w : Nat) : State :=
  let s := s.wr (Reg.LOOP_CAP_CTL b) (w &&& 0x007F3FF0)
  let s := if w.testBit 30 then s.put (Fl.LOOP_CAP_STATUS_STATE b) 0 else s
  if w.testBit 31 then
    (((s.setCap b {}).put (Fl.LOOP_CAP_STATUS_STATE b) 1).put (Fl.LOOP_CAP_STATUS_COUNT b) 0).flag (Fl.LOOP_CAP_STATUS_ABORTED b)
      false |>.flag (Fl.LOOP_CAP_CTL_ARM b) true
  else s.flag (Fl.LOOP_CAP_CTL_ARM b)
    (s.get (Fl.LOOP_CAP_STATUS_STATE b) == 1 || s.get (Fl.LOOP_CAP_STATUS_STATE b) == 2)

/-- Reading RDDATA (R197): the word at RDPTR, which advances, while DONE; zero otherwise. -/
def capRead (s : State) (b : Nat) : Nat × State :=
  let p := s.get ⟨Reg.LOOP_CAP_RDPTR b, 12, 0⟩
  if s.get (Fl.LOOP_CAP_STATUS_STATE b) = 3 then
    let v := ((s.cap b).buf.getD (p / 2) (0, 0))
    (uInt (if p % 2 = 0 then v.1 else v.2), s.wr (Reg.LOOP_CAP_RDPTR b) ((p + 1) % 8192))
  else (0, s)

/-- A write of LOOP_TEST_CTL (R193, R195): STOP, then GO. -/
def testCtl (s : State) (w : Nat) : State :=
  let run := s.is Fl.LOOP_TEST_CTL_GO
  let s := s.wr Reg.LOOP_TEST_CTL ((w &&& 0x717F) ||| (if run then 2 ^ 31 else 0))
  let s := if w.testBit 30 then s.testAbort 3 else s
  if !w.testBit 31 then s
  else
    let k := w % 128
    let s := s.put Fl.LOOP_TEST_STATUS_SAMPLES 0
    if s.is Fl.KRB_STATUS_TEST_PERMIT && s.inRun && s.role == 3 && s.slotRate k != 0 then
      let g : TestGen := { slot := k, point := w / 256 % 2, shape := w / 4096 % 8, amp := sInt (s.rd Reg.LOOP_TEST_AMP)
                           offset := sInt (s.rd Reg.LOOP_TEST_OFFSET), freq := s.rd Reg.LOOP_TEST_FREQ
                           freqEnd := s.rd Reg.LOOP_TEST_FREQ_END, freqStep := s.rd Reg.LOOP_TEST_FREQ_STEP
                           dur := s.rd Reg.LOOP_TEST_DUR }
      let s : State := { s with loop := { s.loop with gen := g } }
      ((s.put Fl.LOOP_TEST_STATUS_STATE 1).put Fl.LOOP_TEST_STATUS_CAUSE 0).flag Fl.LOOP_TEST_CTL_GO true
    else ((s.put Fl.LOOP_TEST_STATUS_STATE 3).put Fl.LOOP_TEST_STATUS_CAUSE 1).flag Fl.LOOP_TEST_CTL_GO false

/-! ### Running slots -/

/-- LOOP_SLOT_RUN (R184 to R188, R194, R197). -/
def runSlot (s : State) (k : Nat) (x f : Int) (track : Option Int) (hold : Bool) (lo hi : Int) : State :=
  let first := s.get Fl.LOOP_TEST_STATUS_SAMPLES == 0
  let point := s.loop.gen.point
  let (inj, s) := s.injectSample k
  let s := s.when (inj.isSome && first) State.capGenerator
  let v := inj.getD 0
  let o := Sys2Proof.Machine.slotRun (s.slotReg k) (s.slotSt k)
    ⟨x, f, track, hold, lo, hi, if point = 0 then v else 0, if point = 1 then v else 0⟩
  let s := s.setSlot k o.st
  let s := s.wr (Reg.LOOP_SLOT_FLAGS k) (s.rd (Reg.LOOP_SLOT_FLAGS k) ||| o.flags)
  let s := ((s.wr (Reg.LOOP_SLOT_OUT k) (uInt o.st.u)).wr (Reg.LOOP_SLOT_I k) (uInt o.st.i)).wr (Reg.LOOP_SLOT_IN k) (uInt o.x)
  (s.wr (Reg.LOOP_SLOT_FF k) (uInt f)).capRun k f o inj (inj.isSome && first)

/-- A GO holds the setpoint registers' values until the leg boundary (R172). -/
def spGo (s : State) (w : Nat) : State :=
  if !w.testBit 0 then s else
    let q : SpReq := ⟨sInt (s.rd Reg.LOOP_SP_N), sInt (s.rd Reg.LOOP_SP_E), s.rd Reg.LOOP_SP_HDG, s.rd Reg.LOOP_MOVE_SPEED,
      s.rd Reg.LOOP_MOVE_TURN, s.rd Reg.LOOP_MOVE_ACCEL, w / 2 % 4, w.testBit 3⟩
    { s with loop := { s.loop with go := some q } }

/-- A held write of LOOP_SLOT_CTL: requests of earlier held writes stay (R190). -/
def slotCtl (s : State) (k w : Nat) : State :=
  let old := ((aGet s.staged (Reg.LOOP_SLOT_CTL k)).map (·.toNat)).getD 0
  s.stage (Reg.LOOP_SLOT_CTL k) (old / 2 ^ 30 * 2 ^ 30 ||| (w &&& 0xC0000030))

/-- The limits of a slot's registers. -/
def slotLimits (s : State) (k : Nat) : Int × Int := (sInt (s.rd (Reg.LOOP_SLOT_LIM_LO k)), sInt (s.rd (Reg.LOOP_SLOT_LIM_HI k)))

/-- What the lane manager supplies to a bound slot: x, f and the tracking value (R258); `az` for SLOT_AZ. -/
def laneInput (s : State) (n : Nat) (az : Bool) : Int × Int × Option Int :=
  let st := s.laneState n
  let c := s.laneCommand n
  let track : Option Int := if st = 1 ∨ st = 4 then some 0 else none
  if az then
    (sat32 (rnd ((angDiff c.1 (s.rd (Reg.LANE_AZ n)) : Rat) * 2 * piQ / 16)), 0, track)
  else if laneKind s n = 4 then (sat32 (sInt (s.rd (Reg.LANE_AUX_SP n)) - sInt (s.rd (Reg.LANE_T n))), 0, track)
  else (sat32 (c.2 - sInt (s.rd (Reg.LANE_T n))), c.2, track)

/-- The lane and end that a slot is bound to (R255). -/
def slotLane (s : State) (k : Nat) : Option (Nat × Bool) :=
  match s.lanesOn.find? (fun n => s.get (Fl.LANE_BIND_SLOT_AZ n) == k || s.get (Fl.LANE_BIND_SLOT_T n) == k) with
  | none => none
  | some n => some (n, s.get (Fl.LANE_BIND_SLOT_AZ n) == k)

/-- The lane loops of a pace (R34, R37): every PACE slot in slot order. -/
def runPaceSlots (s : State) : State :=
  if !s.isOpen 6 then s else
    s.each ((List.range 96).filter (fun k => s.slotRate k == 1)) (fun s k =>
      let (lo, hi) := s.slotLimits k
      match (if s.isOpen 13 then s.slotLane k else none) with
      | some (n, az) => let (x, f, t) := s.laneInput n az; s.runSlot k x f t false lo hi
      | none => s.runSlot k (s.slotSt k).reqX (s.slotSt k).reqF none false lo hi)

/-! ### Guidance (R172 to R175) -/

/-- The law's mode from the level in force (R180, R181): 0 LAW, 1 D3_HOLD, 2 JOYSTICK. -/
def lawMode (s : State) : Nat := match s.get Fl.FUS_DETOUR_LEVEL with | 3 => 1 | 4 => 2 | _ => 0

/-- The parameter words of the first GUIDE instance of the image's route graphs (R76, R77, R173). -/
def guideParams (s : State) : List Nat :=
  let b := sectionOf s 1
  let rec graphs (n : Nat) (b : Bytes) : List Nat :=
    match n with
    | 0 => []
    | n + 1 =>
      let inst := beAt b 20 4
      let hit := (List.range (beAt b 10 2)).find? (fun i => byteAt b (inst + 24 * i) == 0x10)
      match hit with
      | some i =>
        let o := inst + 24 * i
        (List.range (beAt b (o + 2) 2)).map (fun j => beAt b (beAt b 24 4 + 4 * (beAt b (o + 4) 4 + j)) 4)
      | none => graphs n (b.drop (beAt b 28 4))
  graphs (beAt b 0 2) (b.drop 4)

/-- The image's ceilings in µm/s, µrad/s, µm/s² and µrad/s², from binary32 SI parameters (log entry 32). -/
def guideCeil (s : State) (i : Nat) : Nat := (rnd (f32Q ((s.guideParams).getD i 0) * 1000000)).toNat

/-- The smaller of the host's limit and the image's ceiling; zero means the ceiling (R173). -/
def effLimit (host ceil : Nat) : Nat := if host = 0 then ceil else min host ceil

/-- A binary angle in nrad. -/
def angNano (a : Int) : Int := rnd ((a : Rat) * 2 * piQ * 1000000000 / ((2 ^ 32 : Nat) : Rat))
/-- nrad as a binary angle. -/
def nanoAng (x : Int) : Nat := toAng ((x : Rat) / 1000000000)

/-- Θ of R174, as a signed number of 2^-32 turns. -/
def turnAngle (dir old new : Nat) : Int :=
  let d := (new + 2 ^ 32 - old) % 2 ^ 32
  match dir with
  | 0 => if d = 2 ^ 31 then 2 ^ 31 else sInt d
  | 1 => d
  | _ => if d = 0 then 0 else (d : Int) - 2 ^ 32

/-- The estimate of the last observer mark: north, east (mm) and heading. -/
def estimate (s : State) : Int × Int × Nat := (sInt (s.rd Reg.FUS_EST_N), sInt (s.rd Reg.FUS_EST_E), s.rd Reg.FUS_EST_HDG)

/-- SETPOINT_APPLY (R172 to R174). -/
def setpointApply (s : State) : State :=
  match s.loop.go with
  | none => s
  | some g =>
    let s : State := { s with loop := { s.loop with go := none } }
    let e := s.estimate
    let (n, ea, h) := if g.here then e else (g.n, g.e, g.hdg)
    let far (a b : Int) : Bool := decide ((a - b).natAbs > 10000000)
    let l := s.loop
    if far n 0 || far ea 0 || (s.get Fl.LOOP_STATUS_ORIGIN == 3 && (far n l.spN || far ea l.spE)) then
      s.flag Fl.LOOP_STATUS_SP_REFUSED true
    else
      { s with loop := { l with
          spN := n, spE := ea, spH := h, dir := g.dir
          speed := effLimit g.speed (s.guideCeil 0), turn := effLimit g.turn (s.guideCeil 1)
          accel := effLimit g.accel (s.guideCeil 2)
          tgtH := l.refH + angNano (turnAngle g.dir (nanoAng l.refH) h) } }

/-- One guidance step of a scalar magnitude: the new velocity along and across are formed by the caller; this is vmax =
min(limit, sqrt(2 a |d|)) (R175), d in µm and the result in µm/s (or the same of µrad). -/
def guideSpeed (limit accel : Nat) (d : Rat) : Rat :=
  let v := sqrtQ (2 * (accel : Rat) * d)
  if v < (limit : Rat) then v else limit

/-- The position part of a guidance run (R175). -/
def guidePosition (s : State) : State :=
  let l := s.loop
  let tms := s.legPaces
  let dn : Rat := (l.spN * 1000000 - l.refN : Int)
  let de : Rat := (l.spE * 1000000 - l.refE : Int)
  let dist := sqrtQ (dn * dn + de * de)
  let vmax := guideSpeed l.speed l.accel (dist / 1000)
  let (wn, we) := if dist = 0 then ((0 : Rat), (0 : Rat)) else (vmax * dn / dist, vmax * de / dist)
  let dvn := wn - (l.vN : Rat)
  let dve := we - (l.vE : Rat)
  let lim : Rat := (l.accel * tms : Nat) / 1000
  let len := sqrtQ (dvn * dvn + dve * dve)
  let k : Rat := if len > lim then lim / len else 1
  let vn := rnd ((l.vN : Rat) + dvn * k)
  let ve := rnd ((l.vE : Rat) + dve * k)
  let rn := l.refN + vn * tms
  let re := l.refE + ve * tms
  let an := l.spN * 1000000 - rn
  let ae := l.spE * 1000000 - re
  let near := decide (an * an + ae * ae ≤ 1000000 * 1000000) && decide ((vn * vn + ve * ve : Rat) ≤ lim * lim)
  if near then { s with loop := { l with refN := l.spN * 1000000, refE := l.spE * 1000000, vN := 0, vE := 0 } }
  else { s with loop := { l with refN := rn, refE := re, vN := vn, vE := ve } }

/-- The heading part of a guidance run (R175). -/
def guideHeading (s : State) : State :=
  let l := s.loop
  let tms := s.legPaces
  let alpha := s.guideCeil 3
  let d : Rat := (l.tgtH - l.refH : Int)
  let vmax := guideSpeed l.turn alpha (absQ d / 1000)
  let want : Rat := if d > 0 then vmax else if d < 0 then -vmax else 0
  let dv := want - (l.vH : Rat)
  let lim : Rat := (alpha * tms : Nat) / 1000
  let dv := if dv > lim then lim else if dv < -lim then -lim else dv
  let v := rnd ((l.vH : Rat) + dv)
  let r := l.refH + v * tms
  if decide ((l.tgtH - r).natAbs ≤ angNano 0x2E9A) && decide (absQ (v : Rat) ≤ lim) then
    let t := angNano (sInt (nanoAng l.tgtH))
    { s with loop := { l with refH := t, tgtH := t, vH := 0 } }
  else { s with loop := { l with refH := r, vH := v } }

/-- The reference set to the committed estimate with zero velocity. -/
def refHere (s : State) : State :=
  let e := s.estimate
  { s with loop := { s.loop with refN := e.1 * 1000000, refE := e.2.1 * 1000000, vN := 0, vE := 0 } }

/-- On leaving D4 the setpoint becomes the estimate, as for HOLD_HERE (R181). -/
def rebase (s : State) : State :=
  let e := s.estimate
  let h := angNano (sInt e.2.2)
  ({ s.refHere with loop := { s.refHere.loop with spN := e.1, spE := e.2.1, spH := e.2.2, refH := h, tgtH := h, vH := 0 } } : State).flag
    Fl.LOOP_STATUS_REBASED true

/-- GUIDANCE_RUN (R175, R180, R181), once per leg after the observer mark. -/
def guidanceRun (s : State) : State :=
  let m := s.lawMode
  let s := if s.loop.wasD4 && m != 2 then s.rebase else if s.loop.wasD3 && m == 0 then s.refHere else s
  let s : State := { s with loop := { s.loop with wasD4 := m == 2, wasD3 := m != 0 } }
  let s := if m = 0 then s.guidePosition.guideHeading else if m = 1 then s.refHere.guideHeading else s.refHere
  let l := s.loop
  (s.flag Fl.LOOP_STATUS_MOVING (l.refN != l.spN * 1000000 || l.refE != l.spE * 1000000 || l.refH != l.tgtH)).put
    Fl.LOOP_STATUS_MODE m

/-! ### The classic law (R177 to R181) -/

/-- Earth to body in the horizontal plane: surge and sway of (n, e) at heading ψ. -/
def toBody (psi : Nat) (n e : Rat) : Rat × Rat :=
  let c := cosQ (angQ psi)
  let t := sinQ (angQ psi)
  (c * n + t * e, -t * n + c * e)

/-- x_k of R177 before saturation. -/
def lawError (s : State) (k : Nat) : Int :=
  let e := s.estimate
  let l := s.loop
  let dn : Rat := (l.refN - e.1 * 1000000 : Int)
  let de : Rat := (l.refE - e.2.1 * 1000000 : Int)
  let b := toBody e.2.2 dn de
  match k with
  | 0 => rnd (b.1 * ((2 ^ 24 : Nat) : Rat) / 1000000000)
  | 1 => rnd (b.2 * ((2 ^ 24 : Nat) : Rat) / 1000000000)
  | _ => rnd (angQ ((nanoAng l.refH + 2 ^ 32 - e.2.2) % 2 ^ 32) * ((2 ^ 28 : Nat) : Rat))

/-- f_k of R178: damping, bias and wind, each operation rounded to binary32 in the order of the rule's table, and the sum
converted to I32 (log entry 85). -/
def lawFeed (s : State) (k : Nat) : Int :=
  let psi := s.rd Reg.FUS_EST_HDG
  let m := s.lawMode
  let l := s.loop
  let vr := if m = 0 then toBody psi l.vN l.vE else (0, 0)
  let nuRef : Rat := match k with | 0 => vr.1 | 1 => vr.2 | _ => l.vH
  let nu : Int := sInt (s.rd (match k with | 0 => Reg.FUS_EST_U | 1 => Reg.FUS_EST_V | _ => Reg.FUS_EST_R))
  let damp := r32 (f32Q (s.rd (Reg.LOOP_LAW_KD k)) * r32 (nuRef - (nu : Rat)))
  let b := toBody psi (sInt (s.rd Reg.FUS_BIAS_N)) (sInt (s.rd Reg.FUS_BIAS_E))
  let bias : Rat := if s.is Fl.LOOP_LAW_CTL_BIAS_FF then
    -(match k with | 0 => b.1 | 1 => b.2 | _ => (sInt (s.rd Reg.FUS_BIAS_M) : Rat)) else 0
  let wind : Rat := if s.is Fl.LOOP_LAW_CTL_WIND_FF then
    -((s.get Fl.LOOP_LAW_CTL_W_FF : Nat) : Rat) / 32768 * f32Q (l.tauWind.getD k 0).toNat / (if k = 2 then 10 else 1) else 0
  rnd32 (r32 (r32 (damp + r32 bias) + r32 wind))

/-- The engine of the law graph (R177): the engine on which the loader placed the graph whose LOOP_REQ feeds one of slots 0 to
2; E6 where no graph does. -/
def lawEngine (s : State) : Nat :=
  let feeds (g : Bytes) : Bool := (List.range (gInsts g)).any (fun i =>
    byteAt (instAt g i) 0 == 0x18 && decide (instParam g (instAt g i) 0 < 3))
  match (graphsOf s).find? feeds with | some g => s.engineOf g | none => 6

/-- SAT_I32 of the law graph's engine and its count when a law error saturates (R177, R72). -/
def lawSat (s : State) (v : Int) : State :=
  let n := s.lawEngine
  s.when (sat32 v != v) (fun s => (s.flag (Fl.ENG_FLAGS_SAT_I32 n) true).count (Reg.ENG_SAT n))

/-- The limits of slot k of 0 to 2 (R179), `ext` the envelope's axis extremes (least, greatest). -/
def lawLimits (s : State) (k : Nat) (ext : List (Int × Int)) : Int × Int × Bool :=
  let (lo, hi) := s.slotLimits k
  if s.is Fl.LOOP_LAW_CTL_ENV_LIM then
    match ext[k]? with
    | some (a, b) =>
      let l := max lo a
      let h := min hi b
      if l > h then (a, b, true) else (l, h, false)
    | none => (lo, hi, false)
  else (lo, hi, false)

/-- A component of the classic τ is valid (R71, R183): its law graph's engine is open, and its last LOOP_REQ had no invalid
input. -/
def lawValid (s : State) (k : Nat) : Bool := s.engOpen s.lawEngine && !s.loop.bad.contains k

/-- The LEG slots' runs after the envelope mark (R38, R177 to R181): the classic law in slots 0 to 2, then every other
LEG slot. -/
def runLegSlots (s : State) (ext : List (Int × Int)) : State :=
  if !s.isOpen 6 then s else
    let m := s.lawMode
    let active := s.rd Reg.LOOP_BLEND_W != 0 || m == 2
    let s := s.flag Fl.LOOP_STATUS_ENV_OVERRIDE false
    let s := s.each ((List.range 3).filter (fun k => s.slotRate k == 2 && s.lawValid k)) (fun s k =>
      let zero := m = 2 ∨ (m = 1 ∧ k < 2)
      let e := s.lawError k
      let s := if zero then s else s.lawSat e
      let (lo, hi, env) := s.lawLimits k ext
      let s := s.when env (fun s => s.flag Fl.LOOP_STATUS_ENV_OVERRIDE true)
      s.runSlot k (if zero then 0 else sat32 e) (s.lawFeed k) (if active then some (s.loop.tau.getD k 0) else none)
        (m == 1 && k < 2) lo hi)
    let s := s.each ((List.range 96).filter (fun k => 3 ≤ k && s.slotRate k == 2)) (fun s k =>
      let (lo, hi) := s.slotLimits k
      s.runSlot k (s.slotSt k).reqX (s.slotSt k).reqF none false lo hi)
    s.each (List.range 3) (fun s k => s.wr (Reg.LOOP_TAU_CL k) (s.rd (Reg.LOOP_SLOT_OUT k)))

/-! ### The demand (R181 to R183) -/

/-- The joystick τ, with the ramp to zero over 2 s while stale (R181). -/
def joyTau (s : State) : List Int :=
  match s.loop.ramp with
  | some (t, from_) => from_.map (fun v => divRound (v * ((2000000000 - min 2000000000 (s.now - t) : Nat) : Int)) 2000000000)
  | none => [sInt (s.rd Reg.LOOP_JOY_X), sInt (s.rd Reg.LOOP_JOY_Y), sInt (s.rd Reg.LOOP_JOY_N)]

/-- R182 for one component. -/
def blend (w : Nat) (cl pl : Int) : Int := sat32 (cl + divRound (w * (pl - cl)) 32768)

/-- The demand mark's τ (R182). -/
def formDemand (s : State) (w : Nat) : State :=
  let m := s.lawMode
  let we := if m = 0 then w else 0
  let j := s.joyTau
  let s := s.each (List.range 3) (fun s k =>
    s.wr (Reg.LOOP_TAU k) (uInt (if m = 2 then j.getD k 0 else
      blend we (sInt (s.rd (Reg.LOOP_TAU_CL k))) (sInt (s.rd (Reg.LOOP_TAU_PL k))))))
  s.wr Reg.LOOP_BLEND_W we

/-- DEMAND_IN_FORCE (R39). -/
def demandInForce (s : State) : State :=
  { s with loop := { s.loop with tau := (List.range 3).map (fun k => sInt (s.rd (Reg.LOOP_TAU k))) } }

/-- JOY_STALE (R181): in JOYSTICK, no joystick register written for LOOP_JOY_TMO ms. -/
def joyStale (s : State) : State :=
  if s.lawMode = 2 ∧ s.loop.ramp.isNone ∧ s.loop.joyAt + s.get ⟨Reg.LOOP_JOY_TMO, 15, 0⟩ * 1000000 ≤ s.now then
    let s : State := { s with loop := { s.loop with ramp := some (s.now, s.joyTau), ended := false } }
    ((s.flag Fl.LOOP_STATUS_JOY_STALE true).logEv Ev.JOY_STALE).irq 19
  else s

/-- A joystick write: the next leg boundary ends a ramp (R181). -/
def joyWritten (s : State) : State := { s with loop := { s.loop with joyAt := s.now, ended := true } }

/-- At a leg boundary a ramp that a write has ended stops. -/
def joyBoundary (s : State) : State :=
  if s.loop.ended then
    ({ s with loop := { s.loop with ramp := none, ended := false } } : State).flag Fl.LOOP_STATUS_JOY_STALE false
  else s

/-! ### Slot writes at their boundary (R190, R191) -/

/-- LOOP_SLOT_CTL applied: AW, then CLR, then I_LOAD. -/
def applySlotCtl (s : State) (k w : Nat) : State :=
  let s := s.put (Fl.LOOP_SLOT_CTL_AW k) (w / 16)
  let x := s.slotSt k
  let s := if w.testBit 31 then s.setSlot k { x with secs := [], i := 0, u := 0, u1 := 0 } else s
  if w.testBit 30 then s.setSlot k { s.slotSt k with i := sInt (s.rd (Reg.LOOP_SLOT_I_PRESET k)) } else s

/-- The slots whose staged limits would cross at this boundary (R190). -/
def limitsCross (s : State) (k : Nat) : Bool :=
  let lo := aGet s.staged (Reg.LOOP_SLOT_LIM_LO k)
  let hi := aGet s.staged (Reg.LOOP_SLOT_LIM_HI k)
  (lo.isSome || hi.isSome) && decide (sInt ((lo.map (·.toNat)).getD (s.rd (Reg.LOOP_SLOT_LIM_LO k))) >
    sInt ((hi.map (·.toNat)).getD (s.rd (Reg.LOOP_SLOT_LIM_HI k))))

/-- SLOT_LIMITS_REFUSED: both staged limits of a crossing slot are dropped and BAD_WRITE is set. -/
def refuseLimits (s : State) (ks : List Nat) : State :=
  s.each (ks.filter s.limitsCross) (fun s k =>
    ({ s with staged := aDel (aDel s.staged (Reg.LOOP_SLOT_LIM_LO k)) (Reg.LOOP_SLOT_LIM_HI k) } : State).badWrite
      (if (aGet s.staged (Reg.LOOP_SLOT_LIM_HI k)).isSome then Reg.LOOP_SLOT_LIM_HI k else Reg.LOOP_SLOT_LIM_LO k))

/-- The loop engine restarts: every slot at zero (R191, R192). -/
def loopReopened (s : State) : State :=
  ({ s with loop := { s.loop with slots := [], bad := [] } } : State).flag Fl.LOOP_STATUS_REOPENED true

/-- The origin's registers as a working epoch fixes them (R171). -/
def originFix (s : State) : State :=
  if s.is ⟨Reg.LOOP_ORIGIN_CTL, 0, 0⟩ then
    ({ s with loop := { s.loop with
        originLat := s.rd Reg.LOOP_ORIGIN_LAT, originLon := s.rd Reg.LOOP_ORIGIN_LON, originHgt := s.rd Reg.LOOP_ORIGIN_HGT } } : State).put
      Fl.LOOP_STATUS_ORIGIN 1
  else s.put Fl.LOOP_STATUS_ORIGIN 0

end State

end Sys2Proof.Machine
end

