-- ==== Sys2Proof/Machine/Observer.lean ====
section
/-! DEFINITION. Machine/Observer.lean: the extended Kalman filter (R147, R150 to R156, R162): the states present, the prediction
of R151, the innovation of a sample against the history of R152, the gate's NIS, and the correction. The filter's arithmetic is
that of binary32 numbers, rounded where a state or a covariance is stored (log entry 85). -/

namespace Sys2Proof.Machine

/-- The track of a fusion input (R140); 64 to 66 are the baseband's own deliveries. -/
def destTrack (d : Nat) : Nat :=
  if d < 8 then d else if d < 16 then d - 8 else if d < 19 then d - 8 else if d < 22 then d - 11
  else if d < 31 then 12 + (d - 22) / 3 else if d < 37 then 15 + (d - 31) / 2 else if d < 44 then d - 36
  else if d = 65 then 11 else 0

/-- R·v in the horizontal plane for R of a heading in radians. -/
def rotZ (psi : Rat) (x y : Rat) : Rat × Rat := (cosQ psi * x - sinQ psi * y, sinQ psi * x + cosQ psi * y)

namespace State

/-- A track; one that nothing has written yet is as at reset. -/
def trkOf (s : State) (t : Nat) : Trk := aGetD s.fus.trk t {}
/-- A track written. -/
def setTrk (s : State) (t : Nat) (x : Trk) : State := { s with fus := { s.fus with trk := aSet s.fus.trk t x } }

/-- The model record of a track (R364). -/
def trkRec (s : State) (t : Nat) : Bytes := ((sectionOf s 5).drop (616 + 32 * t)).take 32

/-- KIND of a position reference (R141). -/
def posKind (s : State) (t : Nat) : Nat := if t < 8 then byteAt (s.trkRec t) 0 else 0

/-- A stream names one of some fusion inputs. -/
def namesDest (s : State) (ds : List Nat) : Bool := (strRecs s).any (fun r => ds.contains (byteAt r 23))

/-- A gyro is configured: heading or yaw rate (R139). -/
def gyroOn (s : State) (k : Nat) : Bool := s.namesDest [16 + k, 19 + k]

/-- A track is configured (R139). -/
def trkOn (s : State) (t : Nat) : Bool :=
  if t < 8 then s.posKind t != 0
  else if t < 11 then s.gyroOn (t - 8)
  else if t = 11 then s.is Fl.GNS_CTL_HDG_EN
  else if t < 15 then s.namesDest [22 + 3 * (t - 12), 23 + 3 * (t - 12), 24 + 3 * (t - 12)]
  else s.namesDest [31 + 2 * (t - 15), 32 + 2 * (t - 15)]

/-- The number of states present (R150). -/
def stateCount (s : State) : Nat :=
  15 + 2 * ((List.range 8).filter s.trkOn).length + (if s.posKind 0 = 1 then 2 else 0) +
    ((List.range 3).filter s.gyroOn).length

/-! ### The states present (R150) and the model (R151) -/

/-- The states present, by their index in the full layout. -/
def obsIdx (s : State) : List Nat :=
  List.range 15 ++ ((List.range 8).filter s.trkOn).flatMap (fun t => [15 + 2 * t, 16 + 2 * t]) ++
    (if s.posKind 0 = 1 then [31, 32] else []) ++ ((List.range 3).filter s.gyroOn).map (33 + ·)

/-- The committed states, in the order of the states present. -/
def obsX (s : State) : Vec := s.fus.obs.x.map (fun w => f32Q w.toNat)

/-- The committed covariance. -/
def obsP (s : State) : Mat := s.fus.obs.p.map (fun r => r.map (fun w => f32Q w.toNat))

/-- A state of the full layout in a vector of the states present; zero where it is absent. -/
def obsAt (s : State) (x : Vec) (k : Nat) : Rat := x.getD (s.obsIdx.idxOf k) 0

/-- The hull of the MODEL section: the image's values, which identification never changes (R151, R225). -/
def obsHull (s : State) : Hull := hullOf ((List.range 10).map (fun i => fAt (sectionOf s 5) (4 * i)))

/-- ω₀ of a degree of freedom; a T_p of zero stands for the default of 8 s (R151). -/
def waveW0 (s : State) (d : Nat) : Rat :=
  let t := fAt (sectionOf s 5) (496 + 4 * d)
  2 * piQ / (if t = 0 then 8 else t)

/-- A process-noise density: 0 ν, 1 ξ, 2 b, 3 reference bias, 4 gyro bias, 5 clock bias, 6 clock drift (R364). -/
def density (s : State) (i : Nat) : Rat := fAt (sectionOf s 5) (508 + 4 * i)

/-- The density of a track's reference bias: its Q_REF, or the general one where the record holds none (log entry 88). -/
def biasDensity (s : State) (t : Nat) : Rat := let q := fAt (s.trkRec t) 20; if q = 0 then s.density 3 else q

/-- The demand in force and the wind force, as the model takes them: N, N and N·m. -/
def obsForce (s : State) : Vec :=
  let t (k : Nat) : Rat := (s.loop.tau.getD k 0 : Int)
  vAdd [t 0, t 1, 10 * t 2] (s.loop.tauWind.map (fun w => f32Q w.toNat))

/-- The time of the prediction in s: from the last state committed to the present leg boundary; after a late observer mark it
covers two legs (R40). -/
def obsSpan (s : State) : Rat := ((s.fus.legClk - s.fus.obs.stamp : Nat) : Rat) / 1000000000

/-- The time derivative of the twelve states of motion and waves. -/
def obsRates (s : State) (earth : Vec) (x : Vec) : Vec :=
  let wave (d : Nat) : Vec :=
    let w := s.waveW0 d
    let p := x.getD (6 + 2 * d) 0
    let v := x.getD (7 + 2 * d) 0
    [v, -(w * w * p) - w * v / 5]
  hullRates s.obsHull s.obsForce earth (x.take 6) ++ (List.range 3).flatMap wave

/-- An element of the model's derivative by the states of the full layout. -/
def obsSlope (s : State) (j : Mat × (Mat × Mat)) (r c : Nat) : Rat :=
  if r < 6 then (if c < 6 then mAt j.1 r c else if 12 ≤ c && c < 15 then mAt j.2.2 r (c - 12) else 0)
  else if r < 12 then
    let w := s.waveW0 ((r - 6) / 2)
    if r % 2 = 0 then (if c = r + 1 then 1 else 0)
    else if c + 1 = r then -(w * w) else if c = r then -(w / 5) else 0
  else if r = 31 && c = 32 then 1 else 0

/-- An element of the process noise per second; a coast holds b and the biases of its kind without noise (R162). -/
def obsNoise (s : State) (inv : Mat) (r c : Nat) : Rat :=
  if 3 ≤ r && r < 6 && 3 ≤ c && c < 6 then s.density 0 * vDot (inv.getD (r - 3) []) (inv.getD (c - 3) [])
  else if r != c then 0
  else
    let pos := s.fus.posCoast.isSome
    let hdg := s.fus.hdgCoast.isSome
    if 6 ≤ r && r < 12 then (if r % 2 = 1 then s.density 1 else 0)
    else if 12 ≤ r && r < 15 then (if pos || hdg then 0 else s.density 2)
    else if 15 ≤ r && r < 31 then (if pos then 0 else s.biasDensity ((r - 15) / 2))
    else if r = 31 then s.density 5
    else if r = 32 then s.density 6
    else if 33 ≤ r then (if hdg then 0 else s.density 4)
    else 0

/-- The prediction of R151 to the present leg boundary: states by one Runge–Kutta step, covariance by I + A T. -/
def obsPrior (s : State) : Vec × Mat :=
  let idx := s.obsIdx
  let x := s.obsX
  let at_ := s.obsAt x
  let t := s.obsSpan
  let earth := [at_ 12, at_ 13, at_ 14]
  let m := rk4 (s.obsRates earth) t ((List.range 12).map at_)
  let next (k : Nat) : Rat :=
    if k = 2 then r32 (wrapPi (m.getD 2 0)) else if k < 12 then m.getD k 0
    else if k = 31 then r32 (at_ 31 + t * at_ 32) else at_ k
  let j := hullJac s.obsHull earth ((List.range 6).map at_)
  let inv := hullInv s.obsHull
  let phi := idx.map (fun r => idx.map (fun c => (if r = c then 1 else 0) + t * s.obsSlope j r c))
  let n := idx.length
  let q := idx.map (fun r => idx.map (fun c => t * s.obsNoise inv r c))
  (idx.map next, mStore (mAdd (mMul n (mStore (mMul n phi s.obsP)) (mT n phi)) q))

/-! ### Measurements (R147, R152, R153) -/

/-- The state at a stamp: linear between the two leg states around it, the present prediction being the newest (R152). -/
def obsInterp (s : State) (prior : Vec) (t : Nat) : Vec :=
  let rec go (t1 : Nat) (x1 : Vec) : List (Nat × List Word) → Vec
    | [] => x1
    | (t0, w0) :: l =>
      let x0 := w0.map (fun w => f32Q w.toNat)
      if t < t0 then go t0 x0 l
      else
        let k := ((t - t0 : Nat) : Rat) / ((max 1 (t1 - t0) : Nat) : Rat)
        let d := List.set (vSub x1 x0) 2 (wrapPi (x1.getD 2 0 - x0.getD 2 0))
        vAdd x0 (vScale k d)
  if s.fus.legClk ≤ t then prior else go s.fus.legClk prior s.fus.obs.hist

/-- The rows of a measurement by index of the full layout: position and heading see η + ξ₂ and the bias of their source, a yaw
rate sees r and the gyro's bias, a range and a range rate see the antenna's motion along the line of sight and the receiver
clock (R147, R151, R118). -/
def measRows (s : State) (x : Vec) (m : Meas) : List (List (Nat × Rat)) :=
  let gyro (k : Nat) : List (Nat × Rat) := if k < 3 then [(33 + k, 1)] else []
  let l (i : Nat) : Rat := ((m.dir.getD i 0 : Int) : Rat) / ((2 ^ 30 : Nat) : Rat)
  let psi := s.obsAt x 2
  let c := cosQ psi
  let n := sinQ psi
  let u := s.obsAt x 3
  let v := s.obsAt x 4
  match m.kind with
  | 1 => [[(2, 1), (11, 1)] ++ gyro (m.trk - 8)]
  | 2 => [[(5, 1)] ++ gyro (m.trk - 8)]
  | 3 => [[(0, -(l 0)), (1, -(l 1)), (7, -(l 0)), (9, -(l 1)), (15, -(l 0)), (16, -(l 1)), (31, 1)]]
  | 4 => [[(2, l 0 * (n * u + c * v) - l 1 * (c * u - n * v)), (3, -(l 0 * c) - l 1 * n), (4, l 0 * n - l 1 * c), (32, 1)]]
  | _ => [[(0, 1), (7, 1), (15 + 2 * m.trk, 1)], [(1, 1), (9, 1), (16 + 2 * m.trk, 1)]]

/-- The rows over the states present. -/
def measH (s : State) (rows : List (List (Nat × Rat))) : Mat :=
  rows.map (fun r => s.obsIdx.map (fun k => sumQ ((r.filter (fun e => e.1 == k)).map (·.2))))

/-- The measured values in m, rad, rad/s or m/s; of a range and a range rate their innovation, as the baseband forms it. -/
def measZ (m : Meas) : Vec :=
  match m.kind with
  | 1 => [angQ (uInt m.pn)]
  | 2 => [(m.pn : Rat) / 1000000]
  | 3 => [(m.pn : Rat) / 1000]
  | 4 => [(m.pn : Rat) / 1000]
  | _ => [(m.pn : Rat) / 1000000, (m.pe : Rat) / 1000000]

/-- The measurement's covariance. -/
def measR (m : Meas) : Mat :=
  let nano : Rat := (m.vn : Rat) / 1000000000
  match m.kind with
  | 1 => [[nano * nano]]
  | 2 => [[nano * nano]]
  | 3 => [[f32Q m.vn]]
  | 4 => [[f32Q m.vn]]
  | _ =>
    let v (a : Int) : Rat := (a : Rat) / 1000000000000
    [[v m.vn, v m.vne], [v m.vne, v m.ve]]

/-- The innovation of a measurement against the interpolated state, less what the corrections of this leg have taken of it
already (R152). -/
def innovation (s : State) (prior x : Vec) (m : Meas) : Vec :=
  let h := s.measH (s.measRows prior m)
  let z := measZ m
  let nu := if m.kind = 3 || m.kind = 4 then z else vSub z (mVec h (s.obsInterp prior m.stamp))
  let nu := if m.kind = 1 then nu.map wrapPi else nu
  vSub nu (mVec h (vSub x prior))

/-- H P Hᵀ + R. -/
def innovCov (s : State) (h p : Mat) (m : Meas) : Mat := mAdd (mMul h.length (mMul s.obsIdx.length h p) (mT s.obsIdx.length h)) (measR m)

/-- The innovation and NIS of a measurement against the prediction (R153). -/
def nisOf (s : State) (prior : Vec × Mat) (m : Meas) : Vec × Word :=
  let nu := s.innovation prior.1 prior.1 m
  let si := mInv2 (s.innovCov (s.measH (s.measRows prior.1 m)) prior.2 m)
  (nu, w32 (vDot nu (mVec si nu)))

/-! ### The correction (R152, R156, R159, R162) -/

/-- The states that no correction moves: b and the biases that a coast holds (R162). -/
def heldState (s : State) (k : Nat) : Bool :=
  (s.fus.posCoast.isSome && decide (12 ≤ k) && decide (k < 31)) ||
  (s.fus.hdgCoast.isSome && ((decide (12 ≤ k) && decide (k < 15)) || decide (33 ≤ k)))

/-- How a measurement enters the update: 0 not at all, 1 all states, 2 the track's own bias alone with η fixed (R156, R159). A
gyro that delivers only rate stays ABSENT and its rates are used (R139). -/
def measUse (s : State) (m : Meas) : Nat :=
  let st := (s.trkOf m.trk).st
  if m.kind = 5 || !m.pass || (aGet s.fus.marks m.trk).isSome then 0
  else if m.kind = 2 then (if st = 1 || (st = 0 && !s.namesDest [m.trk + 8]) then 1 else 0)
  else if st = 1 then 1
  else if st = 2 && m.trk < 8 then 2
  else 0

/-- One correction: gain, state and covariance in Joseph's form. -/
def correct (s : State) (prior : Vec) (xp : Vec × Mat) (m : Meas) : Vec × Mat :=
  let use := s.measUse m
  if use = 0 then xp
  else
    let idx := s.obsIdx
    let n := idx.length
    let own (k : Nat) : Bool := k == 15 + 2 * m.trk || k == 16 + 2 * m.trk
    let rows := s.measRows prior m
    let h := s.measH (if use = 2 then rows.map (fun r => r.filter (fun e => own e.1)) else rows)
    let nu := s.innovation prior xp.1 m
    let sv := s.innovCov h xp.2 m
    let hp := mMul n h xp.2
    let l := mMul h.length (mT n hp) (mInv2 sv)
    let l := (idx.zip l).map (fun e => if s.heldState e.1 || (use = 2 && !own e.1) then vZero h.length else e.2)
    let lh := mMul n l hp
    let x := vAdd xp.1 (mVec l nu)
    let p := mAdd (mSub (mSub xp.2 lh) (mT n lh)) (mMul n (mMul h.length l sv) (mT h.length l))
    (vStore (List.set x 2 (wrapPi (x.getD 2 0))), mStore p)

/-- States and covariance as stored. -/
def obsStore (s : State) (x : Vec) (p : Mat) : State :=
  { s with fus := { s.fus with obs := { s.fus.obs with x := x.map w32, p := p.map (fun r => r.map w32) } } }

/-- The observer's update of a leg whose mark is met: prediction, corrections in stamp order, the leg's state into the history
of the last 1.0 s (R152). -/
def obsUpdate (s : State) : State :=
  if !s.fus.hdgSet || s.fus.obs.x.isEmpty then s
  else
    let pr := s.obsPrior
    let u := s.fus.gated.foldl (fun xp m => s.correct pr.1 xp m) pr
    let s := s.obsStore u.1 u.2
    let o := s.fus.obs
    let keep := ((s.fus.legClk, o.x) :: o.hist).filter (fun h => decide (s.fus.legClk ≤ h.1 + 1000000000))
    { s with fus := { s.fus with obs := { o with stamp := s.fus.legClk, hist := keep } } }

/-- A state set to a value that a sample gives, with its variance and no correlation (R158, R157). -/
def obsSet (s : State) (k : Nat) (v var : Rat) : State :=
  let i := s.obsIdx.idxOf k
  let p := (List.range s.obsIdx.length).map (fun r => (List.range s.obsIdx.length).map (fun c =>
    if r = i && c = i then var else if r = i || c = i then 0 else mAt s.obsP r c))
  s.obsStore (List.set s.obsX i v) p

/-- A variance that no measurement gives (log entry 87). -/
def firstVar (k : Nat) : Rat := absQ (f32Q (Config.firstVar k % 2 ^ 32))

/-- The observer begins at the first heading (R158): every other state zero with its first variance. -/
def obsBegin (s : State) (psi var : Rat) : State :=
  let idx := s.obsIdx
  let s : State := { s with fus := { s.fus with obs := { stamp := s.fus.legClk } } }
  let s := s.obsStore (idx.map (fun k => if k = 2 then psi else 0)) (mDiag (idx.map (fun k => if k = 2 then var else firstVar k)))
  let o := s.fus.obs
  { s with fus := { s.fus with obs := { o with hist := [(s.fus.legClk, o.x)] } } }

/-- A committed state of the full layout. -/
def obsNow (s : State) (k : Nat) : Rat := s.obsAt s.obsX k
/-- A committed variance of the full layout. -/
def obsVar (s : State) (k : Nat) : Rat := let i := s.obsIdx.idxOf k; mAt s.obsP i i

end State

end Sys2Proof.Machine
end

