-- ==== Sys2Proof/Machine/FusionOps.lean ====
section
/-! DEFINITION. Machine/FusionOps.lean: the fusion unit (R139 to R170): inputs of a leg, measuring points, the gate, the
votes, track states, coasting and the Detour level. The filter itself is Machine/Observer.lean. -/

namespace Sys2Proof.Machine

/-- The middle of three numbers. -/
def median3 (a b c : Int) : Int := max (min a b) (min (max a b) c)

/-- The weighted median: the least value at which the weights reach half their sum (R159). -/
def weightedMedian (l : List (Int × Rat)) : Int :=
  let o := sortBy (fun a b => decide (a.1 < b.1)) l
  let half := o.foldl (fun t x => t + x.2) 0 / 2
  let rec go (acc : Rat) : List (Int × Rat) → Int
    | [] => 0
    | [x] => x.1
    | x :: r => if half ≤ acc + x.2 then x.1 else go (acc + x.2) r
  go 0 o

/-- A variance as a weight; a variance of zero weighs as 1 µm². -/
def weightOf (v : Nat) : Rat := 1 / ((max 1 v : Nat) : Rat)

namespace State

/-- The inputs that a track's streams feed, without yaw rates and velocity monitors. -/
def trkDests (t : Nat) : List Nat :=
  if t < 8 then [t, t + 8] else if t < 11 then [t + 8] else if t = 11 then []
  else if t < 15 then [22 + 3 * (t - 12), 23 + 3 * (t - 12), 24 + 3 * (t - 12)] else [31 + 2 * (t - 15), 32 + 2 * (t - 15)]

/-- A track's input is STALE under R94. -/
def trkStale (s : State) (t : Nat) : Bool :=
  (strRecs s).any (fun r => (trkDests t).contains (byteAt r 23) && s.get (Fl.SNS_STR_STATUS_STATE (byteAt r 0)) == 3)

/-- A discard of a track's sample (R143, R145, R152). -/
def discardTrk (s : State) (t : Nat) : State :=
  let x := s.trkOf t
  s.setTrk t (if x.discard = 0xFFFF then { x with discOvf := true } else { x with discard := x.discard + 1 })

/-! ### The leg's inputs -/

/-- The leg boundary that the prediction of the leg reaches (R151). -/
def fusionLeg (s : State) : State := { s with fus := { s.fus with legClk := s.clk } }

/-- The input cut-off of a leg boundary (R42, R152): samples stamped before it enter the leg in stamp order; those older
than 1.0 s are discarded and counted; a REPEATED output is no measurement (R95). -/
def fusionCutoff (s : State) : State :=
  let t := s.clk
  let (now, later) := (s.fus.parts ++ s.fus.inbox.filter (fun x => !x.rep)).partition (fun x => decide (x.stamp < t))
  let (old, fresh) := now.partition (fun x => decide (x.stamp + 1000000000 < t))
  let s : State := { s with fus := { s.fus with
    inbox := later, parts := [], inputs := sortBy (fun a b => decide (a.stamp < b.stamp)) fresh } }
  s.each old (fun s x => s.discardTrk (destTrack x.dest))

/-- A sample is recorded in its track (R156): the silence that it ends, and whether it repeats the last one (R154). -/
def recordSample (s : State) (t : Nat) (raw : List Int) (stamp : Nat) (fresh : Bool) : State :=
  let x := s.trkOf t
  let gap := match x.lastAt with | some a => s.now - a | none => 10 ^ 12
  let same := raw == x.raw && !fresh
  s.setTrk t { x with
    lastAt := some s.now, silent := if gap = 0 then x.silent else gap, stamp := stamp, raw := raw
    moved := x.moved || !same, sameFrom := if same then x.sameFrom else s.now }

/-- A component of an MRU or wind sensor. -/
def recordPart (s : State) (t i : Nat) (v : Int) (stamp : Nat) : State :=
  let x := s.trkOf t
  let old := x.raw.getD i 0
  let fresh := x.raw.length ≤ i || old != v
  let s := s.recordSample t ((x.raw ++ [0, 0, 0]).take 3 |>.set i v) stamp fresh
  if t < 15 then s.setTrk t { s.trkOf t with meas := List.set (s.trkOf t).meas i v } else s

/-! ### Attitude (R148) -/

/-- An MRU takes part in the vote. -/
def mruAvailable (s : State) (t : Nat) : Bool :=
  let st := (s.trkOf t).st
  s.trkOn t && !s.trkStale t && st != 3 && st != 0

/-- Two MRUs agree. -/
def mruAgree (s : State) (a b : List Int) : Bool :=
  let lim : Rat := (s.get Fl.FUS_AUX_GATE_ATT : Nat) * ((2 ^ 32 : Nat) : Rat) / 36000
  [0, 1].all (fun i => decide ((((angDiff (uInt (a.getD i 0)) (uInt (b.getD i 0))).natAbs : Nat) : Rat) ≤ lim))

/-- The MRU vote of a leg. -/
def mruVote (s : State) : State :=
  if !((List.range 3).any (fun k => s.trkOn (12 + k))) then
    ({ s with fus := { s.fus with att := [0, 0, 0], attBad := false } } : State).flag Fl.FUS_STATUS_MRU_DISAGREE false
  else
    let l := ((List.range 3).map (12 + ·)).filter s.mruAvailable
    let m (t : Nat) : List Int := (s.trkOf t).meas
    -- a component relative to the first MRU's: angles as differences under R8, heave as it is
    let rel (a t i : Nat) : Int :=
      if i < 2 then angDiff (uInt ((m t).getD i 0)) (uInt ((m a).getD i 0)) else (m t).getD i 0 - (m a).getD i 0
    let at_ (a i : Nat) (d : Int) : Int := if i < 2 then sInt (uInt ((m a).getD i 0 + d)) else (m a).getD i 0 + d
    let ok (v : List Int) (s : State) : State :=
      ({ s with fus := { s.fus with att := v, attBad := false } } : State).flag Fl.FUS_STATUS_MRU_DISAGREE false
    let bad (s : State) : State :=
      (({ s with fus := { s.fus with attBad := true } } : State).when (!s.is Fl.FUS_STATUS_MRU_DISAGREE) (fun s =>
        s.logEv Ev.MRU_DISAGREE)).flag Fl.FUS_STATUS_MRU_DISAGREE true
    match l with
    | [a] => ok ((List.range 3).map (fun i => at_ a i 0)) s
    | [a, b] =>
      if s.mruAgree (m a) (m b) then
        ok ((List.range 3).map (fun i => at_ a i (divRound (rel a b i) 2))) s
      else bad s
    | [a, b, c] =>
      let ab := s.mruAgree (m a) (m b)
      let ac := s.mruAgree (m a) (m c)
      let bc := s.mruAgree (m b) (m c)
      if ab || ac || bc then
        let out := (if !ab && !ac then [a] else []) ++ (if !ab && !bc then [b] else []) ++ (if !ac && !bc then [c] else [])
        (s.each out (fun s t => s.count (Reg.FUS_TRK_VOTE_OUT t))) |>
          ok ((List.range 3).map (fun i => at_ a i (median3 0 (rel a b i) (rel a c i))))
      else bad s
    | _ => bad s

/-! ### Wind (R149) -/

/-- The true wind of a sensor's last sample, north and east in µm/s: the relative wind vector rotated by ψ plus the
velocity over ground. -/
def trueWind (s : State) (t : Nat) : Int × Int :=
  let raw := (s.trkOf t).raw
  let psi := angQ (s.rd Reg.FUS_EST_HDG)
  let a := angQ (uInt (raw.getD 0 0))
  let v : Rat := -((raw.getD 1 0 : Int) : Rat)
  let w := rotZ psi (v * cosQ a) (v * sinQ a)
  let g := rotZ psi (sInt (s.rd Reg.FUS_EST_U)) (sInt (s.rd Reg.FUS_EST_V))
  (rnd (w.1 + g.1), rnd (w.2 + g.2))

/-- The direction a wind comes from, and its speed. -/
def windPolar (w : Int × Int) : Nat × Int :=
  let n : Rat := -(w.1 : Rat)
  let e : Rat := -(w.2 : Rat)
  (toAng (atan2Q e n), rnd32 (sqrtQ (n * n + e * e)))

/-- The wind vote of a leg. -/
def windVote (s : State) : State :=
  let on := ((List.range 3).map (15 + ·)).filter s.trkOn
  let put (w : Int × Int) (fade : Option (Nat × (Int × Int))) (bad : Bool) (s : State) : State :=
    ({ s with fus := { s.fus with wind := w, windFade := fade } } : State).flag Fl.FUS_STATUS_WIND_DISAGREE bad
  if on.isEmpty then put (0, 0) none false s
  else if !(s.fus.posSet && s.fus.hdgSet) then s
  else
    let s := s.each (on.filter (fun t => (s.trkOf t).raw.length = 3)) (fun s t =>
      let p := windPolar (s.trueWind t)
      s.setTrk t { s.trkOf t with meas := [(p.1 : Int), p.2, 0] })
    let use := on.filter (fun t => let st := (s.trkOf t).st; (st == 1 || st == 2) && !s.trkStale t)
    let w := s.trueWind
    match use with
    | [a] => put (w a) none false s
    | [a, b, c] => put (median3 (w a).1 (w b).1 (w c).1, median3 (w a).2 (w b).2 (w c).2) none false s
    | _ =>
      let mean := match use with
        | [a, b] =>
          let d := ((w a).1 - (w b).1, (w a).2 - (w b).2)
          let lim : Int := s.get Fl.FUS_AUX_GATE_WIND * 100000
          if d.1 * d.1 + d.2 * d.2 ≤ lim * lim then
            some (divRound ((w a).1 + (w b).1) 2, divRound ((w a).2 + (w b).2) 2) else none
        | _ => none
      match mean with
      | some v => put v none false s
      | none =>
        let (t0, v0) := s.fus.windFade.getD (s.now, s.fus.wind)
        let left : Int := (10 ^ 10 - min (10 ^ 10) (s.now - t0) : Nat)
        (s.when (!s.is Fl.FUS_STATUS_WIND_DISAGREE) (fun s => s.logEv Ev.WIND_DISAGREE)) |>
          put (divRound (v0.1 * left) (10 ^ 10), divRound (v0.2 * left) (10 ^ 10)) (some (t0, v0)) true

/-! ### Measuring points (R142 to R146) -/

/-- The horizontal lever arm of a track in earth directions, in mm. -/
def leverEarth (s : State) (t : Nat) (psi : Rat) : Rat × Rat :=
  let r := s.trkRec t
  let v := levelled (angQ (uInt (s.fus.att.getD 0 0))) (angQ (uInt (s.fus.att.getD 1 0)))
    ((sAt r 4 : Int), (sAt r 8 : Int), (sAt r 12 : Int))
  rotZ psi v.1 v.2.1

/-- North and east of a geodetic position about the working origin, in mm (R143). -/
def fromGeo (s : State) (lat lon : Int) : Rat × Rat :=
  let l := s.loop
  let f0 := angQ l.originLat
  let (m, n) := wgsRadii f0
  let h : Rat := (sInt l.originHgt : Rat) / 1000
  (angQ (uInt (lat - sInt l.originLat)) * (m + h) * 1000, angQ (angDiff (uInt lon) l.originLon |> uInt) * (n + h) * cosQ f0 * 1000)

/-- A variance in metres squared as µm². -/
def um2 (v : Rat) : Nat := (rnd (v * 1000000000000)).toNat

/-- The variance added by an MRU disagreement: (0.0873 a_z)² m² (R148). -/
def attVar (s : State) (t : Nat) : Rat :=
  if s.fus.attBad then
    let a : Rat := (873 : Rat) / 10000 * (sAt (s.trkRec t) 12 : Int) / 1000
    a * a
  else 0

/-- σ of the stream that feeds an input. -/
def streamSigma (s : State) (d : Nat) : Rat :=
  match (strRecs s).find? (fun r => byteAt r 23 == d) with | some r => fAt r 28 | none => 0

/-- The body-relative horizontal vector from measuring point to target or weight, in mm rotated to the earth frame; none
where a corrected wire angle lies beyond ±30° (R144, R145). -/
def toAnchor (s : State) (t : Nat) (a b : Int) (psi : Rat) : Option (Rat × Rat) :=
  if s.posKind t = 3 then
    let th := psi + angQ (uInt b)
    some (a * cosQ th, a * sinQ th)
  else
    let fixed := byteAt (s.trkRec t) 1 % 2 == 1
    let ax := if fixed then angDiff (uInt (a + s.fus.att.getD 1 0)) 0 else angDiff (uInt a) 0
    let ay := if fixed then angDiff (uInt (b - s.fus.att.getD 0 0)) 0 else angDiff (uInt b) 0
    let lim : Nat := 357913941
    if ax.natAbs > lim ∨ ay.natAbs > lim then none
    else
      let d : Rat := (s.rd (Reg.FUS_REF_DEPTH t) : Nat)
      let tn (x : Int) : Rat := sinQ (angQ (uInt x)) / cosQ (angQ (uInt x))
      some (rotZ psi (d * tn ax) (d * tn ay))

/-- A covariance in metres squared as µm². -/
def um2i (v : Rat) : Int := rnd (v * 1000000000000)

/-- Variances of a position measurement in µm²: north, east, and across. -/
def posVar (s : State) (t : Nat) (a b : Int) (att : Att) (psi : Rat) : Nat × (Nat × Int) :=
  let cfg := fAt (s.trkRec t) 16
  let ex := s.attVar t
  match s.posKind t with
  | 3 =>
    let sr := s.streamSigma t
    let sc := (a : Rat) / 1000 * s.streamSigma (t + 8)
    let th := psi + angQ (uInt b)
    let c := cosQ th
    let n := sinQ th
    (um2 (c * c * sr * sr + n * n * sc * sc + ex), um2 (n * n * sr * sr + c * c * sc * sc + ex), um2i (c * n * (sr * sr - sc * sc)))
  | 4 => (um2 (cfg * cfg + ex), um2 (cfg * cfg + ex), 0)
  | _ =>
    match att.gst with
    | some (x, y) => (x * x + um2 ex, y * y + um2 ex, 0)
    | none =>
      let v := match att.hdop with
        | some h => let q : Rat := (h : Rat) / 1000000; cfg * cfg * (if q < 1 then 1 else q * q)
        | none => if s.posKind t = 1 then cfg * cfg else cfg * cfg * 4
      (um2 (v + ex), um2 (v + ex), 0)

/-- σ in use of a variance pair, in metres, as binary32. -/
def sigmaWord (vn ve : Nat) : Word := BitVec.ofNat 32 (toF32 (sqrtQ ((vn + ve : Nat) : Rat) / 2000000 * 1414213562373095 / 1000000000000000))

/-- The heading that measuring points use (R142): the one committed, or before position is set the observer's. -/
def fusPsi (s : State) : Rat :=
  if s.fus.posSet && s.fus.hdgSet then angQ (s.rd Reg.FUS_EST_HDG) else if s.fus.hdgSet then s.obsNow 2 else 0

/-- T or W from a track's last sample, whose measuring point is that of a vessel at (n, e) in mm with heading ψ; nothing where
a wire angle lies beyond ±30° (R144, R145). -/
def setAnchor (s : State) (t : Nat) (psi n e : Rat) : State :=
  let x := s.trkOf t
  let lev := s.leverEarth t psi
  match s.toAnchor t (x.raw.getD 0 0) (x.raw.getD 1 0) psi with
  | some (a, b) => s.setTrk t { x with anchor := some (rnd (n + lev.1 + a), rnd (e + lev.2 + b)) }
  | none => s

/-- T or W with the position and heading committed at the last observer mark. -/
def anchorHere (s : State) (t : Nat) : State :=
  s.setAnchor t (angQ (s.rd Reg.FUS_EST_HDG)) (sInt (s.rd Reg.FUS_EST_N)) (sInt (s.rd Reg.FUS_EST_E))

/-- One position sample as a measurement (R142 to R146), or its discard. Without an origin a geodetic position stays
geodetic. A range or a wire without T or W gives no position yet: a track that has left ABSENT before there was an estimate, or
on a sample that gave none, has it set from the first sample that can (log entry 89). -/
def posMeas (s : State) (t : Nat) (a b : Int) (stamp : Nat) (att : Att) : Option Meas × State :=
  let psi := s.fusPsi
  let s := s.recordSample t [a, b] stamp false
  let (vn, ve, vne) := s.posVar t a b att psi
  let s := s.setTrk t { s.trkOf t with sigma := sigmaWord vn ve }
  let lev := s.leverEarth t psi
  let k := s.posKind t
  let m : Meas := { trk := t, kind := 0, vn := vn, ve := ve, vne := vne, stamp := stamp }
  let done (s : State) (n e : Rat) : Option Meas × State :=
    let pn := rnd ((n - lev.1) * 1000)
    let pe := rnd ((e - lev.2) * 1000)
    (some { m with pn := pn, pe := pe }, s.setTrk t { s.trkOf t with meas := [divRound pn 1000, divRound pe 1000, 0] })
  if k = 1 ∨ k = 2 then
    match s.get Fl.LOOP_STATUS_ORIGIN with
    | 3 => (none, s.discardTrk t)
    | 0 => (some { m with geo := some (a, b) }, s)
    | _ =>
      let (n, e) := s.fromGeo a b
      if 10000000 < absQ n ∨ 10000000 < absQ e ∨ 10000000 * 10000000 < n * n + e * e then (none, s.discardTrk t)
      else done s n e
  else match s.toAnchor t a b psi with
    | none => (none, s.discardTrk t)
    | some (x, y) =>
      let set := s.fus.posSet && s.fus.hdgSet
      let st := (s.trkOf t).st
      let s := if set && (s.trkOf t).anchor.isNone && st != 0 && st != 3 then s.anchorHere t else s
      match (s.trkOf t).anchor with
      | some (an, ae) => done s ((an : Rat) - x) ((ae : Rat) - y)
      | none => (if set then none else some m, s)

/-- The position of the VECTOR-mode solution, as a candidate of the votes alone (R159): the baseband's own solution with its
covariance (R146, log entry 90). -/
def vectorCandidate (s : State) (t stamp : Nat) : Option Meas × State :=
  match s.get Fl.LOOP_STATUS_ORIGIN with
  | 0 => (some { trk := t, kind := 0, vn := s.gns.sdev.1 * s.gns.sdev.1, ve := s.gns.sdev.2 * s.gns.sdev.2,
                 geo := some (sInt (s.rd Reg.GNS_PVT_LAT), (s.rd Reg.GNS_PVT_LON : Nat)), stamp := stamp }, s)
  | 3 => (none, s)
  | _ =>
    let ex := um2 (s.attVar t)
    let lev := s.leverEarth t s.fusPsi
    let (n, e) := s.fromGeo (sInt (s.rd Reg.GNS_PVT_LAT)) (s.rd Reg.GNS_PVT_LON : Nat)
    let pn := rnd ((n - lev.1) * 1000)
    let pe := rnd ((e - lev.2) * 1000)
    let vn := s.gns.sdev.1 * s.gns.sdev.1 + ex
    let ve := s.gns.sdev.2 * s.gns.sdev.2 + ex
    let s := s.setTrk t { s.trkOf t with meas := [divRound pn 1000, divRound pe 1000, 0], sigma := sigmaWord vn ve }
    (some { trk := t, kind := if s.fus.posSet then 5 else 0, pn := pn, pe := pe, vn := vn, ve := ve, stamp := stamp }, s)

/-! ### The gate (R153) -/

/-- The partner input of a range or a wire angle. -/
def partner2 (d : Nat) : Nat := if d < 8 then d + 8 else d - 8

/-- The leg's inputs as measurements, in stamp order; ranges and wire angles wait for the partner of equal stamp. -/
def formMeas (s : State) : List FusSample → List FusSample → List Meas × State
  | [], parts => ([], { s with fus := { s.fus with parts := parts } })
  | x :: l, parts =>
    let t := destTrack x.dest
    let v0 := x.v.getD 0 0
    let v1 := x.v.getD 1 0
    let keep (m : Option Meas × State) (ps : List FusSample) : List Meas × State :=
      let r := formMeas m.2 l ps
      ((match m.1 with | some q => q :: r.1 | none => r.1), r.2)
    if !s.trkOn t then formMeas s l parts
    else if x.dest < 16 && decide (3 ≤ s.posKind t) then
      match parts.find? (fun p => p.dest == partner2 x.dest && p.stamp == x.stamp) with
      | some p =>
        let (a, b) := if x.dest < 8 then (v0, p.v.getD 0 0) else (p.v.getD 0 0, v0)
        keep (s.posMeas t a b x.stamp x.att) (parts.filter (· != p))
      | none => formMeas s l (parts ++ [x])
    else if x.dest < 8 then keep (s.posMeas t v0 v1 x.stamp x.att) parts
    else if x.dest = 64 then
      -- the velocity of the SCALAR solution is kept with the track, as a velocity monitor is (log entry 90)
      let r := s.posMeas t v0 v1 x.stamp x.att
      keep (r.1, r.2.setTrk t { r.2.trkOf t with vel := x.v.drop 2 }) parts
    else if x.dest = 66 then
      let first := (s.trkOf t).stamp != x.stamp
      let s := s.recordSample t [(x.stamp : Int)] x.stamp true
      let dir := (x.v.drop 2).take 3
      let rng : List Meas := [{ trk := t, kind := 3, pn := v0, vn := (x.v.getD 5 0).toNat, stamp := x.stamp, dir := dir },
        { trk := t, kind := 4, pn := v1, vn := (x.v.getD 6 0).toNat, stamp := x.stamp, dir := dir }]
      let c := if first then s.vectorCandidate t x.stamp else (none, s)
      let r := formMeas c.2 l parts
      ((c.1.toList ++ rng) ++ r.1, r.2)
    else if x.dest < 16 then formMeas s l parts
    else if x.dest < 19 then
      let s := s.recordSample t [v0] x.stamp false
      let sg := fAt (s.trkRec t) 16
      let s := s.setTrk t { s.trkOf t with
        meas := [v0, (s.trkOf t).meas.getD 1 0, 0], sigma := BitVec.ofNat 32 (beAt (s.trkRec t) 16 4) }
      keep (some { trk := t, kind := 1, pn := v0, vn := (rnd (sg * 1000000000)).toNat, stamp := x.stamp }, s) parts
    else if x.dest < 22 then
      keep (some { trk := t, kind := 2, pn := v0, vn := (rnd (s.streamSigma x.dest * 1000000000)).toNat, stamp := x.stamp },
        s.setTrk t { s.trkOf t with meas := List.set (s.trkOf t).meas 1 v0 }) parts
    else if x.dest < 31 then formMeas (s.recordPart t ((x.dest - 22) % 3) v0 x.stamp) l parts
    else if x.dest < 37 then formMeas (s.recordPart t ((x.dest - 31) % 2) v0 x.stamp) l parts
    else if x.dest < 44 then formMeas (s.setTrk t { s.trkOf t with vel := x.v }) l parts
    else
      let s := s.recordSample t [v0] x.stamp false
      let sg : Rat := (v1 : Rat) * piQ / 180000
      let s := s.setTrk t { s.trkOf t with meas := [v0, v1, x.v.getD 2 0], sigma := BitVec.ofNat 32 (toF32 sg) }
      keep (some { trk := t, kind := 1, pn := v0, vn := (rnd (sg * 1000000000)).toNat, stamp := x.stamp }, s) parts

/-- The gate of a track (R153). -/
def gateOf (s : State) (t : Nat) : Rat :=
  ((if t < 8 then s.get Fl.FUS_GATE_GATE_P else s.get Fl.FUS_GATE_GATE_H : Nat) : Rat) / 256

/-- A reference bias in µm, north and east, in the track and in the observer, uncorrelated with its first variance; it takes a
new history (R155, R157). -/
def setBias (s : State) (t : Nat) (n e : Int) : State :=
  let s := s.setTrk t { s.trkOf t with b0 := n, b1 := e, hist := [], rate := 0, zeroNext := false }
  if t < 8 && s.fus.hdgSet then
    (s.obsSet (15 + 2 * t) (r32 ((n : Rat) / 1000000)) (firstVar (15 + 2 * t))).obsSet (16 + 2 * t) (r32 ((e : Rat) / 1000000))
      (firstVar (16 + 2 * t))
  else if 8 ≤ t && t < 11 && s.fus.hdgSet then s.obsSet (25 + t) 0 (firstVar (25 + t))
  else s

/-- The bias with which a sample's innovation is zero (R157). -/
def zeroBias (s : State) (m : Meas) : State :=
  let x := s.obsInterp (if s.fus.obs.stamp = s.fus.legClk then s.obsX else s.obsPrior.1) m.stamp
  let v (k : Nat) : Int := rnd ((s.obsAt x k + s.obsAt x (7 + 2 * k)) * 1000000)
  s.setBias m.trk (m.pn - v 0) (m.pe - v 1)

/-- The exponential mean and variance of an innovation over 60 s (R167): a sample's weight is the time since the last one over
60 s, and 1 at most (log entry 91). -/
def innovStat (mean var : Word) (dt : Nat) (nu : Rat) : Word × Word :=
  let a : Rat := min 1 ((dt : Rat) / 60000000000)
  let d := nu - f32Q mean.toNat
  (w32 (f32Q mean.toNat + a * d), w32 (f32Q var.toNat + a * (d * d - f32Q var.toNat)))

/-- The innovation of a measurement into its track's statistics: a position's two, a heading's first, a yaw rate's second. -/
def countInnov (s : State) (m : Meas) (nu : Vec) : State :=
  let x := s.trkOf m.trk
  let dt := m.stamp - x.innAt
  if m.kind = 3 || m.kind = 4 then s
  else if m.kind = 2 then
    let r := innovStat x.mean1 x.iv1 dt (nu.getD 0 0)
    s.setTrk m.trk { x with mean1 := r.1, iv1 := r.2 }
  else
    let a := innovStat x.mean0 x.iv0 dt (nu.getD 0 0)
    let b := if m.kind = 1 then (x.mean1, x.iv1) else innovStat x.mean1 x.iv1 dt (nu.getD 1 0)
    s.setTrk m.trk { x with mean0 := a.1, iv0 := a.2, mean1 := b.1, iv1 := b.2, innAt := m.stamp }

/-- SAMPLE_GATE (R153): positions, ranges and headings of ACCEPTED and SUSPECT tracks are gated on their NIS against the
prediction; SELECT opens the gate for a first sample, before an estimate exists there is nothing to gate against (R158), and
yaw rates are not gated. -/
def gateMeas (s : State) (prior : Vec × Mat) : List Meas → List Meas × State
  | [] => ([], s)
  | m :: l =>
    let known := s.fus.hdgSet && (s.fus.posSet || m.kind == 1 || m.kind == 2) && m.geo.isNone
    let zero := known && m.kind == 0 && (s.trkOf m.trk).zeroNext
    let s := if zero then s.zeroBias m else s
    let prior := if zero then s.obsPrior else prior
    let (nu, n) := if known then s.nisOf prior m else ([], 0)
    let s := if known then s.countInnov m nu else s
    let x := s.trkOf m.trk
    let sorts := m.kind != 2 && m.kind != 5
    let gated := sorts && (x.st == 1 || x.st == 2)
    let pass := !known || m.kind == 2 || x.openGate || decide (f32Q n.toNat ≤ s.gateOf m.trk)
    let x := if gated then { x with nis := n, openGate := false, gateRun := if pass then 0 else min 0xFFFF (x.gateRun + 1)
                                    cleanFrom := if pass then x.cleanFrom else s.now }
      else if sorts then { x with nis := n } else x
    let s := (s.setTrk m.trk x).when (gated && !pass) (fun s => s.count (Reg.FUS_TRK_GATE_FAIL m.trk))
    let r := gateMeas s prior l
    ({ m with pass := pass, nis := n } :: r.1, r.2)

/-! ### Votes (R159 to R161) -/

/-- The latest measurement of each ACCEPTED track of a range, bias-corrected. -/
def candidates (s : State) (lo hi : Nat) : List Meas :=
  ((List.range hi).filter (fun t => lo ≤ t && (s.trkOf t).st == 1)).filterMap (fun t =>
    (s.fus.gated.reverse.find? (fun m => m.trk == t && m.geo.isNone && (m.kind < 2 || m.kind == 5))).map (fun m =>
      let x := s.trkOf t
      if t < 8 then { m with pn := m.pn - x.b0, pe := m.pe - x.b1 }
      else { m with pn := (angDiff (uInt (m.pn - x.b0)) 0 : Int) }))

/-- A candidate is marked by the votes (R159). -/
def markTrk (s : State) (t reason : Nat) : State :=
  let s : State := { s with fus := { s.fus with marks := aSet s.fus.marks t reason } }
  if reason = 5 then s else s.count (Reg.FUS_TRK_VOTE_OUT t)

/-- Distance between two candidates: µm, or nrad for headings. -/
def candDist (hdg : Bool) (a b : Meas) : Rat :=
  if hdg then absQ (angQ (uInt (a.pn - b.pn))) * 1000000000
  else let n : Rat := (a.pn - b.pn : Int); let e : Rat := (a.pe - b.pe : Int); sqrtQ (n * n + e * e)

/-- σ of a candidate: µm, or nrad. -/
def candSigma (hdg : Bool) (a : Meas) : Rat := if hdg then (a.vn : Nat) else sqrtQ (((a.vn + a.ve : Nat) : Rat) / 2)

/-- The least distance that counts as an outlier: VOTE_MIN or HDG_VOTE against VOTE_K σ. -/
def voteLimit (s : State) (hdg : Bool) (sg : Rat) : Rat :=
  let least : Rat := if hdg then (s.get Fl.FUS_VOTE_HDG_VOTE : Nat) * piQ / 18000 * 1000000000
    else (s.get Fl.FUS_VOTE_VOTE_MIN * 10000 : Nat)
  let k : Rat := ((s.get Fl.FUS_VOTE_VOTE_K : Nat) : Rat) / 16 * sg
  if least < k then k else least

/-- A source passes the pair rule's gate (R160, R161): positions against the observer's prediction, headings against every
witness, of which the prediction's heading is the integrated one (R147). -/
def pairPass (s : State) (hdg : Bool) (a b m : Meas) : Bool :=
  let own := decide (f32Q m.nis.toNat ≤ s.gateOf m.trk)
  if !hdg then own
  else
    let da := s.is Fl.FUS_CTL_DA_WITNESS && s.is Fl.GNS_HDG_Q_VALID && a.trk != 11 && b.trk != 11
    let d := angQ (uInt (m.pn - s.rd Reg.GNS_HDG))
    let sd : Rat := (s.get Fl.GNS_HDG_Q_SIGMA : Nat) * piQ / 180000
    let sg : Rat := (m.vn : Rat) / 1000000000
    own && (!da || decide (d * d ≤ s.gateOf m.trk * (sg * sg + sd * sd)))

/-- The pair rule; a contradiction marks both with HOLD and the out-voted others VOTE (R160). -/
def pairRule (s : State) (hdg : Bool) (a b : Meas) (others : List Nat) : State :=
  let sa := candSigma hdg a
  let sb := candSigma hdg b
  if candDist hdg a b ≤ s.voteLimit hdg (sqrtQ (sa * sa + sb * sb)) then s
  else match s.pairPass hdg a b a, s.pairPass hdg a b b with
    | true, false => s.markTrk b.trk 4
    | false, true => s.markTrk a.trk 4
    | _, _ =>
      let s := (s.markTrk a.trk 5).markTrk b.trk 5
      let s := s.each others (fun s t => s.markTrk t 3)
      let s : State := { s with fus := { s.fus with contraP := s.fus.contraP || !hdg, contraH := s.fus.contraH || hdg } }
      (s.logEv (if hdg then Ev.HDG_CONTRADICTION else Ev.REF_CONTRADICTION) a.trk (d8 b.trk)).irq 3

/-- The vote of a kind of sources (R159, R161). -/
def voteKind (s : State) (hdg : Bool) : State :=
  let c := if hdg then s.candidates 8 12 else s.candidates 0 8
  match c with
  | [] => s
  | [_] => s
  | [a, b] => s.pairRule hdg a b []
  | first :: _ =>
    let w (m : Meas) (v : Nat) : Rat := if hdg then weightOf (m.vn * m.vn) else weightOf v
    let base := if hdg then first.pn else 0
    let mn := weightedMedian (c.map (fun m => (if hdg then (angDiff (uInt (m.pn - base)) 0 : Int) else m.pn, w m m.vn)))
    let me := if hdg then 0 else weightedMedian (c.map (fun m => (m.pe, w m m.ve)))
    let mid : Meas := { trk := 0, kind := 0, pn := mn + base, pe := me }
    let out := c.filter (fun m => decide (s.voteLimit hdg (candSigma hdg m) < candDist hdg m mid))
    if 2 ≤ c.length - out.length then s.each out (fun s m => s.markTrk m.trk 3)
    else
      match sortBy (fun a b => decide (candDist hdg a mid < candDist hdg b mid)) c with
      | a :: b :: _ => s.pairRule hdg a b ((out.filter (fun m => m.trk != a.trk && m.trk != b.trk)).map (·.trk))
      | _ => s

/-- The gate mark: the gate-and-vote result of the leg's inputs (R38, R148, R149, R153, R159 to R161). -/
def gateMark (s : State) : State :=
  let s : State := { s with fus := { s.fus with gated := [], marks := [], contraP := false, contraH := false, kept := s.fus.trk } }
  if !s.isOpen 9 || s.role == 2 then s
  else
    let s := s.each (List.range 18) (fun s t => s.setTrk t { s.trkOf t with moved := false, silent := 0 })
    let isAux (x : FusSample) : Bool := 22 ≤ x.dest && x.dest < 37
    let (_, s) := s.formMeas (s.fus.inputs.filter isAux) []
    let s := s.mruVote
    let (ms, s) := s.formMeas (s.fus.inputs.filter (fun x => !isAux x)) []
    let s : State := { s with fus := { s.fus with inputs := [] } }
    let (ms, s) := s.gateMeas s.obsPrior ms
    let s : State := { s with fus := { s.fus with gated := ms } }
    let s := ((s.voteKind false).voteKind true).windVote
    -- the result of the mark, as FUS_REQ returns it until the next (R78)
    { s with fus := { s.fus with voted := s.fus.gated.map (fun m => (m.trk, m.pass && (aGet s.fus.marks m.trk).isNone)) } }

/-! ### Track states at the observer mark (R157) -/

/-- A track's state as a number for the log. -/
def changeTrk (s : State) (t st reason : Nat) (hold : Bool) : State :=
  let x := s.trkOf t
  (s.setTrk t { x with
    st := st, reason := reason, hold := hold, since := s.cyc.pace, sinceAt := s.now, cleanFrom := s.now
    openGate := false }).logEv Ev.TRACK_STATE t (d8 x.st st reason)

/-- The re-initialisation of a track that leaves ABSENT after a long silence, or REJECTED (R157, R166): zero bias, a GNSS_EXT's
such that its first innovation is zero, T or W set afresh. What needs an estimate or a sample that is not there yet waits for
it (log entry 89). -/
def reinitTrk (s : State) (t : Nat) : State :=
  let s := s.setBias t 0 0
  let s := s.setTrk t { s.trkOf t with anchor := none, zeroNext := s.posKind t == 2 }
  if !(s.fus.posSet && s.fus.hdgSet) then s
  else if s.posKind t = 2 then
    match s.fus.gated.find? (fun m => m.trk == t && m.geo.isNone) with
    | some m => s.zeroBias m
    | none => s
  else if 3 ≤ s.posKind t && decide (0 < (s.trkOf t).silent) then s.anchorHere t
  else s

/-- The automatic change of one track. -/
def autoTrk (s : State) (t : Nat) : State :=
  let x := s.trkOf t
  let quiet := s.trkStale t || (match x.lastAt with | some a => decide (a + 5000000000 ≤ s.now) | none => true)
  let sampled := decide (0 < x.silent)
  let frozen := s.is Fl.FUS_CTL_FREEZE_EN && !x.moved &&
    decide (x.sameFrom + s.get Fl.FUS_TIMING_FREEZE_T * 1000000000 ≤ x.lastAt.getD 0)
  let rateBad := s.is Fl.FUS_CTL_BIAS_RATE_EN && decide (t < 8) && decide (s.get Fl.FUS_BIAS_RATE_RATE * 1000 < x.rate)
  if x.st = 3 then s
  else if !s.trkOn t ∨ quiet then (if x.st = 0 then s else s.changeTrk t 0 1 x.hold)
  else match x.st with
    | 0 =>
      if sampled then
        let s := if 60000000000 < x.silent then s.reinitTrk t else s
        s.changeTrk t 2 9 x.hold
      else s
    | 1 =>
      match aGet s.fus.marks t with
      | some r => s.changeTrk t 2 r (r == 5)
      | none =>
        if frozen then s.changeTrk t 4 6 false
        else if (t < 12 && s.get Fl.FUS_TIMING_GATE_N ≤ x.gateRun) then s.changeTrk t 2 2 false
        else if rateBad then s.changeTrk t 2 7 false
        else s
    | 2 =>
      let clean := if rateBad then s.now else x.cleanFrom
      let s := s.setTrk t { x with cleanFrom := clean }
      if frozen then s.changeTrk t 4 6 x.hold
      else if !x.hold && decide (clean + s.get Fl.FUS_TIMING_REQUAL_T * 1000000000 ≤ s.now) then s.changeTrk t 1 8 false
      else if s.is Fl.FUS_CTL_AUTO_REJECT && decide (x.sinceAt + s.rd Reg.FUS_REJECT_T * 1000000000 ≤ s.now) then
        s.changeTrk t 3 13 x.hold
      else s
    | _ => if sampled && x.moved then s.changeTrk t 2 9 x.hold else s

/-- A host command at the observer mark (R166): whether it is accepted, and its effect. -/
def hostTrk (s : State) (act t : Nat) (before : Trk) : Bool × State :=
  let recent := match before.lastAt with | some a => decide (s.now ≤ a + 5000000000) | none => false
  match act with
  | 1 => if (before.st = 2 ∨ before.st = 4) ∧ recent = true then
      let s := s.changeTrk t 1 10 false
      (true, s.setTrk t { s.trkOf t with openGate := true, gateRun := 0 }) else (false, s)
  | 2 => if s.trkOn t then (true, s.changeTrk t 3 11 false) else (false, s)
  | 3 => if before.st = 3 then (true, (s.reinitTrk t).changeTrk t 2 12 false) else (false, s)
  | _ => (false, s)

/-- The tracks of a met observer mark: automatic changes, over which an accepted host command prevails. -/
def stepTracks (s : State) : State :=
  let old := s.fus.trk
  s.each (List.range 18) (fun s t =>
    let cmds := s.fus.cmds.filter (fun c => c.2 == t && c.1 ≤ 3)
    let s0 := s
    let r := cmds.foldl (fun (acc : Bool × State) c =>
      let b := if acc.1 then acc.2.trkOf t else aGetD old t {}
      let h := acc.2.hostTrk c.1 t b
      if h.1 then (true, h.2) else (acc.1, acc.2.flag Fl.FUS_STATUS_CMD_REFUSED true)) (false, s0)
    if r.1 then r.2 else r.2.autoTrk t)

/-! ### The estimate (R151 to R158, R162) -/

/-- The mean bias rate over WIN seconds, in thousandths of 0.1 mm/s, or of 1 µrad/s for a heading (R155, R167). -/
def biasRate (s : State) (t : Nat) : State :=
  let x := s.trkOf t
  let win := s.get Fl.FUS_BIAS_RATE_WIN
  let then_ := ((x.hist.find? (fun h => decide (h.1 + win * 1000000000 ≤ s.now))).map (·.2)).getD (0, 0)
  let d0 : Rat := (x.b0 - then_.1 : Int)
  let d1 : Rat := (x.b1 - then_.2 : Int)
  let r : Rat := if t < 8 then sqrtQ (d0 * d0 + d1 * d1) * 10 / win else absQ (angQ (uInt (x.b0 - then_.1))) * 1000000000 / win
  s.setTrk t { x with rate := r.floor.toNat }

/-- The biases of this mark into the histories of WIN seconds (R155). -/
def biasHistory (s : State) : State :=
  let win := s.get Fl.FUS_BIAS_RATE_WIN
  s.each (List.range 18) (fun s t =>
    let x := s.trkOf t
    s.setTrk t { x with hist := ((s.now, (x.b0, x.b1)) :: x.hist).filter (fun h => decide (s.now ≤ h.1 + (win + 1) * 1000000000)) })

/-- Each track's bias and its variances as the observer holds them (R167, R168); a gyro's one bias state is its heading bias and
its rate bias (R147). -/
def copyBias (s : State) : State :=
  if !s.fus.hdgSet then s
  else s.each ((List.range 11).filter s.trkOn) (fun s t =>
    let x := s.trkOf t
    if t < 8 then
      s.setTrk t { x with b0 := rnd (s.obsNow (15 + 2 * t) * 1000000), b1 := rnd (s.obsNow (16 + 2 * t) * 1000000)
                          var0 := w32 (s.obsVar (15 + 2 * t)), var1 := w32 (s.obsVar (16 + 2 * t)) }
    else
      let b := s.obsNow (25 + t)
      s.setTrk t { x with b0 := sInt (toAng b), b1 := rnd32 (b * 1000000), var0 := w32 (s.obsVar (25 + t)), var1 := w32 (s.obsVar (25 + t)) })

/-- The observer's update in the tracks: biases, their rates, and the pace of the last sample that an update used. -/
def trackOutcome (s : State) : State :=
  let pace := s.cyc.pace
  let used := s.fus.gated.filter (fun m => s.measUse m != 0)
  let s := s.obsUpdate.copyBias
  s.each (List.range 18) (fun s t =>
    let x := s.trkOf t
    (s.setTrk t { x with lastAccept := if used.any (·.trk == t) then pace else x.lastAccept }).biasRate t)

/-- Heading, then position, taken from the first sample (R158, R171): the track becomes ACCEPTED at once with zero bias,
and the origin is fixed where it was not. A relative reference that comes first stands the vessel at n = e = 0, its T or W
being set there (log entry 89). -/
def initialSet (s : State) : State :=
  let usable (m : Meas) : Bool := m.pass && (s.trkOf m.trk).st != 3 && (s.trkOf m.trk).st != 4 && !(s.trkOf m.trk).hold
  if !s.fus.hdgSet then
    match s.fus.gated.find? (fun m => usable m && m.kind == 1) with
    | some m =>
      let s := (s.changeTrk m.trk 1 9 false).setBias m.trk 0 0
      let s : State := { s with fus := { s.fus with hdgSet := true, hdg0 := uInt m.pn } }
      let sd : Rat := (m.vn : Rat) / 1000000000
      s.obsBegin (r32 (angQ s.fus.hdg0)) (r32 (sd * sd))
    | none => s
  else if !s.fus.posSet then
    match s.fus.gated.find? (fun m => usable m && m.kind == 0) with
    | some m =>
      let s := (s.changeTrk m.trk 1 9 false).setBias m.trk 0 0
      let s : State := { s with fus := { s.fus with posSet := true } }
      let psi := s.obsNow 2
      let put (s : State) (n e : Rat) : State :=
        (s.obsSet 0 (r32 n) (r32 ((m.vn : Rat) / 1000000000000))).obsSet 1 (r32 e) (r32 ((m.ve : Rat) / 1000000000000))
      match m.geo with
      | some (lat, lon) =>
        let f0 := angQ (uInt lat)
        let (mr, nr) := wgsRadii f0
        let (hgt, s) := if s.posKind m.trk = 1 then (s.rd Reg.GNS_PVT_HGT, s) else
          let (v, s) := s.draw; (v % 2 ^ 32, s)
        let h : Rat := (sInt hgt : Rat) / 1000
        let lev := s.leverEarth m.trk psi
        let lat0 := uInt (lat - sInt (toAng (lev.1 / 1000 / (mr + h))))
        let lon0 := uInt (lon - sInt (toAng (lev.2 / 1000 / ((nr + h) * cosQ f0))))
        put (({ s with loop := { s.loop with originLat := lat0, originLon := lon0, originHgt := hgt } } : State).put
          Fl.LOOP_STATUS_ORIGIN 2) 0 0
      | none =>
        let s := if s.get Fl.LOOP_STATUS_ORIGIN = 0 then s.put Fl.LOOP_STATUS_ORIGIN 3 else s
        if 3 ≤ s.posKind m.trk then put (s.setAnchor m.trk psi 0 0) 0 0
        else put s ((m.pn : Rat) / 1000000) ((m.pe : Rat) / 1000000)
    | none => s
  else s

/-- The wind force of the model in N, N and N·m (R151, R178): the image's areas, length and coefficients at the committed true
wind's angle to the bow (log entry 86). -/
def windNow (s : State) (psi : Rat) : Vec :=
  let b := sectionOf s 5
  let f (o n : Nat) : Vec := (List.range n).map (fun i => fAt b (o + 4 * i))
  let w := rotZ (-psi) ((s.fus.wind.1 : Rat) / 1000000) ((s.fus.wind.2 : Rat) / 1000000)
  windForce (f 40 3) (f 52 37) (f 200 37) (f 348 37) w.1 w.2

/-- The estimate registers of a mark (R7, R158); before position and heading are both set they read as R158 states. -/
def publishEstimate (s : State) : State :=
  let set := s.fus.posSet && s.fus.hdgSet
  let z (v : Int) : Nat := if set then uInt v else 0
  let x (k : Nat) (scale : Rat) : Nat := z (rnd32 (s.obsNow k * scale))
  let sg (k : Nat) (scale : Rat) : Nat := if set then min (2 ^ 32 - 1) (rnd (sqrtQ (s.obsVar k) * scale)).toNat else 2 ^ 32 - 1
  let s0 := s
  let s := ((s.wr Reg.FUS_EST_N (x 0 1000)).wr Reg.FUS_EST_E (x 1 1000)).wr Reg.FUS_EST_HDG (if set then toAng (s0.obsNow 2) else 0)
  let s := ((s.wr Reg.FUS_EST_U (x 3 1000000)).wr Reg.FUS_EST_V (x 4 1000000)).wr Reg.FUS_EST_R (x 5 1000000)
  let s := ((s.wr Reg.FUS_BIAS_N (x 12 1)).wr Reg.FUS_BIAS_E (x 13 1)).wr Reg.FUS_BIAS_M (x 14 (1 / 10))
  let s := ((s.wr Reg.FUS_SIGMA_N (sg 0 1000)).wr Reg.FUS_SIGMA_E (sg 1 1000)).wr Reg.FUS_SIGMA_HDG (sg 2 (180000 / piQ))
  let a (i : Nat) : Nat := uInt (s.fus.att.getD i 0)
  let s := ((s.wr Reg.FUS_ATT_ROLL (a 0)).wr Reg.FUS_ATT_PITCH (a 1)).wr Reg.FUS_ATT_HEAVE (a 2)
  let w := if set && s.fus.wind != (0, 0) then windPolar s.fus.wind else (0, 0)
  let s := (s.wr Reg.FUS_WIND_DIR w.1).wr Reg.FUS_WIND_SPD (uInt w.2)
  let tw : List Word := if set then (s0.windNow (s0.obsNow 2)).map w32 else [0, 0, 0]
  ({ s with loop := { s.loop with tauWind := tw } } : State).flag Fl.FUS_STATUS_POS_SET set

/-! ### Coasts and the Detour level (R162 to R165) -/

/-- ACCEPTED tracks of positions and of headings. -/
def acceptedPos (s : State) : Nat := ((List.range 8).filter (fun t => s.trkOn t && (s.trkOf t).st == 1)).length
def acceptedHdg (s : State) : Nat := ((List.range 4).filter (fun k => s.trkOn (8 + k) && (s.trkOf (8 + k)).st == 1)).length

/-- Coasting begins at the mark at which no track of the kind is ACCEPTED and ends at the first at which one is. -/
def stepCoast (s : State) : State :=
  let f := s.fus
  if !(f.posSet && f.hdgSet) then { s with fus := { f with posCoast := none, hdgCoast := none } }
  else
    let go (n : Nat) (c : Option Nat) : Option Nat := if n = 0 then some (c.getD s.now) else none
    { s with fus := { f with
        posCoast := go s.acceptedPos f.posCoast, hdgCoast := go s.acceptedHdg f.hdgCoast
        posByC := if f.posCoast.isNone then f.contraP else f.posByC
        hdgByC := if f.hdgCoast.isNone then f.contraH else f.hdgByC } }

/-- Seconds of a coast. -/
def coastSecs (s : State) (c : Option Nat) : Nat := match c with | some t => (s.now - t) / 1000000000 | none => 0

/-- A coast is beyond its limit. -/
def coastOver (s : State) (c : Option Nat) (lim : Nat) : Bool :=
  match c with | some t => decide (t + lim * 1000000000 < s.now) | none => false

/-- The first row of R164 that holds, commands aside, with the cause of R170. -/
def refRow (s : State) : Nat × Nat :=
  let f := s.fus
  let p := s.acceptedPos
  let h := s.acceptedHdg
  if s.coastOver f.hdgCoast (s.get Fl.FUS_COAST_LIM_HDG) then (4, 8)
  else if !(f.posSet && f.hdgSet) then (3, 11)
  else if p = 0 && s.coastOver f.posCoast (s.get Fl.FUS_COAST_LIM_POS) then (3, 7)
  else if f.posCoast.isSome then (2, if f.posByC then 3 else 5)
  else if f.hdgCoast.isSome then (2, if f.hdgByC then 4 else 6)
  else if p = 1 then (2, 1)
  else if p = 2 then (1, 1)
  else if h = 1 then (1, 2)
  else (0, 0)

/-- The level changes (R165): logged, raised to the host; a running test of slots 0 to 2 ends at D3 and D4 (R195). -/
def setLevel (s : State) (lvl cause : Nat) : State :=
  let old := s.get Fl.FUS_DETOUR_LEVEL
  if old = lvl then s
  else
    let s := ((s.logEv Ev.DETOUR_CHANGE old (d8 lvl cause)).irq 2).put Fl.FUS_DETOUR_CAUSE cause
    let s : State := { s with fus := { s.fus with levelSince := s.cyc.pace } }
    let s := s.put Fl.FUS_DETOUR_LEVEL lvl
    s.when (3 ≤ lvl && s.loop.gen.slot ≤ 2) (fun s => s.testAbort 5)

/-- The levels of a met observer mark. `alc` is the allocation level (R163, R220). -/
def stepLevel (s : State) (alc : Nat) : State :=
  let cmds := s.fus.cmds.filter (fun c => 4 ≤ c.1)
  let h := s.acceptedHdg
  let (row, cause) := s.refRow
  let f := s.fus
  let ordered := row == 4
  let r := cmds.foldl (fun (acc : (Bool × Bool) × (Bool × State)) c =>
    if c.1 = 4 then ((true, acc.1.2), (false, acc.2.2))
    else if 1 ≤ h then ((false, false), (true, acc.2.2))
    else (acc.1, (acc.2.1, acc.2.2.flag Fl.FUS_STATUS_CMD_REFUSED true))) ((f.hostD4, f.hdgD4 || ordered), (false, s))
  let (hostD4, hdgD4) := r.1
  let exited := r.2.1
  let s := r.2.2
  let row := if row = 4 && !hdgD4 then 3 else row
  let below := (List.range 4).map (fun l => if row ≤ l then some ((f.below.getD l none).getD s.now) else none)
  let hold := s.get Fl.FUS_TIMING_DETOUR_HOLD * 1000000000
  let ref :=
    if hostD4 || hdgD4 then 4
    else if exited then row
    else if f.refLvl ≤ row then row
    else match below.getD (f.refLvl - 1) none with
      | some t => if t + hold ≤ s.now then f.refLvl - 1 else f.refLvl
      | none => f.refLvl
  let s : State := { s with fus := { s.fus with hostD4 := hostD4, hdgD4 := hdgD4, refLvl := ref, below := below, cmds := [] } }
  let lvl := max ref (min 3 alc)
  let why := if (hostD4 && ref = 4 && f.refLvl != 4) || exited then 9
    else if ref < min 3 alc || (f.refLvl = ref && lvl != s.get Fl.FUS_DETOUR_LEVEL) then 10 else cause
  let s := s.setLevel lvl why
  let s := (((s.put Fl.FUS_DETOUR_H h).put Fl.FUS_DETOUR_P s.acceptedPos).flag Fl.FUS_DETOUR_HOST_D4 hostD4).put
    Fl.FUS_DETOUR_ALLOC_LEVEL (min 3 alc)
  let s := s.put Fl.FUS_DETOUR_REF_LEVEL ref
  let s := (s.put Fl.FUS_COAST_HDG (min 0xFFFF (s.coastSecs s.fus.hdgCoast))).put Fl.FUS_COAST_POS
    (min 0xFFFF (s.coastSecs s.fus.posCoast))
  (((s.flag Fl.FUS_STATUS_HDG_COAST s.fus.hdgCoast.isSome).flag Fl.FUS_STATUS_POS_COAST s.fus.posCoast.isSome).put
    Fl.FUS_STATUS_STATES s.stateCount)

/-- FLAGS of a track record (R167). -/
def trkFlags (s : State) (t : Nat) : Nat :=
  let x := s.trkOf t
  (if x.hold then 1 else 0) + s.get (Fl.FUS_TRK_GATE_FAIL_OVF t) * 2 + s.get (Fl.FUS_TRK_VOTE_OUT_OVF t) * 4 +
    (if x.discOvf then 8 else 0)

/-- FUS_TRK[t]_STATUS. -/
def publishTracks (s : State) : State :=
  s.each (List.range 18) (fun s t =>
    let x := s.trkOf t
    s.wr (Reg.FUS_TRK_STATUS t) (x.reason * 2 ^ 16 + s.trkFlags t * 2 ^ 8 + x.st))

/-- A coast that begins at this mark holds b and the biases of its kind at the values of before the leg's update (R162). -/
def holdBiases (s : State) (old : Vec) : State :=
  if !s.fus.hdgSet || s.fus.obs.x.length != old.length then s
  else
    let x := (s.obsIdx.zip (s.obsX.zip old)).map (fun e => if s.heldState e.1 then e.2.2 else e.2.1)
    (s.obsStore x s.obsP).copyBias

/-- The observer mark that is met (R157 to R166). -/
def observerMet (s : State) (alc : Nat) : State :=
  let old := s.obsX
  let s := s.trackOutcome.initialSet.stepTracks
  let s := ((s.stepCoast).holdBiases old).biasHistory
  let s := (s.publishEstimate.stepLevel alc).publishTracks
  { s with cyc := { s.cyc with obsMet := true }, fus := { s.fus with gated := [], marks := [] } }

/-- An observer mark that is late (R40): the tracks keep what the last mark committed, beside the facts of the samples received;
the next update predicts across this leg too. -/
def observerLate (s : State) : State :=
  let s := s.each (List.range 18) (fun s t =>
    let x := s.trkOf t
    s.setTrk t { aGetD s.fus.kept t x with
      lastAt := x.lastAt, raw := x.raw, sameFrom := x.sameFrom, discard := x.discard, discOvf := x.discOvf })
  { s with fus := { s.fus with gated := [], marks := [] } }

/-- A working epoch begins: no position and no heading, and the registers of R158. -/
def fusionEpoch (s : State) : State :=
  ({ s with fus := { s.fus with posSet := false, hdgSet := false, posCoast := none, hdgCoast := none, obs := {} } } : State).publishEstimate

/-! ### Host commands and the ring image -/

/-- A decision of the host, held for the next observer mark (R166). -/
def fusCmd (s : State) (act t : Nat) : State := { s with fus := { s.fus with cmds := s.fus.cmds ++ [(act, t)] } }

/-- The estimator history and the leg's samples move with a step of the clock (R152). -/
def fusionStepped (s : State) (off : Int) : State :=
  let at_ (n : Nat) : Nat := ((n : Int) - off).toNat
  let mv (x : FusSample) : FusSample := { x with stamp := at_ x.stamp }
  let o := s.fus.obs
  { s with fus := { s.fus with
      inbox := s.fus.inbox.map mv, inputs := s.fus.inputs.map mv, parts := s.fus.parts.map mv
      gated := s.fus.gated.map (fun m => { m with stamp := at_ m.stamp }), legClk := at_ s.fus.legClk
      trk := s.fus.trk.map (fun e => (e.1, { e.2 with innAt := at_ e.2.innAt }))
      obs := { o with stamp := at_ o.stamp, hist := o.hist.map (fun h => (at_ h.1, h.2)) } } }

/-- The kind byte of a track record (R167). -/
def trkKindCode (s : State) (t : Nat) : Nat :=
  if t < 8 then s.posKind t else if t < 11 then 16 else if t = 11 then 17 else if t < 15 then 18 else 19

/-- A position bias in mm, others as they are. -/
def biasWord (t : Nat) (b : Int) : Bytes := toBE 4 (uInt (if t < 8 then divRound b 1000 else b))

/-- An innovation mean in the units of BIAS (R167). -/
def meanWord (t i : Nat) (w : Word) : Bytes :=
  let q := f32Q w.toNat
  toBE 4 (if t < 8 then uInt (rnd32 (q * 1000)) else if i = 0 then toAng q else uInt (rnd32 (q * 1000000)))

/-- The page of a track (R167). -/
def trackPage (s : State) (t : Nat) : Bytes :=
  let x := s.trkOf t
  let (lo, hi, ns) := stampParts x.stamp
  let an := x.anchor.getD (0, 0)
  let m (i : Nat) : Bytes := toBE 4 (uInt (x.meas.getD i 0))
  [t, s.trkKindCode t, x.st, s.trkFlags t] ++ toBE 2 x.reason ++ toBE 2 x.gateRun ++ toBE 4 x.lastAccept ++ toBE 4 x.since ++
    biasWord t x.b0 ++ biasWord t x.b1 ++ toBE 4 x.var0.toNat ++ toBE 4 x.var1.toNat ++ meanWord t 0 x.mean0 ++
    meanWord t 1 x.mean1 ++ toBE 4 x.iv0.toNat ++ toBE 4 x.iv1.toNat ++ toBE 4 x.nis.toNat ++ toBE 4 ((x.rate + 500) / 1000) ++ m 0 ++ m 1 ++ m 2 ++
    toBE 2 hi ++ toBE 4 lo ++ toBE 4 ns ++ [0, 0] ++ toBE 4 x.sigma.toNat ++ ((s.trkRec t).drop 4).take 12 ++
    List.replicate (12 - (((s.trkRec t).drop 4).take 12).length) 0 ++ toBE 4 (uInt an.1) ++ toBE 4 (uInt an.2) ++
    toBE 2 (s.get (Fl.FUS_TRK_GATE_FAIL_COUNT t)) ++ toBE 2 (s.get (Fl.FUS_TRK_VOTE_OUT_COUNT t)) ++ toBE 2 x.discard ++
    List.replicate 146 0

/-- The summary page (R169). -/
def summaryPage (s : State) : Bytes :=
  let w (a : Nat) : Bytes := toBE 4 (s.rd a)
  [s.get Fl.FUS_DETOUR_LEVEL, s.get Fl.FUS_DETOUR_REF_LEVEL, s.get Fl.FUS_DETOUR_ALLOC_LEVEL, s.get Fl.FUS_DETOUR_CAUSE,
    s.get Fl.FUS_DETOUR_P, s.get Fl.FUS_DETOUR_H] ++ toBE 2 (s.rd Reg.FUS_STATUS) ++ toBE 4 s.fus.levelSince ++
    toBE 2 (s.get Fl.FUS_COAST_POS) ++ toBE 2 (s.get Fl.FUS_COAST_HDG) ++
    w Reg.FUS_EST_N ++ w Reg.FUS_EST_E ++ w Reg.FUS_EST_HDG ++ w Reg.FUS_EST_U ++ w Reg.FUS_EST_V ++ w Reg.FUS_EST_R ++
    w Reg.FUS_BIAS_N ++ w Reg.FUS_BIAS_E ++ w Reg.FUS_BIAS_M ++ w Reg.FUS_SIGMA_N ++ w Reg.FUS_SIGMA_E ++
    w Reg.FUS_SIGMA_HDG ++ w Reg.FUS_ATT_ROLL ++ w Reg.FUS_ATT_PITCH ++ w Reg.FUS_ATT_HEAVE ++ w Reg.FUS_WIND_DIR ++
    w Reg.FUS_WIND_SPD ++ List.replicate 172 0

/-- The fusion pages (R167): the summary and the tracks. -/
def fusionPages (s : State) : List (Nat × Bytes) :=
  (0x20, s.summaryPage) :: (List.range 18).map (fun t => (0x21 + t, s.trackPage t))

end State

end Sys2Proof.Machine
end

