-- ==== Sys2Proof/Machine/SolveOps.lean ====
section
/-! DEFINITION. Machine/SolveOps.lean: the mathematics of allocation (R198 to R206, R213, R214, R217, R221, R223) in kN, kN·m
and metres: thrust polygons, wedges, each lane's subproblem, the factorisation, the dual iterations, the pseudo-inverse and
what a set of lanes can reach. Coordinates are kept to 2^-60. -/

namespace Sys2Proof.Machine

/-- A number to 2^-60. -/
def fix60 (q : Rat) : Rat := ((q * ((2 ^ 60 : Nat) : Rat)).floor : Rat) / ((2 ^ 60 : Nat) : Rat)
/-- A number in 2^-40. -/
def frac40 (i : Int) : Rat := (i : Rat) / ((2 ^ 40 : Nat) : Rat)

/-- A vertex with the tag of the edge that leaves it: 0 ordinary, 1 a wedge's start, 2 its end, 3 a sector edge. -/
structure Vtx where
  x : Rat
  y : Rat
  tag : Nat
  deriving DecidableEq, Repr

/-- Cosine and sine of a binary angle. -/
def unitOf (a : Nat) : Rat × Rat := (fix60 (cosQ (angQ a)), fix60 (sinQ (angQ a)))

/-- Coordinates closer than this are one. -/
def tiny : Rat := 1 / ((2 ^ 40 : Nat) : Rat)

/-- The thrust polygon of R199. -/
def ngon (tPos : Rat) (n : Nat) : List Vtx :=
  (List.range n).map (fun k => let u := unitOf (k * 2 ^ 32 / n); ⟨tPos * u.1, tPos * u.2, 0⟩)

/-- Vertices that coincide with their predecessor drop out; the later edge's tag stays. -/
def cleanPoly (l : List Vtx) : List Vtx :=
  let near (a b : Vtx) : Bool := absQ (a.x - b.x) ≤ tiny && absQ (a.y - b.y) ≤ tiny
  let o := l.foldl (fun acc v => match acc with
    | p :: r => if near p v then { p with tag := v.tag } :: r else v :: acc
    | [] => [v]) []
  match o with
  | p :: q :: r => if near p ((q :: r).getLastD p) then (q :: r).reverse else o.reverse
  | _ => o

/-- The part of a polygon with nx·x + ny·y ≤ c; the new edge carries a tag. -/
def clipPoly (l : List Vtx) (nx ny c : Rat) (tag : Nat) : List Vtx :=
  let nxt := l.drop 1 ++ l.take 1
  cleanPoly ((l.zip nxt).flatMap (fun (p, q) =>
    let vp := nx * p.x + ny * p.y - c
    let vq := nx * q.x + ny * q.y - c
    let cut (tg : Nat) : Vtx :=
      let t := vp / (vp - vq)
      ⟨fix60 (p.x + t * (q.x - p.x)), fix60 (p.y + t * (q.y - p.y)), tg⟩
    if vp ≤ tiny then (if tiny < vq then [p, cut tag] else [p])
    else if vq ≤ tiny then [cut p.tag] else []))

/-- The wedges of a lane's allowed azimuths, as start and span (R201). -/
def wedgesOf (sects : List (Nat × Nat)) : List (Nat × Nat) :=
  let arcs : List (Nat × Nat) := match sects with
    | [] => [(0, 2 ^ 32)]
    | (_, e0) :: _ =>
      let o := sortBy (fun a b => decide ((a.2 + 2 ^ 32 - e0) % 2 ^ 32 < (b.2 + 2 ^ 32 - e0) % 2 ^ 32)) sects
      (o.zip (o.drop 1 ++ o.take 1)).map (fun (s, n) => (s.2, (n.1 + 2 ^ 32 - s.2) % 2 ^ 32))
  arcs.flatMap (fun (a, sp) =>
    let k := (sp + 2 ^ 31 - 1) / 2 ^ 31
    (List.range k).map (fun i => ((a + sp * i / k) % 2 ^ 32, sp * (i + 1) / k - sp * i / k)))

/-- The wedge that contains an azimuth; 7 strictly inside a sector (R201). -/
def wedgeAt (sects : List (Nat × Nat)) (az : Nat) : Nat :=
  if sects.any (fun s => strictlyIn az s.1 s.2) then 7
  else
    let ws := wedgesOf sects
    let off (w : Nat × Nat) : Nat := (az + 2 ^ 32 - w.1) % 2 ^ 32
    match ws.findIdx? (fun w => decide (off w < w.2)) with
    | some i => i
    | none => (ws.findIdx? (fun w => decide (off w ≤ w.2))).getD 7

/-- A lane's geometry (R205, R365). -/
structure Geo where
  kind : Nat
  nGon : Nat
  bus : Nat
  sects : List (Nat × Nat)
  x : Rat
  y : Rat
  axis : Nat
  tPos : Nat
  tNeg : Nat
  rateT : Nat
  rateA : Nat
  dMax : Nat
  cl : Rat
  w : Rat
  c : Rat
  kp : Rat
  floor : Nat

/-- The geometry record of lane n. -/
def geoOf (s : State) (n : Nat) : Geo :=
  let b := geomOf s n
  { kind := byteAt b 0, nGon := byteAt b 1, bus := byteAt b 2, sects := sectorsAt b 56 (byteAt b 3)
    x := (sAt b 4 : Rat) / 1000, y := (sAt b 8 : Rat) / 1000, axis := beAt b 12 4
    tPos := beAt b 16 4, tNeg := beAt b 20 4, rateT := beAt b 24 4, rateA := beAt b 28 4
    dMax := beAt b 32 4, cl := fAt b 36, w := fAt b 40, c := fAt b 44, kp := fAt b 48, floor := beAt b 52 2 }

/-- N as kN. -/
def kN (n : Int) : Rat := (n : Rat) / 1000

/-- Δα or Δδ as a binary angle: RATE_A × 1 ms (R198, R200). -/
def Geo.dAng (g : Geo) : Nat := toAng ((g.rateA : Rat) / 1000000000)

/-- The direction of a scalar lane's thrust. -/
def Geo.dir (g : Geo) : Rat × Rat := if g.kind = 1 then unitOf g.axis else (1, 0)

/-- A lane's part of a problem: a vector in a polygon, a scalar along (ax, ay), or thrust and rudder about (T₀, δ₀). `g` is
g_i of its bus (R203). -/
structure SubP where
  n : Nat
  vec : Bool
  rud : Bool
  x : Rat
  y : Rat
  ax : Rat
  ay : Rat
  poly : List Vtx
  lo : Rat
  hi : Rat
  w : Rat
  c : Rat
  px : Rat
  py : Rat
  bus : Option Nat
  g : Rat
  cl : Rat := 0
  d0 : Rat := 0
  t0 : Rat := 0
  dlo : Rat := 0
  dhi : Rat := 0

/-- A lane's solution: the vector, or T and δ; the multipliers of tagged edges; its active face; and how the force follows the
dual variables on that face: weights, each with a direction of the force and of the thrust's magnitude (R213 step 2). -/
structure SubSol where
  f : Rat × Rat
  mult : List (Nat × Rat) := []
  face : Nat := 0
  curv : List (Rat × (Vec × Rat)) := []

/-- Force and moment of a lane's solution (R198). -/
def SubP.force (p : SubP) (f : Rat × Rat) : Rat × Rat × Rat :=
  if p.vec then (f.1, f.2, p.x * f.2 - p.y * f.1)
  else if p.rud then
    let fy := if 0 < p.t0 then -(p.cl * (p.t0 * f.2 + p.d0 * f.1 - p.t0 * p.d0)) else 0
    (f.1, fy, p.x * fy - p.y * f.1)
  else (f.1 * p.ax, f.1 * p.ay, f.1 * (p.x * p.ay - p.y * p.ax))

/-- Thrust magnitude. -/
def SubP.mag (p : SubP) (f : Rat × Rat) : Rat := if p.vec then sqrtQ (f.1 * f.1 + f.2 * f.2) else absQ f.1

/-- W q + C d of R204. -/
def SubP.cost (p : SubP) (f : Rat × Rat) : Rat :=
  if p.vec then p.w * (f.1 * f.1 + f.2 * f.2) + p.c * ((f.1 - p.px) * (f.1 - p.px) + (f.2 - p.py) * (f.2 - p.py))
  else p.w * f.1 * f.1 + p.c * (f.1 - p.px) * (f.1 - p.px)

/-- Bisection of a nondecreasing slope on [0, 1]. -/
def bisect01 (slope : Rat → Rat) : Nat → Rat → Rat → Rat
  | 0, lo, hi => (lo + hi) / 2
  | n + 1, lo, hi => let m := (lo + hi) / 2; if slope m ≤ 0 then bisect01 slope n m hi else bisect01 slope n lo m

/-- A point inside a polygon of counter-clockwise vertices, its edges included. -/
def insidePoly (l : List Vtx) (x y : Rat) : Bool :=
  decide (3 ≤ l.length) && (l.zip (l.drop 1 ++ l.take 1)).all (fun (p, q) =>
    decide (-tiny ≤ (q.x - p.x) * (y - p.y) - (q.y - p.y) * (x - p.x)))

/-- Outward unit normal of an edge. -/
def outward (p q : Vtx) : Rat × Rat :=
  let dx := q.x - p.x
  let dy := q.y - p.y
  let l := sqrtQ (dx * dx + dy * dy)
  if l = 0 then (0, 0) else (dy / l, -dx / l)

/-- Faces of a vector lane: 0 the polygon's interior, 1 zero thrust held by the load term, 2 + e the edge e, 64 + v the vertex
v. -/
def edgeFace (e : Nat) : Nat := 2 + e
def vertexFace (v : Nat) : Nat := 64 + v

/-- The exact minimiser of (k/2)|f|² − a·f + c|f| over a polygon, with the multipliers of tagged edges, the active face and,
on it, the directions in which f follows a and c (R213 step 1); none for an empty polygon. -/
def minPoly (l : List Vtx) (k ax ay c : Rat) : Option SubSol :=
  let la := sqrtQ (ax * ax + ay * ay)
  let sc : Rat := if la = 0 then 0 else if la ≤ c then 0 else (if c = 0 then 1 else (la - c) / la)
  let fx := sc * ax / k
  let fy := sc * ay / k
  if l.isEmpty then none
  else if insidePoly l fx fy then
    some (if 0 < c ∧ la ≤ c then { f := (0, 0), face := 1 }
      else
        let u : Rat × Rat := if la = 0 then (1, 0) else (ax / la, ay / la)
        { f := (fix60 fx, fix60 fy)
          curv := [(1 / k, ([u.1, u.2], if la = 0 then 0 else 1)),
            ((if la = 0 then 1 else 1 - c / la) / k, ([-u.2, u.1], 0))] })
  else
    let obj (x y : Rat) : Rat := k / 2 * (x * x + y * y) - ax * x - ay * y + (if c = 0 then 0 else c * sqrtQ (x * x + y * y))
    let pairs := l.zip (l.drop 1 ++ l.take 1)
    let best := pairs.zipIdx.foldl (fun (b : Option (Rat × (Rat × ((Vtx × Vtx) × Nat)))) (e, i) =>
      let p := e.1
      let dx := e.2.x - p.x
      let dy := e.2.y - p.y
      let dd := dx * dx + dy * dy
      let t : Rat := if dd = 0 then 0
        else if c = 0 then ((ax / k - p.x) * dx + (ay / k - p.y) * dy) / dd
        else bisect01 (fun t =>
          let x := p.x + t * dx
          let y := p.y + t * dy
          let r := sqrtQ (x * x + y * y)
          k * (x * dx + y * dy) - (ax * dx + ay * dy) + (if r = 0 then 0 else c * (x * dx + y * dy) / r)) 60 0 1
      let t := if t < 0 then 0 else if 1 < t then 1 else fix60 t
      let o := obj (p.x + t * dx) (p.y + t * dy)
      match b with
      | some (bo, _) => if o < bo then some (o, (t, (e, i))) else b
      | none => some (o, (t, (e, i)))) none
    match best with
    | none => none
    | some (_, (t, ((p, q), i))) =>
      let x := fix60 (p.x + t * (q.x - p.x))
      let y := fix60 (p.y + t * (q.y - p.y))
      let r := sqrtQ (x * x + y * y)
      let gx := ax - k * x - (if r = 0 then 0 else c * x / r)
      let gy := ay - k * y - (if r = 0 then 0 else c * y / r)
      let at_ (v : Vtx) : Bool := absQ (v.x - x) ≤ tiny && absQ (v.y - y) ≤ tiny
      if !(at_ p) && !(at_ q) then
        let n := outward p q
        let d : Rat × Rat := (-n.2, n.1)
        let along : Rat := if r = 0 then 0 else (d.1 * x + d.2 * y) / r
        let w := 1 / (k + (if r = 0 then 0 else c * (1 - along * along) / r))
        some { f := (x, y), mult := [(p.tag, gx * n.1 + gy * n.2)].filter (fun m => m.1 != 0), face := edgeFace i
               curv := [(w, ([d.1, d.2], along))] }
      else
        let act := pairs.filter (fun e => at_ e.1 || at_ e.2)
        let mult : List (Nat × Rat) :=
          match act.find? (fun e => at_ e.2), act.find? (fun e => at_ e.1) with
          | some e1, some e2 =>
            let n1 := outward e1.1 e1.2
            let n2 := outward e2.1 e2.2
            let det := n1.1 * n2.2 - n1.2 * n2.1
            if absQ det ≤ tiny then [(e2.1.tag, gx * n2.1 + gy * n2.2)]
            else [(e1.1.tag, (gx * n2.2 - gy * n2.1) / det), (e2.1.tag, (n1.1 * gy - n1.2 * gx) / det)]
          | _, _ => []
        some { f := (x, y), mult := mult.filter (fun m => m.1 != 0)
               face := vertexFace (if at_ p then i else (i + 1) % l.length) }

/-- The change of force and moment with the vector, with T, or with δ. -/
def SubP.dirVec (p : SubP) (d : Vec) : Vec :=
  [d.getD 0 0, d.getD 1 0, p.x * d.getD 1 0 - p.y * d.getD 0 0]
def SubP.dirT (p : SubP) : Vec :=
  if p.rud then p.dirVec [1, if 0 < p.t0 then -(p.cl * p.d0) else 0] else p.dirVec [p.ax, p.ay]
def SubP.dirD (p : SubP) : Vec := p.dirVec [0, if 0 < p.t0 then -(p.cl * p.t0) else 0]

/-- A value held within bounds, and which of them holds it: 0 neither, 1 the lower, 2 the upper. -/
def held (v lo hi : Rat) : Rat × Nat := if v < lo then (lo, 1) else if hi < v then (hi, 2) else (v, 0)

/-- A lane's subproblem at λ and μ of its bus (R213 step 1). R204 gives a rudder's angle no cost of its own: it is moved from
`rud`, its value of the iteration before, by a proximal term that vanishes where it comes to rest (log entry 94). A rudder's
face counts 4 for each state of its angle: at rest, at its lower or upper bound, moving. -/
def SubP.solve (p : SubP) (lam : Vec) (mu rud : Rat) : Option SubSol :=
  let k := 2 * (p.w + p.c)
  let c := mu * p.g
  if p.vec then
    let a (d : Vec) : Rat := vDot lam (p.dirVec d)
    (minPoly p.poly k (a [1, 0] + 2 * p.c * p.px) (a [0, 1] + 2 * p.c * p.py) c).map (fun x =>
      { x with curv := x.curv.map (fun v => (v.1, (p.dirVec v.2.1, v.2.2))) })
  else if p.hi < p.lo ∨ (p.rud ∧ p.dhi < p.dlo) then none
  else
    let a := vDot lam p.dirT + 2 * p.c * p.px
    let t := if c < a then (a - c) / k else if a < -c then (a + c) / k else 0
    let rest := decide (0 < c ∧ absQ a ≤ c)
    let (t, b) := held t p.lo p.hi
    let face := if b = 0 then (if rest then 1 else 0) else 1 + b
    let ct : List (Rat × (Vec × Rat)) :=
      if face = 0 then [(1 / k, (p.dirT, if 0 < t then 1 else if t < 0 then -1 else 0))] else []
    if p.rud then
      let q := vDot lam p.dirD
      let kd := k * vDot p.dirD [0, p.dirD.getD 1 0, 0] / 64
      let (d, bd) := held (if kd = 0 then rud else rud + q / kd) p.dlo p.dhi
      let move : Rat := 1 / ((2 ^ 20 : Nat) : Rat)
      let fd := if bd = 0 ∧ move < absQ (d - rud) then 3 else bd
      some { f := (fix60 t, fix60 d), face := face + 4 * fd
             curv := ct ++ (if bd = 0 ∧ kd ≠ 0 then [(1 / kd, (p.dirD, 0))] else []) }
    else some { f := (fix60 t, 0), face := face, curv := ct }

/-! ### The factorisation (R217) -/

/-- A factorisation LDLᵀ: each pivot with the column of L below it; pivots replaced by ε_piv and pivots exactly zero. -/
structure Fact where
  cols : List (Rat × Vec) := []
  reg : Nat := 0
  zero : Nat := 0

/-- LDLᵀ of what is left of a symmetric matrix, pivots at or below ε_piv replaced by it (R217); `own` keeps a replaced pivot's
own value where it is above zero. -/
def ldlFrom (eps : Rat) (own : Bool) : Nat → Mat → Fact
  | 0, _ => {}
  | n + 1, m =>
    let p := mAt m 0 0
    let d := if p ≤ eps then (if own ∧ 0 < p then p else eps) else p
    let l := ((m.drop 1).map (fun r => r.getD 0 0 / d)).map work
    let rest := List.zipWith (fun li r => vSub (r.drop 1) (vScale (li * d) l)) l (m.drop 1)
    let r := ldlFrom eps own n (mWork rest)
    ⟨(d, l) :: r.cols, r.reg + (if p ≤ eps then 1 else 0), r.zero + (if p = 0 then 1 else 0)⟩

/-- ε_piv of a matrix: `fac` times its largest absolute diagonal entry (R217). -/
def epsPiv (fac : Rat) (m : Mat) : Rat := fac * vMax ((List.range m.length).map (fun i => mAt m i i))

/-- LDLᵀ of a symmetric matrix (R217). -/
def ldl (fac : Rat) (m : Mat) : Fact := ldlFrom (epsPiv fac m) false m.length m

/-- LDLᵀ with which the dual's step is formed: a direction that the slack term alone holds up is regularised and counted, and the
search solves it exactly all the same (R213), so that it keeps its own curvature (log entry 93). -/
def ldlOwn (fac : Rat) (m : Mat) : Fact := ldlFrom (epsPiv fac m) true m.length m

/-- The solution of LDLᵀx = b. -/
def ldlSolve : List (Rat × Vec) → Vec → Vec
  | [], _ => []
  | (d, l) :: r, b =>
    let y := b.headD 0
    let x := ldlSolve r (vSub (b.drop 1) (vScale y l))
    (y / d - vDot l x) :: x

/-! ### The dual iterations (R213, R214) -/

/-- A power bus with its headroom h_b of R203. -/
structure BusP where
  b : Nat
  h : Rat

/-- A problem of R204: its lanes, τ, W_S, the limited buses, and the factor of ε_piv. -/
structure DualP where
  lanes : List SubP
  tau : Vec
  ws : Rat
  buses : List BusP
  eps : Rat

/-- A dual point: λ, μ by bus, and the rudder angles of the iteration before. -/
structure DualPt where
  lam : Vec
  mu : List (Nat × Rat)
  rud : List (Nat × Rat)

/-- μ of a bus. -/
def DualPt.muOf (d : DualPt) (b : Option Nat) : Rat := match b with | some k => (aGet d.mu k).getD 0 | none => 0

/-- Every lane's subproblem at a dual point, ΣF, the residual τ − s − ΣF, and each bus's load above its limit. -/
structure DualAt where
  subs : List (SubP × SubSol)
  force : Vec
  res : Vec
  excess : List (Nat × Rat)

/-- Σ g|T| of a bus. -/
def busLoad (subs : List (SubP × SubSol)) (b : Nat) : Rat :=
  subs.foldl (fun a (p, x) => if p.bus = some b then a + p.g * p.mag x.f else a) 0

/-- Step 1 of R213: every lane's subproblem; none where a lane's set is empty. -/
def DualP.eval (q : DualP) (d : DualPt) : Option DualAt :=
  (q.lanes.mapM (fun (p : SubP) => (p.solve d.lam (d.muOf p.bus) ((aGet d.rud p.n).getD 0)).map (fun x => (p, x)))).map (fun subs =>
    let force := subs.foldl (fun a (p, x) => let f := p.force x.f; vAdd a [f.1, f.2.1, f.2.2]) (vZero 3)
    ⟨subs, force, vSub (vSub q.tau force) (vScale (1 / (2 * q.ws)) d.lam), q.buses.map (fun b => (b.b, busLoad subs b.b - b.h))⟩)

/-- The buses whose limit is active at a point: μ above zero, or the load above the limit. -/
def DualAt.buses (e : DualAt) (d : DualPt) : List Nat :=
  (e.excess.filter (fun x => decide (0 < d.muOf (some x.1) ∨ 0 < x.2))).map (·.1)

/-- The active set: the lanes' faces and the active buses. -/
def DualAt.active (e : DualAt) (d : DualPt) : List (Nat × Nat) × List Nat :=
  (e.subs.map (fun (p, x) => (p.n, x.face)), e.buses d)

/-- Step 2 of R213: the dual Hessian over λ and the active buses, from the lanes' active faces, 1/(2W_S) on λ's diagonal. -/
def DualP.hessian (q : DualP) (e : DualAt) (act : List Nat) : Mat :=
  let n := 3 + act.length
  e.subs.foldl (fun m (p, x) => x.curv.foldl (fun m (w, (f, l)) =>
      let v := f ++ act.map (fun b => if p.bus = some b then -(p.g * l) else 0)
      mAdd m (v.map (fun y => vScale (w * y) v))) m)
    (mDiag ((List.range n).map (fun i => if i < 3 then 1 / (2 * q.ws) else 0)))

/-- The point at a length along a direction; a μ that would fall below zero stays at zero. -/
def DualPt.along (d : DualPt) (act : List Nat) (dir : Vec) (t : Rat) : DualPt :=
  { d with
    lam := vAdd d.lam (vScale t (dir.take 3))
    mu := (act.zip (dir.drop 3)).foldl (fun m (b, v) => let x := (aGet d.mu b).getD 0 + t * v; aSet m b (if x < 0 then 0 else x)) d.mu }

/-- The dual's slope at a length along a direction. -/
def DualP.slope (q : DualP) (d : DualPt) (act : List Nat) (dir : Vec) (t : Rat) : Rat :=
  match q.eval (d.along act dir t) with
  | none => 0
  | some e => vDot e.res (dir.take 3) + sumQ ((act.zip (dir.drop 3)).map (fun (b, v) =>
      if (aGet d.mu b).getD 0 + t * v < 0 then 0 else v * (aGet e.excess b).getD 0))

/-- Lengths between which a slope falls through zero: the first doubling of 1 at which it is no longer above zero. -/
def bracketUp (slope : Rat → Rat) : Nat → Rat → Rat → Rat × Rat
  | 0, lo, t => (lo, t)
  | n + 1, lo, t => if slope t ≤ 0 then (lo, t) else bracketUp slope n t (2 * t)

/-- Where the line between two points of the slope crosses zero. -/
def secant (lo sl hi sh : Rat) : Rat := if sl = sh then lo else lo + (hi - lo) * sl / (sl - sh)

/-- Halving the bracket past the breaks of a slope that never rises; between breaks it is a line, and its zero is exact. -/
def narrow (slope : Rat → Rat) : Nat → Rat → Rat → Rat → Rat → Rat
  | 0, lo, sl, hi, sh => secant lo sl hi sh
  | n + 1, lo, sl, hi, sh =>
    let t := fix60 (secant lo sl hi sh)
    let st := slope t
    if absQ st ≤ tiny then t
    else
      let (lo, sl, hi, sh) := if 0 < st then (t, st, hi, sh) else (lo, sl, t, st)
      let m := (lo + hi) / 2
      let sm := slope m
      if 0 < sm then narrow slope n m sm hi sh else narrow slope n lo sl m sm

/-- Step 3 of R213: the length at which the dual is greatest along a direction. -/
def lineMax (slope : Rat → Rat) : Rat :=
  let s0 := slope 0
  if s0 ≤ 0 then 0
  else
    let (lo, hi) := bracketUp slope 60 0 1
    narrow slope 24 lo (slope lo) hi (slope hi)

/-- The least μ, by halving between two of which the upper keeps the bus within its limit. -/
def leastMu (excess : Rat → Rat) : Nat → Rat → Rat → Rat
  | 0, _, hi => hi
  | n + 1, lo, hi => let m := (lo + hi) / 2; if excess m ≤ 0 then leastMu excess n lo m else leastMu excess n m hi

/-- The first doubling of a μ that brings a bus within its limit. -/
def raiseMu (excess : Rat → Rat) : Nat → Rat → Rat
  | 0, m => m
  | n + 1, m => if excess m ≤ 0 then m else raiseMu excess n (2 * m)

/-- The point with μ of each overloaded bus raised until the bus is within its limit (R203). -/
def DualP.trim (q : DualP) (d : DualPt) : DualPt :=
  q.buses.foldl (fun (d : DualPt) (b : BusP) =>
    let excess : Rat → Rat := fun m => match q.eval { d with mu := aSet d.mu b.b m } with
      | none => 0
      | some e => (aGet e.excess b.b).getD 0
    let m := d.muOf (some b.b)
    if excess m ≤ 0 then d
    else
      let hi := raiseMu excess 48 (m + tiny)
      { d with mu := aSet d.mu b.b (leastMu excess 40 m hi) }) d

/-- A solve's end: 0 converged, 2 an overflow, 3 the iteration limit (R214, R218, R219); the point, the lanes' solutions, ΣF,
the slack, J of R204, iterations, and pivots replaced and exactly zero. -/
structure Solved where
  cause : Nat
  pt : DualPt
  subs : List (SubP × SubSol) := []
  force : Vec := [0, 0, 0]
  slack : Vec := [0, 0, 0]
  j : Rat := 0
  iters : Nat := 0
  reg : Nat := 0
  zero : Nat := 0

/-- A number beyond binary32 (R11). -/
def f32Over (x : Rat) : Bool := (encF32 x).2

/-- J of R204 at the lanes' solutions and a slack. -/
def DualP.cost (q : DualP) (subs : List (SubP × SubSol)) (slack : Vec) : Rat :=
  subs.foldl (fun a (p, x) => a + p.cost x.f) 0 + q.ws * vDot slack slack

/-- The iterations of R213 from a point whose active set was `set`, until R214's convergence or the limit.
A number that exceeds binary32 is an overflow (R218); what the pace keeps is rounded to binary32, the numbers within a solve are
not (log entry 85). -/
def DualP.iterate (q : DualP) : Nat → DualPt → List (Nat × Nat) × List Nat → Solved → Solved
  | 0, d, _, acc => { acc with cause := 3, pt := d }
  | n + 1, d, set, acc =>
    match q.eval d with
    | none => { acc with cause := 3, pt := d }
    | some e =>
      let act := e.buses d
      let fa := ldl q.eps (mWork (q.hessian e act))
      let dir := vWork (ldlSolve (ldlOwn q.eps (mWork (q.hessian e act))).cols (e.res ++ act.map (fun b => (aGet e.excess b).getD 0)))
      let d1 := d.along act dir (lineMax (q.slope d act dir))
      let d1 : DualPt := q.trim { d1 with lam := vWork d1.lam, mu := (d1.mu.map (fun x => (x.1, work x.2))).filter (fun x => x.2 != 0) }
      match q.eval d1 with
      | none => { acc with cause := 3, pt := d1 }
      | some e1 =>
        let acc := { acc with iters := acc.iters + 1, reg := acc.reg + fa.reg, zero := acc.zero + fa.zero }
        let slack := vSub q.tau e1.force
        let j := q.cost e1.subs slack
        let d2 := { d1 with rud := (e1.subs.filter (·.1.rud)).map (fun (p, x) => (p.n, x.f.2)) }
        if (d1.lam ++ d1.mu.map (·.2) ++ e1.res ++ dir ++ [j]).any f32Over then { acc with cause := 2, pt := d2 }
        else if e1.active d1 == set && e1.subs.all (fun x => x.2.face / 4 != 3 || !x.1.rud) && e1.res.all (fun r => decide (absQ r ≤ 1 / 10)) && e1.excess.all (fun x => decide (x.2 ≤ 0)) then
          { acc with cause := 0, pt := d2, subs := e1.subs, force := e1.force, slack := slack, j := j }
        else q.iterate n d2 (e1.active d1) acc

/-- The dual point and the active set of a warm start; a lane or bus it does not name starts interior or inactive (R213). -/
def DualP.start (q : DualP) (w : Warm) : DualPt × (List (Nat × Nat) × List Nat) :=
  (⟨(List.range 3).map (fun k => f32Q (w.lam.getD k 0).toNat),
      (w.mu.filter (fun m => q.buses.any (fun b => b.b == m.1))).map (fun m => (m.1, f32Q m.2.toNat)),
      (q.lanes.filter (·.rud)).map (fun p => (p.n, angQ (Config.rudderSeed p.n % 2 ^ 32)))⟩,
    (q.lanes.map (fun p => (p.n, aGetD w.faces p.n 0)),
      (q.buses.filter (fun b => w.mu.any (fun m => m.1 == b.b))).map (·.b)))

/-- A solve of R213 from a warm start, at most 24 iterations (R214). -/
def DualP.solve (q : DualP) (w : Warm) : Solved :=
  let (d, set) := q.start w
  q.iterate 24 d set ⟨3, d, [], [0, 0, 0], [0, 0, 0], 0, 0, 0, 0⟩

/-- What a solution leaves for the next pace's warm start (R213). -/
def Solved.warm (x : Solved) : Warm where
  lam := x.pt.lam.map w32
  mu := (x.pt.mu.filter (fun m => m.2 != 0)).map (fun m => (m.1, w32 m.2))
  faces := x.subs.map (fun (p, y) => (p.n, y.face))

/-! ### The pseudo-inverse (R221) -/

/-- One column of B: (F_x, F_y, N) per unit of a variable, with its weight. -/
structure ColB where
  n : Nat
  bx : Rat
  by_ : Rat
  bn : Rat
  w : Rat

/-- W⁻¹Bᵀ(BW⁻¹Bᵀ)⁻¹ by LDLᵀ, directions whose pivot lies at or below ε_piv dropped; one row of M per column of B. -/
def pinvRows (cols : List ColB) (epsFac : Rat) : List (Nat × List Rat) :=
  let e (i : Nat) (c : ColB) : Rat := match i with | 0 => c.bx | 1 => c.by_ | _ => c.bn
  let a (i j : Nat) : Rat := cols.foldl (fun s c => s + e i c * e j c / c.w) 0
  let m (x y : Rat) : Rat := if absQ x < absQ y then absQ y else absQ x
  let eps := epsFac * m (a 0 0) (m (a 1 1) (a 2 2))
  let piv (p : Rat) : Rat := if p ≤ eps then 0 else p
  let dv (x p : Rat) : Rat := if p = 0 then 0 else x / p
  let d0 := piv (a 0 0)
  let l10 := dv (a 1 0) d0
  let l20 := dv (a 2 0) d0
  let d1 := piv (a 1 1 - l10 * l10 * d0)
  let l21 := dv (a 2 1 - l20 * l10 * d0) d1
  let d2 := piv (a 2 2 - l20 * l20 * d0 - l21 * l21 * d1)
  cols.map (fun c =>
    let y0 := c.bx
    let y1 := c.by_ - l10 * y0
    let y2 := c.bn - l20 * y0 - l21 * y1
    let z2 := dv y2 d2
    let z1 := dv y1 d1 - l21 * z2
    let z0 := dv y0 d0 - l10 * z1 - l20 * z2
    (c.n, [z0 / c.w, z1 / c.w, z2 / c.w]))

/-! ### What lanes can reach (R223) -/

/-- The largest b·T − c|T| a lane's set allows, b being λ's part along the lane and c the price of its bus. -/
def SubP.reach (p : SubP) (lam : Vec) (c : Rat) : Rat :=
  let mx (a b : Rat) : Rat := if a < b then b else a
  if p.vec then
    let ax := vDot lam (p.dirVec [1, 0])
    let ay := vDot lam (p.dirVec [0, 1])
    let val (x y : Rat) : Rat := ax * x + ay * y - (if c = 0 then 0 else c * sqrtQ (x * x + y * y))
    (p.poly.zip (p.poly.drop 1 ++ p.poly.take 1)).foldl (fun m (v, w) =>
      let m := mx m (val v.x v.y)
      if c = 0 then m
      else
        let dx := w.x - v.x
        let dy := w.y - v.y
        let t := bisect01 (fun t =>
          let x := v.x + t * dx
          let y := v.y + t * dy
          let r := sqrtQ (x * x + y * y)
          (if r = 0 then 0 else c * (x * dx + y * dy) / r) - (ax * dx + ay * dy)) 40 0 1
        mx m (val (v.x + t * dx) (v.y + t * dy))) 0
  else
    let b := vDot lam p.dirT
    let val (t : Rat) : Rat := b * t - c * absQ t
    let top := mx (val (held 0 p.lo p.hi).1) (mx (val p.lo) (val p.hi))
    if p.rud then
      let q := vDot lam p.dirD
      let fixed := if 0 < p.t0 then vDot lam (p.dirVec [0, p.cl * p.t0 * p.d0]) else 0
      top + fixed + mx (q * p.dlo) (q * p.dhi)
    else top

/-- The least value of a function with one trough, by thirds between two bounds. -/
def trough (f : Rat → Rat) : Nat → Rat → Rat → Rat
  | 0, lo, hi => f ((lo + hi) / 2)
  | n + 1, lo, hi =>
    let a := fix60 ((2 * lo + hi) / 3)
    let b := fix60 ((lo + 2 * hi) / 3)
    if f a ≤ f b then trough f n lo b else trough f n a hi

/-- The largest force along `d` that lanes reach with nothing across `e` and `g`, within the buses' limits: the least, over the
multipliers of `e`, of `g` and of each bus, of what the lanes' sets allow. -/
def reachAlong (ps : List SubP) (buses : List BusP) (d e g : Vec) : Rat :=
  let free := ps.filter (fun p => !buses.any (fun b => p.bus == some b.b))
  let total (lam : Vec) : Rat :=
    sumQ (free.map (fun p => p.reach lam 0)) +
      sumQ (buses.map (fun b => trough (fun m =>
        b.h * m + sumQ ((ps.filter (fun p => p.bus == some b.b)).map (fun p => p.reach lam (m * p.g)))) 80 0 65536))
  let r := trough (fun x => trough (fun y => total (vAdd d (vAdd (vScale x e) (vScale y g)))) 80 (-65536) 65536) 80 (-65536) 65536
  if r < 0 then 0 else r

/-- Every choice of one from each. -/
def choices {α : Type} : List (List α) → List (List α)
  | [] => [[]]
  | l :: r => l.flatMap (fun x => (choices r).map (x :: ·))

/-- The largest force along `d` when each lane stands in whichever of its sets serves best (R223). -/
def reachBest (sets : List (List SubP)) (buses : List BusP) (d e g : Vec) : Rat :=
  (choices sets).foldl (fun m ps => let r := reachAlong ps buses d e g; if m < r then r else m) 0

end Sys2Proof.Machine
end

