-- ==== Sys2Proof/Machine/AllocOps.lean ====
section
/-! DEFINITION. Machine/AllocOps.lean: the allocation front stage (R198 to R223): assembly, run-ahead, modes and branching,
the solve, the commit of a pace's allocation, misses, the fallback and the envelope (log entry 36). -/

namespace Sys2Proof.Machine

/-- Clamping to ±l. -/
def clampAbs (v l : Int) : Int := if v > l then l else if v < -l then -l else v

/-- A lane's mode in a problem: 1 NORMAL, 2 TRANSIT, 3 ESCAPE; the wedge shown, the target shown, and the wedge that confines
it in the nominal target problem. -/
structure LMode where
  mode : Nat
  wedge : Nat
  target : Nat
  nom : Nat

namespace State

/-- The previous commands: T_p in N and the angle (R198): what the registers of the lane hold. -/
def alcT (s : State) (n : Nat) : Int := sInt (s.rd (Reg.ALC_LANE_CMD_T n))
def alcA (s : State) (n : Nat) : Nat := s.rd (Reg.ALC_LANE_CMD_ANG n)

/-- A lane's target wedge; 7 undecided. -/
def alcTgt (s : State) (n : Nat) : Nat := aGetD s.alc.tgt n 7

/-- The wedges on the nearer and the farther side of the sector an azimuth lies in; clockwise when equal (R209). -/
def escapeWedges (g : Geo) (az : Nat) (sec : Nat × Nat) : Nat × Option Nat :=
  let ws := wedgesOf g.sects
  let atE := ws.findIdx? (fun w => w.1 == sec.2)
  let atS := ws.findIdx? (fun w => (w.1 + w.2) % 2 ^ 32 == sec.1)
  let cw := (sec.2 + 2 ^ 32 - az) % 2 ^ 32
  let ccw := (az + 2 ^ 32 - sec.1) % 2 ^ 32
  let (near, far) := if cw ≤ ccw then (atE, atS) else (atS, atE)
  match near with
  | some a => (a, far)
  | none => (far.getD 0, none)

/-- A lane's mode at a measured azimuth (R207 to R209), whether it is in its first pace of ESCAPE with the far wedge, and a
target decided at once. -/
def laneMode (s : State) (m : LaneIn) : LMode × Option Nat × Option Nat :=
  let g := geoOf s m.n
  if g.kind != 0 then (⟨1, 0, 0, 0⟩, none, none)
  else
    let t := s.alcTgt m.n
    let w := wedgeAt g.sects m.az
    let was := aGetD s.alc.modes m.n 0
    let branch := s.is Fl.ALC_CTL_BRANCH_EN
    if w = 7 then
      if t != 7 && was == 2 && (aGetD s.alc.cross m.n []).any (fun x => strictlyIn m.az x.1 x.2) then
        (⟨2, 7, t, t⟩, none, none)
      else
        let t := if was = 3 then t else 7
        if t = 7 then
          let (near, far) := escapeWedges g m.az ((g.sects.find? (fun x => strictlyIn m.az x.1 x.2)).getD (0, 0))
          (⟨3, 7, 7, near⟩, if branch then far else none, some near)
        else (⟨3, 7, t, t⟩, none, none)
    else if !branch || t == 7 then (⟨1, w, w, w⟩, none, if t = w then none else some w)
    else if w = t then (⟨1, t, t, t⟩, none, none)
    else (⟨2, w, t, t⟩, none, none)

/-- The route of a lane from an azimuth to a wedge: clockwise or not, the angle left to the wedge's near edge, the sectors
still to be crossed (R208). -/
def routeTo (g : Geo) (az t : Nat) : Bool × Nat × List (Nat × Nat) :=
  let w := (wedgesOf g.sects).getD t (0, 2 ^ 32)
  let cw := (w.1 + 2 ^ 32 - az) % 2 ^ 32
  let ccw := (az + 2 ^ 33 - w.1 - w.2) % 2 ^ 32
  let secs := g.sects.filter (fun x => !strictlyIn az x.1 x.2)
  let xc := secs.filter (fun x => decide ((x.1 + 2 ^ 32 - az) % 2 ^ 32 < cw))
  let xa := secs.filter (fun x => decide ((az + 2 ^ 32 - x.2) % 2 ^ 32 < ccw))
  let span (l : List (Nat × Nat)) : Nat := l.foldl (fun a x => a + (x.2 + 2 ^ 32 - x.1) % 2 ^ 32) 0
  let clock := if xc.isEmpty != xa.isEmpty then xc.isEmpty
    else if xc.isEmpty then decide (cw ≤ ccw) else decide (span xc ≤ span xa)
  if clock then (true, cw, xc) else (false, ccw, xa)

/-- The azimuth command of a lane in TRANSIT or ESCAPE (R208, R209). -/
def steerAz (s : State) (m : LaneIn) (md : LMode) : Nat :=
  let g := geoOf s m.n
  if md.target = 7 then (if s.alc.cmded.contains m.n then s.alcA m.n else m.az)
  else
    let tp := s.alcT m.n
    if (tp * 65536 : Int) > s.get ⟨Reg.ALC_TRANSIT, 15, 0⟩ * g.tPos then m.az
    else
      let (clock, rest, cross) := routeTo g m.az md.target
      let (clock, rest) :=
        if md.mode = 3 then
          let w := (wedgesOf g.sects).getD md.target (0, 2 ^ 32)
          match g.sects.find? (fun x => strictlyIn m.az x.1 x.2) with
          | some (a, e) =>
            let up := (e + 2 ^ 32 - m.az) % 2 ^ 32
            let down := (m.az + 2 ^ 32 - a) % 2 ^ 32
            let atE := e == w.1
            let atS := a == (w.1 + w.2) % 2 ^ 32
            let c := atE && (!atS || decide (up ≤ down))
            (c, if c then up else down)
          | none => (clock, rest)
        else (clock, rest)
      let lim := min (2 ^ 30) rest
      let lim := if md.mode = 2 ∧ tp ≠ 0 then
          cross.foldl (fun l x => min l (if clock then (x.1 + 2 ^ 32 - m.az) % 2 ^ 32 else (m.az + 2 ^ 32 - x.2) % 2 ^ 32)) lim
        else lim
      if clock then (m.az + lim) % 2 ^ 32 else (m.az + 2 ^ 32 - lim) % 2 ^ 32

/-- T₀ of the power linearisation: max(|T_p|, 0.05 T_POS), in kN (R203). -/
def busT0 (s : State) (n : Nat) : Rat :=
  let g := geoOf s n
  let a := absQ (kN (s.alcT n))
  let b := kN g.tPos / 20
  if a < b then b else a

/-- g_i of R203. -/
def busG (s : State) (n : Nat) : Rat := 3 / 2 * (geoOf s n).kp * sqrtQ (s.busT0 n)

/-- P_i(T₀) − g_i T₀. -/
def busBase (s : State) (n : Nat) : Rat := let t := s.busT0 n; (geoOf s n).kp * t * sqrtQ t - s.busG n * t

/-- The bus a lane loads, if that bus is limited. -/
def busOf (s : State) (p : AlcProb) (n : Nat) : Option Nat :=
  let b := (geoOf s n).bus
  if b < 8 ∧ p.buses.getD b 0xFFFFFFFF ≠ 0xFFFFFFFF then some b else none

/-- The limited buses of a problem with their headroom h_b (R203). -/
def busLimits (s : State) (p : AlcProb) : List BusP :=
  ((List.range 8).filter (fun b => p.buses.getD b 0xFFFFFFFF != 0xFFFFFFFF)).map (fun b =>
    ⟨b, (p.buses.getD b 0 : Rat) - (p.lanes.filter (fun l => (geoOf s l.n).bus == b)).foldl (fun a l => a + s.busBase l.n) 0⟩)

/-- The command problem's part of a lane (R198 to R203, R208, R209), and its active sector edges as tag 3. A lane in TRANSIT or
ESCAPE is a scalar lane, and its change counts as that of the other kinds, (T − T_p)² (R204, R208). -/
def cmdSub (s : State) (p : AlcProb) (m : LaneIn) (md : LMode) : SubP :=
  let g := geoOf s m.n
  let tp := kN (s.alcT m.n)
  let dT := kN g.rateT / 1000
  let tPos := kN g.tPos
  let u := unitOf m.az
  let base : SubP := { n := m.n, vec := false, rud := false, x := g.x, y := g.y, ax := 1, ay := 0, poly := []
                       lo := 0, hi := 0, w := g.w, c := g.c, px := tp, py := 0, bus := s.busOf p m.n, g := s.busG m.n }
  let mx (a b : Rat) : Rat := if a < b then b else a
  let mn (a b : Rat) : Rat := if a < b then a else b
  if g.kind = 0 then
    let pa := unitOf (s.alcA m.n)
    let fp := (tp * pa.1, tp * pa.2)
    if md.mode != 1 then
      let k : Rat := if md.mode = 2 ∧ md.wedge ≠ 7 then (s.get ⟨Reg.ALC_TRANSIT, 15, 0⟩ : Rat) / 65536 else 0
      { base with ax := u.1, ay := u.2, hi := mx (k * tPos) (tp - dT) }
    else
      let a : Rat := (g.rateA : Rat) / 1000000000
      let ta := fix60 (sinQ a / cosQ a)
      let (nx, ny) := (-u.2, u.1)
      let l := ngon tPos g.nGon
      let l := clipPoly l (-u.1) (-u.2) (-(mx 0 (tp - dT))) 0
      let l := clipPoly l u.1 u.2 (tp + dT) 0
      let l := clipPoly l (nx - ta * u.1) (ny - ta * u.2) 0 0
      let l := clipPoly l (-nx - ta * u.1) (-ny - ta * u.2) 0 0
      let near (e : Nat) : Bool := decide ((angDiff e m.az).natAbs ≤ g.dAng)
      let l := g.sects.foldl (fun l x =>
        let l := if near x.1 then let e := unitOf x.1; clipPoly l (-e.2) e.1 0 3 else l
        if near x.2 then let e := unitOf x.2; clipPoly l e.2 (-e.1) 0 3 else l) l
      { base with vec := true, poly := l, px := fp.1, py := fp.2 }
  else
    let lo := mx (-(kN g.tNeg)) (tp - dT)
    let hi := mn tPos (tp + dT)
    if g.kind = 3 then
      let dp : Int := sInt (s.alcA m.n)
      let lim : Int := min (g.dMax : Int) (2 ^ 31 - 1)
      let q (i : Int) : Rat := (i : Rat) * 2 * piQ / ((2 ^ 32 : Nat) : Rat)
      { base with rud := true, lo := lo, hi := hi, cl := g.cl, t0 := kN m.th / 1000, d0 := q (sInt m.az)
                  dlo := q (max (-lim) (dp - g.dAng)), dhi := q (min lim (dp + g.dAng)) }
    else { base with ax := g.dir.1, ay := g.dir.2, lo := lo, hi := hi }

/-- The target problem's part of a lane, confined to a wedge (R206). -/
def tgtSub (s : State) (p : AlcProb) (m : LaneIn) (w : Nat) : SubP :=
  let g := geoOf s m.n
  let tPos := kN g.tPos
  let base : SubP := { n := m.n, vec := false, rud := false, x := g.x, y := g.y, ax := g.dir.1, ay := g.dir.2, poly := []
                       lo := -(kN g.tNeg), hi := tPos, w := g.w, c := 0, px := 0, py := 0, bus := s.busOf p m.n, g := s.busG m.n }
  if g.kind = 0 then
    let (st, sp) := (wedgesOf g.sects).getD w (0, 2 ^ 32)
    let a := unitOf st
    let e := unitOf ((st + sp) % 2 ^ 32)
    let l := clipPoly (ngon tPos g.nGon) a.2 (-a.1) 0 1
    let l := if sp < 2 ^ 31 then clipPoly l (-e.2) e.1 0 2
      else
        -- one line holds both edges: the origin splits it, the end edge first
        l.flatMap (fun v => if v.tag = 1 then [{ v with tag := 2 }, ⟨0, 0, 1⟩] else [v])
    { base with vec := true, poly := l }
  else if g.kind = 3 then
    let q (i : Int) : Rat := (i : Rat) * 2 * piQ / ((2 ^ 32 : Nat) : Rat)
    let lim : Int := min (g.dMax : Int) (2 ^ 31 - 1)
    { base with rud := true, cl := g.cl, t0 := kN m.th / 1000, d0 := q (sInt m.az), dlo := q (-lim), dhi := q lim, ax := 1, ay := 0 }
  else base

/-- The wedge across an edge: 1 the start of wedge w, 2 its end (R206). -/
def acrossEdge (g : Geo) (w tag : Nat) : Option Nat :=
  let ws := wedgesOf g.sects
  let (st, sp) := ws.getD w (0, 2 ^ 32)
  let ang := if tag = 1 then st else (st + sp) % 2 ^ 32
  let ang := match g.sects.find? (fun x => if tag = 1 then x.2 == ang else x.1 == ang) with
    | some x => if tag = 1 then x.1 else x.2
    | none => ang
  ws.findIdx? (fun x => if tag = 1 then (x.1 + x.2) % 2 ^ 32 == ang else x.1 == ang)

/-- τ in kN and kN·m from the formats of R7. -/
def tauK (tau : List Int) : Vec := [kN (tau.getD 0 0), kN (tau.getD 1 0), (tau.getD 2 0 : Rat) / 100]

/-- A lane command from the solver's value (R210). -/
def laneCmd (s : State) (m : LaneIn) (md : LMode) (p : SubP) (f : Rat × Rat) : Nat × Int :=
  let g := geoOf s m.n
  let t := sat32 (rnd (f.1 * 1000))
  if g.kind = 0 then
    if md.mode = 1 then
      let mag := p.mag f
      let held := decide (mag * 65536 < (g.floor : Rat) * kN g.tPos)
      (if held then s.alcA m.n else toAng (atan2Q f.2 f.1), sat32 (rnd (mag * 1000)))
    else (s.steerAz m md, t)
  else if g.kind = 3 then (toAng f.2, t)
  else (0, t)

/-- A lane with its mode, the far wedge of a first pace of ESCAPE, and a target decided at once. -/
abbrev LaneMd := LaneIn × (LMode × Option Nat × Option Nat)

/-- The candidates that the nominal solution and first paces of ESCAPE open: lane and wedge, those with the largest
multipliers first, after those of ESCAPE (R206, R209). -/
def candidatesOf (s : State) (ms : List LaneMd) (nom : Solved) : List (Nat × Nat) :=
  let esc := ms.filterMap (fun (m, (_, far, _)) => far.map (fun w => ((m.n, w), (none : Option Rat))))
  let nrm := ms.flatMap (fun (m, (md, _, _)) =>
    if md.mode != 1 || (geoOf s m.n).kind != 0 then []
    else match nom.subs.find? (fun x => x.1.n == m.n) with
      | none => []
      | some (_, x) => x.mult.filterMap (fun (tag, mu) =>
          if tiny < mu then (acrossEdge (geoOf s m.n) md.nom tag).map (fun w => ((m.n, w), some mu)) else none))
  let l := sortBy (fun (a b : (Nat × Nat) × Option Rat) => match a.2, b.2 with
    | none, some _ => true | some x, some y => decide (y < x) | _, _ => false) (esc ++ nrm)
  l.map (·.1)

/-- A problem over lanes' parts, with τ, the slack weight, the buses and ε_piv in force. -/
def dualOf (s : State) (p : AlcProb) (lanes : List SubP) : DualP :=
  ⟨lanes, tauK p.tau, f32Q (s.rd Reg.ALC_SLACK_W), s.busLimits p, f32Q (s.rd Reg.SLV_EPS_PIV)⟩

/-- The nominal target problem, or a candidate: one lane moved to one wedge (R206). -/
def tgtProb (s : State) (p : AlcProb) (ms : List LaneMd) (key : Option (Nat × Nat)) : DualP :=
  s.dualOf p (ms.map (fun (m, y) =>
    s.tgtSub p m (match key with | some (n, w) => if n = m.n then w else y.1.nom | none => y.1.nom)))

/-- A target problem solved from its own previous solution (R213). -/
def solveTgt (s : State) (p : AlcProb) (ms : List LaneMd) (key : Option (Nat × Nat)) : Solved :=
  (s.tgtProb p ms key).solve (((s.alc.tgtWarm.find? (fun x => x.1 == key)).map (·.2)).getD {})

/-- The least of some candidates by their objective. -/
def leastCand (l : List ((Nat × Nat) × Rat)) : Option ((Nat × Nat) × Rat) :=
  l.foldl (fun b x => match b with | some y => if x.2 < y.2 then some x else b | none => some x) none

/-- A class-A solve: the command problem, the nominal target problem and the candidates (R206, R207, R209, R210, R213 to R219).
A problem that does not converge is dropped from the branching; an overflow in any part rejects the solution. -/
def alcSolve (s : State) (p : AlcProb) : AlcRes :=
  let ms : List LaneMd := p.lanes.map (fun m => (m, s.laneMode m))
  let sol := (s.dualOf p (ms.map (fun (m, x) => s.cmdSub p m x.1))).solve s.alc.warm
  let branch := s.is Fl.ALC_CTL_BRANCH_EN
  let nom := s.solveTgt p ms none
  let opened := if branch && nom.cause == 0 then s.candidatesOf ms nom else []
  let cand := (opened.take 8).map (fun k => (k, s.solveTgt p ms (some k)))
  let all := [sol, nom] ++ cand.map (·.2)
  let done := (cand.filter (fun x => x.2.cause == 0)).map (fun x => (x.1, x.2.j))
  let jn : Rat := if nom.cause = 0 then nom.j else 0
  let hy := (1 : Rat) - (s.get Fl.ALC_BRANCH_HYST : Rat) / 65536
  let best := leastCand done
  let cmds := sol.subs.map (fun (sp, x) =>
    match ms.find? (fun y => y.1.n == sp.n) with
    | some (m, y) => (sp.n, s.laneCmd m y.1 sp x.f)
    | none => (sp.n, (0, 0)))
  let tdec := ms.filterMap (fun (m, (md, far, now)) => match now with
    | none => none
    | some w =>
      if md.mode != 3 || !branch then some (m.n, w)
      else if nom.cause != 0 then none
      else match far.bind (fun f => done.find? (fun x => x.1 == (m.n, f))) with
        | some x => some (m.n, if x.2 ≤ hy * jn then x.1.2 else w)
        | none => some (m.n, w))
  let load (b : Nat) : Nat × Bool :=
    (rnd (sol.subs.foldl (fun a (sp, x) =>
      if (geoOf s sp.n).bus = b then a + s.busBase sp.n + s.busG sp.n * sp.mag x.f else a) 0) |>.toNat,
      decide (0 < sol.pt.muOf (some b)))
  let n10 (v : Rat) (k : Nat) : Int := sat32 (rnd (v * (k : Rat)))
  { cause := if all.any (fun x => x.cause == 2) then 2 else sol.cause
    cmds := cmds, iters := sol.iters, j := toF32 sol.j, jNom := toF32 jn
    jCand := match best with | some x => toF32 x.2 | none => 0
    slack := sol.slack.any (fun v => decide (1 < absQ v))
    cands := done.length, opened := (opened.map (·.1)).eraseDups
    edges := (sol.subs.filter (fun (sp, x) => sp.vec && decide (tiny < sp.mag x.f) && x.mult.any (fun m => m.1 == 3))).map (·.1.n)
    best := best.map (·.1)
    lead := best.bind (fun x => if x.2 ≤ hy * jn then some x.1 else none)
    tdec := tdec, modes := ms.map (fun (m, y) => (m.n, (y.1.mode, (y.1.wedge, y.1.target))))
    ach := [n10 (sol.force.getD 0 0) 1000, n10 (sol.force.getD 1 0) 1000, n10 (sol.force.getD 2 0) 100]
    load := (List.range 8).map load
    pivReg := all.foldl (fun a x => a + x.reg) 0, pivZero := all.foldl (fun a x => a + x.zero) 0
    time := (s.now - p.asked) / 100
    warm := if sol.cause = 0 then sol.warm else s.alc.warm
    tgtWarm := (((none, nom) :: cand.map (fun x => (some x.1, x.2))).filter (fun x => x.2.cause == 0)).map (fun x => (x.1, x.2.warm)) }

/-! ### Assembly, run-ahead, commit (R36, R211, R212) -/

/-- The bus limits in force. -/
def busRegs (s : State) : List Nat := (List.range 8).map (fun b => s.rd (Reg.ALC_BUS_LIMIT b))

/-- The front stage and the solver array are open. -/
def alcOpen (s : State) : Bool := s.isOpen 4
def slvOpen (s : State) : Bool := s.isOpen 3

/-- A lane's measured values, with thrust in 0.001 N. -/
def laneIn (s : State) (n : Nat) : LaneIn := ⟨n, s.rd (Reg.LANE_AZ n), sInt (s.rd (Reg.LANE_T n)) * 1000⟩

/-- The front stage at a pace boundary: measured values and availability (R211). A lane just available takes no target,
thrust zero and its measured azimuth (R207, R209). -/
def alcBoundary (s : State) : State :=
  let av := s.lanesOn.filter s.laneAvailable
  let seen := s.lanesOn.map s.laneIn
  let meas := seen.filter (fun m => av.contains m.n)
  let fresh := meas.filter (fun m => !s.alc.avail.contains m.n)
  let s : State := { s with alc := { s.alc with
    prev := s.alc.seen, seen := seen, meas := meas, avail := av, prob := none, res := none, done := false, solveT := none
    tgt := s.alc.tgt.filter (fun t => av.contains t.1 && !fresh.any (fun m => m.n == t.1))
    modes := s.alc.modes.filter (fun t => av.contains t.1), cmded := s.alc.cmded.filter av.contains } }
  s.each fresh (fun s m => (s.wr (Reg.ALC_LANE_CMD_T m.n) 0).wr (Reg.ALC_LANE_CMD_ANG m.n)
    (if (geoOf s m.n).kind = 0 ∨ (geoOf s m.n).kind = 3 then m.az else 0))

/-- A class-A request pre-empts class-H work in progress, and is counted (R216). -/
def requestA (s : State) : State :=
  (s.when (s.is Fl.SLV_STATUS_H_BUSY) (fun s => s.count Reg.SLV_PREEMPT)).flag Fl.SLV_STATUS_A_BUSY true

/-- A_BUSY while a problem waits for its result. -/
def slvBusy (s : State) : State :=
  s.flag Fl.SLV_STATUS_A_BUSY ((s.alc.prob.isSome && s.alc.res.isNone && !s.alc.done) || (s.alc.ahead.isSome && s.alc.aheadRes.isNone))

/-- Flags and counts of class-A work (R217, R218). -/
def pivots (s : State) (r : AlcRes) : State :=
  let s := (s.countN Reg.SLV_A_PIVOT_REG r.pivReg).countN Reg.SLV_A_PIVOT_ZERO r.pivZero
  let s := s.when (0 < r.pivReg) (fun s => s.flag Fl.SLV_FLAGS_A_PIVOT_REG true)
  let s := s.when (0 < r.pivZero) (fun s => s.flag Fl.SLV_FLAGS_A_PIVOT_ZERO true)
  s.when (r.cause == 2) (fun s => (s.flag Fl.SLV_FLAGS_A_OVF true).count Reg.SLV_A_OVF)

/-- The next pace's demand: at pace index 5 that of the demand mark (R39). -/
def nextTau (s : State) : List Int :=
  if (s.cyc.leg + 1) % s.legPaces = 5 % s.legPaces then (List.range 3).map (fun k => sInt (s.rd (Reg.LOOP_TAU k)))
  else s.loop.tau

/-- RUNAHEAD_ASSEMBLY (R212): a lane's measured values of this pace moved on by their change from the last pace. -/
def assembleAhead (s : State) : State :=
  if !s.is Fl.ALC_CTL_RUNAHEAD_EN || !s.slvOpen || s.alc.ahead.isSome then s
  else
    let hat (m : LaneIn) : LaneIn :=
      let p := (s.alc.prev.find? (fun x => x.n == m.n)).getD m
      let g := geoOf s m.n
      ⟨m.n, uInt ((m.az : Int) + clampAbs (angDiff m.az p.az) g.dAng), m.th + clampAbs (m.th - p.th) g.rateT⟩
    ({ s with alc := { s.alc with ahead := some ⟨s.alc.meas.map hat, s.nextTau, s.busRegs, s.now⟩, aheadRes := none } } : State).requestA

/-- Conditions 1 to 3 of R36 with the tolerances of R212; while RUNAHEAD_EN is clear every pace is solved from its commit mark
(R212). -/
def aheadGood (s : State) : Bool :=
  match (if s.is Fl.ALC_CTL_RUNAHEAD_EN then s.alc.ahead else none), s.alc.aheadRes with
  | some p, some r =>
    let azTol : Rat := (s.get Fl.ALC_TOL_AZ_TOL : Nat) * ((2 ^ 32 : Nat) : Rat) / 36000
    r.cause == 0 && p.tau == s.loop.tau && p.buses == s.busRegs && p.lanes.map (·.n) == s.alc.avail &&
      p.lanes.all (fun h => match s.alc.meas.find? (fun m => m.n == h.n) with
        | none => false
        | some m =>
          let g := geoOf s h.n
          ((g.kind != 0 && g.kind != 3) || decide ((((angDiff m.az h.az).natAbs : Nat) : Rat) ≤ azTol)) &&
            decide ((m.th - h.th).natAbs ≤ s.get Fl.ALC_TOL_T_TOL * g.tPos))
  | _, _ => false

/-- The committed commands of a pace and what follows from them: modes, routes, lanes commanded (R208, R210). -/
def takeCmds (s : State) (r : AlcRes) : State :=
  let lanes := s.alc.meas
  let cross := r.modes.filterMap (fun (n, (md, (w, t))) =>
    if md = 2 then
      if w = 7 then some (n, aGetD s.alc.cross n [])
      else (lanes.find? (fun m => m.n == n)).map (fun m => (n, (routeTo (geoOf s n) m.az t).2.2))
    else none)
  let s := s.each r.cmds (fun s c => (s.wr (Reg.ALC_LANE_CMD_T c.1) (uInt c.2.2)).wr (Reg.ALC_LANE_CMD_ANG c.1) c.2.1)
  let s := s.each ((List.range 64).filter (fun n => !s.alc.avail.contains n)) (fun s n => s.wr (Reg.ALC_LANE_CMD_T n) 0)
  { s with alc := { s.alc with
      modes := r.modes.map (fun x => (x.1, x.2.1)), cross := cross
      cmded := (s.alc.cmded ++ r.cmds.map (·.1)).eraseDups } }

/-- A converged solution is what the next problems start from (R213, R219). -/
def keepWarm (s : State) (r : AlcRes) : State :=
  { s with alc := { s.alc with warm := r.warm, tgtWarm := r.tgtWarm } }

/-- A converged result is the pace's allocation: commands, targets, dwell, warm start (R207, R210, R213, R220). -/
def commitRes (s : State) (r : AlcRes) : State :=
  let s := (s.takeCmds r).keepWarm r
  let s := s.each r.tdec (fun s d => { s with alc := { s.alc with tgt := aSet s.alc.tgt d.1 d.2 } })
  let run : Nat := match r.lead with
    | none => 0
    | some k => match s.alc.dwell with | some (d, n) => if d = k then n + 1 else 1 | none => 1
  let s : State := { s with alc := { s.alc with dwell := r.lead.map (fun k => (k, run)), shown := min 255 run, missRun := 0 } }
  match r.lead with
  | some k => if s.get Fl.ALC_BRANCH_DWELL ≤ run then
      { s with alc := { s.alc with tgt := aSet s.alc.tgt k.1 k.2, dwell := some (k, 0) } } else s
  | none => s

/-- The commit mark (R36, R60, R212, R272). -/
def alcCommitMark (s : State) : State :=
  let forced := s.is Fl.ALC_CTL_FORCE_FALLBACK
  let drop (s : State) : State := { s with alc := { s.alc with ahead := none, aheadRes := none } }
  let solve (s : State) : State :=
    let s : State := { s with alc := { s.alc with src := 1, prob := some ⟨s.alc.meas, s.loop.tau, s.busRegs, s.now⟩, res := none } }
    if s.slvOpen then s.requestA else s
  if s.aheadGood && !s.fab.aheadBroken then
    let r := s.alc.aheadRes.getD {}
    let s := ((s.fabCommit).preCommitted).pivots r
    let s := drop s
    let s : State := { s with alc := { s.alc with src := 0, prob := none, res := some r, done := !forced } }
    if forced then s.slvBusy
    else ((s.commitRes r).assembleAhead).slvBusy
  else if s.provWork then
    solve (drop ((s.fabWithdraw).preWithdrawn)) |>.slvBusy
  else (solve s).slvBusy

/-- ALLOCATION_SOLVE_DONE (R214, R218): the pace's own problem, or the run-ahead's. The provisional commands pass the
Kerb's pre-check (R272). A run-ahead that is still running at a pace boundary gives no result: it is withdrawn at the
commit mark (R36). -/
def solveDone (s : State) : State :=
  if !s.slvOpen then s
  else match s.alc.prob, s.alc.res with
    | some p, none =>
      let r := s.alcSolve p
      (({ s with alc := { s.alc with res := some r } } : State).pivots r).slvBusy
    | _, _ =>
      match (if s.cyc.marks.contains 1 then s.alc.ahead else none), s.alc.aheadRes with
      | some p, none =>
        let r := s.alcSolve p
        (({ s with alc := { s.alc with aheadRes := some r } } : State).kerbPrecheck (if r.cause = 0 then r.cmds else [])).slvBusy
      | _, _ => s

/-! ### Fallback and misses (R219 to R222) -/

/-- The fallback command of a lane before the bus step (R222 steps 1 to 5), and whether its column was stale. -/
def fallbackLane (s : State) (mat : List (Nat × List (List Int))) (m : LaneIn) : (Nat × Rat) × Bool :=
  let g := geoOf s m.n
  let md := (s.laneMode m).1
  let tp : Rat := s.alcT m.n
  let dT : Rat := (g.rateT : Rat) / 1000
  let t := tauK s.loop.tau
  let row (r : List Int) : Rat := vDot (r.map frac40) t
  let lim (v : Rat) : Rat :=
    let v := if v < tp - dT then tp - dT else if tp + dT < v then tp + dT else v
    if g.kind = 0 ∧ v < 0 then 0 else v
  let held := s.alcA m.n
  if g.kind = 0 ∧ md.mode ≠ 1 then ((s.steerAz m md, lim 0), false)
  else match aGet mat m.n with
    | none => ((held, lim 0), true)
    | some rows =>
      if g.kind = 0 then
        let fx := row (rows.getD 0 [])
        let fy := row (rows.getD 1 [])
        let mag := sqrtQ (fx * fx + fy * fy) * 1000
        let d := toAng (atan2Q fy fx)
        if mag = 0 ∨ g.sects.any (fun x => strictlyIn d x.1 x.2) = true then ((held, lim 0), false)
        else
          let step := 2 ^ 32 / max 1 g.nGon
          let half := angQ (step / 2)
          let phi := angQ (d % step) - half
          let edge := (g.tPos : Rat) * cosQ half / cosQ phi
          let az := uInt ((m.az : Int) + clampAbs (angDiff d m.az) g.dAng)
          ((az, lim (if edge < mag then edge else mag)), false)
      else
        let v := row (rows.getD 0 []) * 1000
        let v := if v < -(g.tNeg : Rat) then -(g.tNeg : Rat) else if (g.tPos : Rat) < v then g.tPos else v
        ((if g.kind = 3 then held else 0, lim v), false)

/-- The bus step: thrusts of an overloaded bus are scaled by h_b / load (R222 step 6). -/
def fallbackBuses (s : State) (l : List (Nat × (Nat × Rat))) : List (Nat × (Nat × Rat)) :=
  let p : AlcProb := ⟨s.alc.meas, s.loop.tau, s.busRegs, s.now⟩
  (s.busLimits p).foldl (fun l b =>
    let on (n : Nat) : Bool := (geoOf s n).bus == b.b
    let load := l.foldl (fun a x => if on x.1 then a + s.busG x.1 * absQ x.2.2 / 1000 else a) 0
    if b.h < load ∧ 0 < load then
      let k : Rat := if b.h < 0 then 0 else b.h / load
      l.map (fun x => if on x.1 then (x.1, (x.2.1, x.2.2 * k)) else x)
    else l) l

/-- The fallback result (R222): SOURCE 2, or 3 where no matrix was committed, and FB_STALE. -/
def fallback (s : State) : AlcRes × Nat × Bool :=
  let modes := s.alc.meas.map (fun m => let x := (s.laneMode m).1; (m.n, (x.mode, (x.wedge, x.target))))
  let loads (cs : List (Nat × (Nat × Int))) : List (Nat × Bool) := (List.range 8).map (fun b =>
    ((rnd (cs.foldl (fun a c => if (geoOf s c.1).bus = b then a + s.busBase c.1 + s.busG c.1 * absQ (kN c.2.2) else a) 0)).toNat, false))
  match s.alc.mat with
  | none =>
    let cs := s.alc.meas.map (fun m => (m.n, (s.alcA m.n, s.alcT m.n)))
    ({ cmds := cs, modes := modes, load := loads cs }, 3, false)
  | some mat =>
    let l := s.alc.meas.map (fun m => (m.n, s.fallbackLane mat m))
    let stale := l.any (fun x => x.2.2) || mat.any (fun x => !s.alc.avail.contains x.1)
    let cs := (s.fallbackBuses (l.map (fun x => (x.1, x.2.1)))).map (fun x => (x.1, (x.2.1, sat32 (rnd x.2.2))))
    ({ cmds := cs, modes := modes, load := loads cs }, 2, stale)

/-- ΣF_i of the committed commands in the formats of R7; the force of a PROP_RUDDER lane about the pace's measured thrust and
angle (R198). -/
def achieved (s : State) (cmds : List (Nat × (Nat × Int))) : List Int :=
  let f := cmds.foldl (fun (a : Rat × Rat × Rat) c =>
    let g := geoOf s c.1
    let t := kN c.2.2
    let u := if g.kind = 0 then unitOf c.2.1 else g.dir
    let fx := t * u.1
    let fy : Rat := if g.kind = 3 then
        match s.alc.meas.find? (fun m => m.n == c.1) with
        | none => 0
        | some m =>
          let t0 := kN m.th / 1000
          if 0 < t0 then -(g.cl * (t0 * angQ c.2.1 + angQ m.az * t - t0 * angQ m.az)) else 0
      else t * u.2
    (a.1 + fx, a.2.1 + fy, a.2.2 + g.x * fy - g.y * fx)) (0, 0, 0)
  [sat32 (rnd (f.1 * 1000)), sat32 (rnd (f.2.1 * 1000)), sat32 (rnd (f.2.2 * 100))]

/-- The pace's allocation registers (R206, R207, R215, R219, R220). -/
def publishAlc (s : State) (r : AlcRes) (src cause : Nat) (forced stale ok : Bool) : State :=
  let b (x : Bool) (k : Nat) : Nat := if x then k else 0
  let s := s.wr Reg.ALC_STATUS (min 24 r.iters * 2 ^ 24 + b ok (r.cands * 2 ^ 20) + b stale (2 ^ 15) + s.alc.level * 2 ^ 12 +
    s.alc.missRun * 2 ^ 10 + b (ok && r.slack) (2 ^ 9) + b forced (2 ^ 8) + cause * 2 ^ 4 + src)
  let s := s.each (List.range 3) (fun s k => (s.wr (Reg.ALC_TAU k) (uInt (s.loop.tau.getD k 0))).wr (Reg.ALC_ACH k)
    (uInt (r.ach.getD k 0)))
  let s := ((s.wr Reg.ALC_J (b ok r.j)).wr Reg.ALC_J_NOM (b ok r.jNom)).wr Reg.ALC_J_CAND (b ok r.jCand)
  let s := (s.wr Reg.ALC_SOLVE_T (min 0xFFFF r.time)).wr Reg.ALC_CAND (match (if ok then r.best else none) with
    | some (n, w) => 2 ^ 31 + s.alc.shown * 2 ^ 16 + n * 2 ^ 8 + w
    | none => 0)
  let s := s.each ((List.range 8).zip r.load) (fun s (k, (l, act)) =>
    s.wr (Reg.ALC_BUS_LOAD k) (b act (2 ^ 31) + min l (2 ^ 31 - 1)))
  s.each (List.range 64) (fun s n =>
    s.wr (Reg.ALC_LANE_STATUS n) (match aGet r.modes n with
      | some (md, (w, t)) => b (ok && r.opened.contains n) (2 ^ 12) + b (ok && r.edges.contains n) (2 ^ 11) + t * 2 ^ 8 + w * 2 ^ 4 + md
      | none => if s.laneOn n && laneKind s n == 4 then 4 else 0))

/-- The allocation mark (R219, R220): the pace's allocation, or the fallback. -/
def allocMark (s : State) : State :=
  let forced := s.is Fl.ALC_CTL_FORCE_FALLBACK
  let closed := !s.slvOpen && !s.alc.done
  let cause : Nat := if forced then 0 else if closed then 4 else match s.alc.res with | some r => r.cause | none => 1
  let s := if s.alc.prob.isSome && s.alc.res.isNone && !s.alc.done then s.fabAbandonA else s
  match (if forced || cause != 0 then none else s.alc.res) with
  | some r =>
    let s := if s.alc.done then s else s.commitRes r
    let s := s.publishAlc r s.alc.src 0 false false true
    let s : State := { s with alc := { s.alc with prob := none, res := none, done := true, solveT := some r.time } }
    s.assembleAhead.slvBusy
  | none =>
    let old := s.alc.res.getD {}
    let (r, src, stale) := s.fallback
    let r := { r with iters := old.iters, time := old.time, ach := s.achieved r.cmds }
    let s := s.takeCmds r
    let took := if forced then s.alc.res.map (·.time) else none
    let s : State := { s with alc := { s.alc with
      dwell := none, shown := 0, prob := none, res := none, done := true, solveT := took } }
    let s := if forced then
        (if old.cause = 0 ∧ took.isSome = true then s.keepWarm old else s) |> fun s => { s with alc := { s.alc with missRun := 0 } }
      else
        let s := ((s.logEv Ev.ALLOC_MISS cause).count Reg.ALC_MISS).irq 1
        let s : State := { s with alc := { s.alc with missRun := s.alc.missRun + 1, missAt := s.now } }
        if 3 ≤ s.alc.missRun then
          { s with alc := { s.alc with
              missRun := 0, level := min 3 (s.get Fl.FUS_DETOUR_LEVEL + 1), changedAt := s.now } }
        else s
    let s := s.publishAlc r src cause forced stale false
    s.assembleAhead.slvBusy

/-- ALC_LEVEL_HOLD_EXPIRY (R220). -/
def levelExpiry (s : State) : State :=
  let t := max s.alc.changedAt s.alc.missAt + s.get ⟨Reg.ALC_LEVEL_HOLD, 15, 0⟩ * 1000000000
  if 0 < s.alc.level ∧ t ≤ s.now then { s with alc := { s.alc with level := s.alc.level - 1, changedAt := s.now } } else s

/-! ### The leg's envelope and matrix (R221, R223) -/

/-- Lanes of the leg: those available at its boundary (R38). -/
def alcLeg (s : State) : State := { s with alc := { s.alc with legAvail := s.lanesOn.filter s.laneAvailable } }

/-- FALLBACK_MATRIX (R221). -/
def fallbackMatrix (s : State) : State :=
  let ls := s.alc.legAvail.filter (fun n => let m := aGetD s.alc.modes n 1; (geoOf s n).kind != 4 && (m == 1 || m == 0))
  let cols := ls.flatMap (fun n =>
    let g := geoOf s n
    if g.kind = 0 then [(⟨n, 1, 0, -g.y, g.w⟩ : ColB), ⟨n, 0, 1, g.x, g.w⟩]
    else let u := g.dir; [⟨n, u.1, u.2, g.x * u.2 - g.y * u.1, g.w⟩])
  let rows := pinvRows cols (f32Q (s.rd Reg.SLV_EPS_PIV))
  let mat := ls.map (fun n => (n, (rows.filter (fun r => r.1 == n)).map (fun r =>
    r.2.map (fun v => rnd (r32 v * ((2 ^ 40 : Nat) : Rat))))))
  { s with alc := { s.alc with mat := some mat } }

/-- The sets a lane may stand in: each allowed wedge with the polygon, the whole polygon of a lane without sectors, or its
scalar bounds; no rate set (R223). -/
def reachSets (s : State) (p : AlcProb) (m : LaneIn) : List SubP :=
  let g := geoOf s m.n
  if g.kind != 0 then [s.tgtSub p m 0]
  else if g.sects.isEmpty then [{ s.tgtSub p m 0 with poly := ngon (kN g.tPos) g.nGon }]
  else (List.range (wedgesOf g.sects).length).map (s.tgtSub p m)

/-- Directions of the envelope (R223), d of the image. -/
def envDirs (s : State) : Nat := let n := byteAt (sectionOf s 6) 2; if n = 0 then 16 else n

/-- F_max of a direction in N over a set of lanes (R223). -/
def envForce (s : State) (lanes : List LaneIn) (d j : Nat) : Nat :=
  let p : AlcProb := ⟨lanes, [0, 0, 0], s.busRegs, s.now⟩
  let u := unitOf (j * 2 ^ 32 / d)
  (rnd (1000 * reachBest (lanes.map (s.reachSets p)) (s.busLimits p) [u.1, u.2, 0] [-u.2, u.1, 0] [0, 0, 1])).toNat

/-- M_pos or M_neg in 10 N·m over a set of lanes (R223). -/
def envMoment (s : State) (lanes : List LaneIn) (neg : Bool) : Nat :=
  let p : AlcProb := ⟨lanes, [0, 0, 0], s.busRegs, s.now⟩
  (rnd (100 * reachBest (lanes.map (s.reachSets p)) (s.busLimits p) [0, 0, if neg then -1 else 1] [1, 0, 0] [0, 1, 0])).toNat

/-- The envelope of the mark (R223): F_max and the moments over the leg's lanes, the rates from the present commands. -/
def publishEnv (s : State) : State :=
  let d := s.envDirs
  let ls := s.alc.legAvail.map s.laneIn
  let s0 := s
  let s := s.each (List.range 32) (fun s j => s.wr (Reg.ALC_ENV j) (if j < d then s0.envForce ls d j else 0))
  let s := (s.wr Reg.ALC_ENV_MPOS (s0.envMoment ls false)).wr Reg.ALC_ENV_MNEG (s0.envMoment ls true)
  let sum := s.alc.legAvail.foldl (fun (a : Rat × Rat × Rat) n =>
    let g := geoOf s n
    let u := if g.kind = 0 then unitOf (s.alcA n) else g.dir
    let r : Rat := g.rateT
    (a.1 + r * absQ u.1, a.2.1 + r * absQ u.2, a.2.2 + r * absQ (g.x * u.2 - g.y * u.1) / 10)) (0, 0, 0)
  ((s.wr (Reg.ALC_ENV_RATE 0) (rnd sum.1).toNat).wr (Reg.ALC_ENV_RATE 1) (rnd sum.2.1).toNat).wr (Reg.ALC_ENV_RATE 2)
    (rnd sum.2.2).toNat

/-- The axis extremes of R179: least and greatest surge, sway and yaw of the committed envelope. -/
def envExtremes (s : State) : List (Int × Int) :=
  let f (j : Nat) : Int := s.rd (Reg.ALC_ENV (j * s.envDirs / 4))
  [(-(f 2), f 0), (-(f 3), f 1), (-(s.rd Reg.ALC_ENV_MNEG : Int), s.rd Reg.ALC_ENV_MPOS)]

/-- A working epoch begins: commands zero, no matrix, no targets, level 0 (R222). -/
def alcEpoch (s : State) : State :=
  s.dropAhead.each (List.range 64) (fun s n => s.wr (Reg.ALC_LANE_CMD_T n) 0) |> fun s => { s with alc := {} }

/-- The solver array closes or reopens: work in progress is gone, and the first solve after it starts cold (R61, R219). -/
def solverClosed (s : State) : State :=
  ({ s with alc := { s.alc with ahead := none, aheadRes := none, warm := {}, tgtWarm := [] } } : State).slvBusy

end State

end Sys2Proof.Machine
end

