-- ==== Sys2Proof/Machine/Alloc.lean ====
section
/-! DEFINITION. Machine/Alloc.lean: the end of a class-A solve and the fall of the allocation level (R214, R220). -/

namespace Sys2Proof.Machine

/-- ALLOCATION_SOLVE_DONE (R214). -/
def execAllocationSolveDone (dt : Nat) (s : State) : Host.Outcome State Fault Refusal := actUnit 4 dt State.solveDone s

/-- ALC_LEVEL_HOLD_EXPIRY (R220). -/
def execAlcLevelHoldExpiry (dt : Nat) (s : State) : Host.Outcome State Fault Refusal := actUnit 4 dt State.levelExpiry s

end Sys2Proof.Machine
end

