-- ==== Sys2Proof/Machine/HealthOps.lean ====
section
/-! DEFINITION. Machine/HealthOps.lean: deadline margins (R49, R50, R436), wear monitors (R437, R438), and the Verge: rows,
cells, channels, log sectors and the engine swap (R435, R439 to R442). -/

namespace Sys2Proof.Machine

namespace State

/-! ### Deadline margin (R49, R50, R436) -/

/-- A pair of margins as a register word. -/
def marginWord (p : Nat × Nat) : Nat := p.1 * 2 ^ 16 + p.2

/-- Legs by which a bank's epoch is behind the newest complete one. -/
def legsBehind (s : State) (epoch : Nat) (legLen : Nat) : Nat := (s.legB.compEpoch + 2 ^ 32 - epoch) % 2 ^ 32 / max 1 legLen

/-- HLT_MARGIN_HIST follows HLT_MARGIN_SEL.AGE in every bank, each with the history of its own epoch (R436). -/
def marginSelect (s : State) (legLen : Nat) : State :=
  let age := s.get Fl.HLT_MARGIN_SEL_AGE
  let at_ (d : Nat) : Word := BitVec.ofNat 32 (marginWord (s.hlt.history.getD (age + d) (0xFFFF, 0xFFFF)))
  { s with regs := regSet s.regs Reg.HLT_MARGIN_HIST (at_ 0)
           legB := { s.legB with
             complete := regSet s.legB.complete Reg.HLT_MARGIN_HIST (at_ 0)
             visible := regSet s.legB.visible Reg.HLT_MARGIN_HIST (at_ (s.legsBehind s.legB.visEpoch legLen)) } }

/-- A pace's margins at its end mark: the least of the leg so far, in 100 ns, sticking at 0xFFFF (R49). -/
def paceMargins (s : State) (alloc work : Nat) : State :=
  { s with hlt := { s.hlt with allocMin := min s.hlt.allocMin alloc, workMin := min s.hlt.workMin work } }

/-- The minima of a leg begin afresh: a leg cut short by the end of RUN leaves none (R50). -/
def freshMargins (s : State) : State := { s with hlt := { s.hlt with allocMin := 0xFFFF, workMin := 0xFFFF } }

/-- HLT_MARGIN_MIN: the least of each field over the filled entries (R436). -/
def marginMin (l : List (Nat × Nat)) : Nat × Nat := l.foldl (fun m p => (min m.1 p.1, min m.2 p.2)) (0xFFFF, 0xFFFF)

/-- The leg's last end mark in RUN: the pair goes to HLT_PACE_MARGIN and into the history of 256 legs (R50, R436). A leg
without any pace work (role SYNCING or STANDBY) pushes 0xFFFF, 0xFFFF as a filled entry (DESIGN CHOICE, log entry 68). -/
def pushMargin (s : State) : State :=
  let p := (s.hlt.allocMin, s.hlt.workMin)
  let h := (p :: s.hlt.history).take 256
  let s : State := { s with hlt := { s.hlt with history := h, allocMin := 0xFFFF, workMin := 0xFFFF } }
  let s := (s.wr Reg.HLT_PACE_MARGIN (marginWord p)).wr Reg.HLT_MARGIN_MIN (marginWord (marginMin h))
  s.wr Reg.HLT_MARGIN_HIST (marginWord (h.getD (s.get Fl.HLT_MARGIN_SEL_AGE) (0xFFFF, 0xFFFF)))

/-- A late mark: logged, counted, LAST_MARK set (R40). -/
def legOverrun (s : State) (code : Nat) : State :=
  ((s.count Reg.HLT_LEG_OVERRUN).put Fl.HLT_LEG_OVERRUN_LAST_MARK code).logEv Ev.LEG_OVERRUN code

/-! ### Spares -/

/-- SPARES_EXHAUSTED, once per kind, raising HEALTH (R442). -/
def sparesOut (s : State) (kind : Nat) : State :=
  if s.hlt.exhausted.contains kind then s
  else (({ s with hlt := { s.hlt with exhausted := kind :: s.hlt.exhausted } } : State).logEv Ev.SPARES_EXHAUSTED kind).irq 16

/-- The physical engine of a logical one. -/
def physEng (s : State) (n : Nat) : Nat := aGetD s.hlt.physOf n n

/-- The logical engine of a physical one. -/
def logEng (s : State) (p : Nat) : Option Nat := (List.range 16).find? (fun n => s.physEng n == p)

/-- Spare engines free, lowest first (R68, R440). -/
def freeEngines (s : State) : List Nat :=
  (List.range 18).filter (fun p => (s.logEng p).isNone && !s.hlt.retired.contains p)

/-- A change of the Verge map: written into the inactive bank, read back, and put in force by one write of the selector word
(R435). -/
def vergeSelect (s : State) : State := { s with hlt := { s.hlt with selector := s.hlt.selector + 1 } }

/-- ENG_SPARE, HLT_SPARES.ENGINES and every ENG[n]_STATUS.PHYS follow the Verge map. -/
def engMapPublish (s : State) : State :=
  let s := s.each (List.range 16) (fun s n => s.put (Fl.ENG_STATUS_PHYS n) (s.physEng n))
  let f := s.freeEngines
  ((s.flag Fl.ENG_SPARE_V0_FREE (f.contains 16)).flag Fl.ENG_SPARE_V1_FREE (f.contains 17)).put Fl.HLT_SPARES_ENGINES f.length

/-- A monitor's state in its register. -/
def monState (s : State) (i : Nat) : Nat := s.get (Fl.HLT_MON_STATUS_STATE i)

/-- HLT_VERGE_STATUS.PHASE and RESULT. -/
def vergeResult (s : State) (phase result : Nat) : State :=
  (s.put Fl.HLT_VERGE_STATUS_PHASE phase).put Fl.HLT_VERGE_STATUS_RESULT result

/-- ENG[n]_STATUS.STATE of an open engine outside a swap. -/
def engIdle (s : State) (n : Nat) : Nat := if s.get (Fl.ENG_GRAPHS_COUNT n) = 0 then 3 else 0

/-- A swap starts its copy, or is refused (R440, R441). -/
def swapStart (s : State) (n : Nat) : State :=
  if s.hlt.swap.isSome then s.put Fl.HLT_VERGE_STATUS_RESULT 3
  else match s.freeEngines with
    | [] => s.put Fl.HLT_VERGE_STATUS_RESULT 2
    | p :: _ =>
      let s : State := { s with hlt := { s.hlt with swap := some { engine := n, target := p } } }
      let s := ((s.vergeResult 1 0).put Fl.HLT_VERGE_STATUS_ENGINE n).put Fl.HLT_VERGE_STATUS_TARGET p
      let s := s.flag Fl.HLT_STATUS_SWAP_BUSY true
      if s.engOpen n then s.put (Fl.ENG_STATUS_STATE n) 2 else s

/-- A swap ends before its selector write: the old mapping stands (R441). Causes: 1 a unit reset of the engine, 2 a park,
3 a power-state transition, 4 ABORT (log entry 43). -/
def swapEnd (s : State) (cause : Nat) : State :=
  match s.hlt.swap with
  | some ⟨n, _, _, _, false⟩ =>
    let s : State := { s with hlt := { s.hlt with swap := none } }
    let s := (s.vergeResult 4 4).flag Fl.HLT_STATUS_SWAP_BUSY false
    let s := if s.get (Fl.ENG_STATUS_STATE n) = 2 then s.put (Fl.ENG_STATUS_STATE n) (s.engIdle n) else s
    s.logEv Ev.SWAP_ABORTED n (d8 cause)
  | _ => s

/-- A swap completes as its engine reopens on the spare, or where nothing is left to reopen (R440). -/
def swapDone (s : State) : State :=
  match s.hlt.swap with
  | some ⟨n, p, old, _, true⟩ =>
    let s : State := { s with hlt := { s.hlt with swap := none } }
    (((s.vergeResult 3 1).flag Fl.HLT_STATUS_SWAP_BUSY false).logEv Ev.ENGINE_SWAP n (d8 old p)).irq 16
  | _ => s

/-- SWAP_CUTOVER at the first end mark after the copy: the fabric closes the engine, the selector is written, and the engine
waits for its reopening boundary (R435, R440). -/
def swapCutover (s : State) : State :=
  match s.hlt.swap with
  | some ⟨n, p, _, true, false⟩ =>
    let old := s.physEng n
    let wasOpen := s.engOpen n
    let s := if wasOpen then s.closeUid (.eng n) else s
    let m := aSet s.hlt.physOf n p
    let s : State := { s with hlt := { s.hlt with
      swap := some ⟨n, p, old, true, true⟩, physOf := m, retired := old :: s.hlt.retired } }
    let s := (s.vergeSelect.vergeResult 2 0).engMapPublish.put (Fl.HLT_MON_STATUS_STATE old) 3
    if wasOpen then s.makeReady (.eng n) else s.swapDone
  | _ => s

/-- The effect of a write to HLT_VERGE_CMD. -/
def vergeCmd (s : State) (w : Nat) : State :=
  (s.when (w.testBit 30) (fun s => s.swapEnd 4)).when (w.testBit 31) (fun s => s.swapStart (w % 16))

/-- A thing that stays closed: the baseband after a failed start script (R110), an engine retired without a spare (R442). -/
def barred (s : State) : Uid → Bool
  | .unit u => u == 10 && s.ldr.feErr
  | .eng n => s.hlt.retired.contains (s.physEng n)
  | .ring _ => false

/-- Ready to reopen, unless it stays closed. -/
def readyUp (s : State) (u : Uid) : State := if s.barred u then s else s.makeReady u

/-! ### Wear monitors (R437, R438) -/

/-- A monitor's WATCH level doubled, and its WORN level; the eye monitors' are upper bounds. -/
def monLevels (s : State) (i : Nat) : Nat × Nat :=
  if i ≤ 26 ∨ 66 ≤ i then (1024 + s.get Fl.HLT_VERGE_CTL_LAT_TH, s.get Fl.HLT_VERGE_CTL_LAT_TH)
  else if i ≤ 58 then (2, 2 ^ 16) else (16, 32)

/-- The state that a value alone gives; a latency ratio becomes WORN, and leaves it, after 60 averages (R438). -/
def monJudge (s : State) (i v old : Nat) (m : Mon) : Nat :=
  let (w2, worn) := s.monLevels i
  if 61 ≤ i ∧ i ≤ 65 then (if v < 51 then 2 else if v < 77 then 1 else 0)
  else
    let low := if w2 ≤ 2 * v then 1 else 0
    if i ≤ 26 ∨ 66 ≤ i then
      (if 60 ≤ m.above then 2 else if old = 2 ∧ m.below < 60 then 2 else low)
    else if worn ≤ v then 2 else low

/-- Cells waiting for their boundary take their group's spare already. -/
def cellsLeft (s : State) : Nat := s.get Fl.SLV_VERGE_SPARES_FREE - s.hlt.cellsDue.length

/-- What a resource found WORN asks for: the Verge brings a spare in at its own boundary, or none is left (R439, R442). -/
def wornAction (s : State) (i : Nat) : State :=
  if i ≤ 17 then
    match s.logEng i with
    | none => s
    | some n =>
      if s.hlt.swap.any (fun x => x.engine == n) then s
      else if s.freeEngines.isEmpty then s.sparesOut 0
      else if s.is Fl.HLT_VERGE_CTL_ENG_AUTO && s.hlt.swap.isNone then s.swapStart n else s
  else if i ≤ 26 then
    let g := i - 18
    if s.hlt.cellsDue.contains g then s
    else if s.cellsLeft = 0 then s.sparesOut 1
    else { s with hlt := { s.hlt with cellsDue := s.hlt.cellsDue ++ [g] } }
  else if i = 59 then
    if s.log.sectorCopy.isSome then s
    else if s.get Fl.HLT_SPARES_SECTORS = 0 then s.sparesOut 4
    else
      let (k, s) := s.draw
      { s with log := { s.log with sectorCopy := some (k % 128) } }
  else if 66 ≤ i then
    let k := i - 66
    if s.hlt.chansDue.contains k then s
    else if s.get Fl.GNS_VERGE_SPARES_FREE ≤ s.hlt.chansDue.length then
      (if s.gns.dead.contains k then s else (s.sparesOut 2).retireChannel k)
    else { s with hlt := { s.hlt with chansDue := s.hlt.chansDue ++ [k] } }
  else s

/-- A monitor's value and state with its records. Monitors from 66 on are the correlator channels', whose states are not
shown (R438). -/
def monSet (s : State) (i v : Nat) (st : Nat) : State :=
  if 66 ≤ i then s else
    let old := s.monState i
    let s := (s.wr (Reg.HLT_MON_VALUE i) (min 0xFFFF v)).put (Fl.HLT_MON_STATUS_STATE i) st
    if st = old then s
    else if st = 1 then s.logEv Ev.WEAR_WATCH i (min 0xFFFF v)
    else if st = 2 then
      ((s.logEv Ev.WEAR_WORN i (min 0xFFFF v)).irq 16).when (decide (61 ≤ i)) (fun s => s.logEv Ev.EYE_LOW (i - 61) v)
    else s

/-- One average of a monitor (R438). SRAM banks are judged by their corrected errors instead. -/
def monUpdate (s : State) (i avg : Nat) : State :=
  if 27 ≤ i ∧ i ≤ 58 then s
  else if i < 66 && s.monState i == 3 then s
  else
    let m := aGetD s.hlt.mons i {}
    let old := if i < 66 then s.monState i else if 60 ≤ m.above then 2 else 0
    let worn := (s.monLevels i).2
    let m : Mon := if worn ≤ avg then ⟨m.above + 1, 0⟩ else ⟨0, m.below + 1⟩
    let st := s.monJudge i avg old m
    let ms := aSet s.hlt.mons i m
    let s := ({ s with hlt := { s.hlt with mons := ms } } : State).monSet i avg st
    s.when (st == 2) (fun s => s.wornAction i)

/-! ### SRAM rows (R439) -/

/-- The key of a row's corrected errors; errors of rows already replaced are kept under bit 23. -/
def eccKey (bank row : Nat) : Nat := bank * 2 ^ 24 + row % 2 ^ 23

/-- Corrected errors of a bank in the last 24 operating hours (R437). -/
def eccOf (s : State) (bank : Nat) : Nat :=
  ((s.hlt.ecc.filter (fun e => e.1 / 2 ^ 24 == bank)).map
    (fun e => (e.2.filter (fun t => decide (s.log.opsec < t + 86400))).length)).foldl (· + ·) 0

/-- A bank's monitor follows its errors and its spare rows; DEGRADED at WORN (R437). -/
def bankMonitor (s : State) (bank : Nat) : State :=
  let i := 27 + bank
  let v := s.eccOf bank
  let st := if s.get (Fl.HLT_MON_STATUS_SPARE_ROWS i) = 0 then 2 else if 1 ≤ v then 1 else 0
  let s := s.monSet i v st
  if st = 2 then (s.flag Fl.HLT_STATUS_DEGRADED true).sparesOut 3 else s

/-- The fewest spare rows left in any bank. -/
def rowsMin (s : State) : Nat := (List.range 32).foldl (fun m b => min m (s.get (Fl.HLT_MON_STATUS_SPARE_ROWS (27 + b)))) 16

/-- A corrected error; at ROW_TH within 24 operating hours the row is copied to a spare row and remapped at once (R439). -/
def eccCorrected (s : State) (bank row : Nat) : State :=
  let k := eccKey bank row
  let l := s.log.opsec :: (aGetD s.hlt.ecc k []).filter (fun t => decide (s.log.opsec < t + 86400))
  let put_ (s : State) (k : Nat) (l : List Nat) : State :=
    let m := aSet s.hlt.ecc k l
    { s with hlt := { s.hlt with ecc := m } }
  let s := put_ s k l
  let i := 27 + bank
  let left := s.get (Fl.HLT_MON_STATUS_SPARE_ROWS i)
  let s := if l.length < s.get Fl.HLT_VERGE_CTL_ROW_TH ∨ left = 0 then s
    else
      let old := k + 2 ^ 23
      let s := put_ (put_ s old (l ++ aGetD s.hlt.ecc old [])) k []
      let s : State := { s.vergeSelect with hlt := { s.vergeSelect.hlt with remapped := s.hlt.remapped ++ [k] } }
      let s := s.put (Fl.HLT_MON_STATUS_SPARE_ROWS i) (left - 1)
      (s.put Fl.HLT_SPARES_ROWS_MIN s.rowsMin).logEv Ev.VERGE_ROW bank (d8 (16 - left))
  s.bankMonitor bank

/-! ### Cells, sectors, self-checks -/

/-- SOLVER_CELL_REPLACE at a leg boundary at which class A is idle (R439). -/
def cellsReplace (s : State) : State :=
  if s.is Fl.SLV_STATUS_A_BUSY then s
  else
    let due := s.hlt.cellsDue
    let s : State := { s with hlt := { s.hlt with cellsDue := [] } }
    s.each due (fun s g =>
      let left := s.get Fl.SLV_VERGE_SPARES_FREE
      if left = 0 then s
      else
        let ms := aDel s.hlt.mons (18 + g)
        let s := (s.vergeSelect.put Fl.SLV_VERGE_SPARES_FREE (left - 1)).put Fl.HLT_SPARES_CELLS (left - 1)
        let s := ({ s with hlt := { s.hlt with mons := ms } } : State).put (Fl.HLT_MON_STATUS_STATE (18 + g)) 0
        s.logEv Ev.VERGE_CELL g (d8 (8 - left)))

/-- The copy of a worn log sector completes and the selector is written (R435, R439). -/
def sectorDone (s : State) : State :=
  match s.log.sectorCopy with
  | none => s
  | some k =>
    let left := s.get Fl.HLT_SPARES_SECTORS
    let m := aSet s.log.sectors k (2 - left)
    let s : State := { s with log := { s.log with sectors := m, sectorCopy := none } }
    ((s.vergeSelect.put Fl.HLT_SPARES_SECTORS (left - 1)).put (Fl.HLT_MON_STATUS_STATE 59) 0).logEv Ev.VERGE_SECTOR k (d8 (2 - left))

/-- A self-check finds a wrong result: with a spare left the Verge replaces the resource as a worn one; with none left it is
retired (R442). An engine retired serves nothing more: its ports close. -/
def selfCheckWrong (s : State) : Resource → State
  | .cell c =>
    if 0 < s.cellsLeft then s.wornAction (18 + min 8 (c / 8))
    else (s.put Fl.SLV_VERGE_RETIRED (min 255 (s.get Fl.SLV_VERGE_RETIRED + 1))).flag Fl.HLT_STATUS_DEGRADED true
  | .channel c =>
    if s.hlt.chansDue.length < s.get Fl.GNS_VERGE_SPARES_FREE then s.wornAction (66 + c)
    else if s.gns.dead.contains c then s else (s.retireChannel c).flag Fl.HLT_STATUS_DEGRADED true
  | .engine p =>
    if s.hlt.retired.contains p then s
    else if !s.freeEngines.isEmpty && (s.logEng p).isSome then s.wornAction p
    else
      let s : State := { s with hlt := { s.hlt with retired := p :: s.hlt.retired } }
      let s := ((s.put (Fl.HLT_MON_STATUS_STATE p) 3).flag Fl.HLT_STATUS_DEGRADED true).engMapPublish
      match s.logEng p with
      | none => s
      | some n => if s.engOpen n then (s.closeUid (.eng n)).markParked (.eng n) true else s

/-- An operating second: a whole second of VCORE in range and RST_N released (R395). The counter sticks and its flag is set at
the increment that arrives there (R22); the SRAM banks' errors age (R437). -/
def operatingSecond (s : State) : State :=
  if s.now < s.log.secAt + 1000000000 then s else
  let l : Recorder := { s.log with secAt := s.log.secAt + 1000000000 }
  let s : State := { s with log :=
    if l.opsec = 0xFFFFFFFF then { l with opsecStuck := true } else { l with opsec := l.opsec + 1 } }
  let banks := ((s.hlt.ecc.filter (fun e => !e.2.isEmpty)).map (fun e => e.1 / 2 ^ 24)).eraseDups
  s.logPublish.each banks bankMonitor

end State

end Sys2Proof.Machine
end

