-- ==== Sys2Proof/Machine/Horizon.lean ====
section
/-! DEFINITION. Machine/Horizon.lean: the mathematics of the horizon planner: the nine-state model and its linearisation (R224,
R225), the envelope's rows (R229), the Riccati factorisation and the primal-dual iteration (R233), and the residuals (R234). An
iterate is kept as binary32 numbers (log entry 85). -/

namespace Sys2Proof.Machine

/-- Numbers of stored words. -/
def ofWords (l : List Word) : Vec := l.map (fun w => f32Q w.toNat)
/-- Rows of numbers as words. -/
def toWords (m : Mat) : List (List Word) := m.map (fun r => r.map w32)
/-- Part of a vector. -/
def part (v : Vec) (i n : Nat) : Vec := (v.drop i).take n

/-! ### The envelope's rows (R229) -/

/-- Rows a·τ ≤ g over (X, Y, N) of an envelope of `f` by direction, moments `mp` and `mn`, all times the margin `k`. Where two
neighbouring vertices are both zero, the edge is taken across their middle azimuth (log entry 96). -/
def envRows (f : Vec) (mp mn k : Rat) : List (Vec × Rat) :=
  let d := f.length
  let vtx (j : Nat) : Rat × Rat :=
    let u := unitOf (j % d * 2 ^ 32 / d)
    (f.getD (j % d) 0 * u.1, f.getD (j % d) 0 * u.2)
  (List.range d).flatMap (fun j =>
    let p := vtx j
    let q := vtx (j + 1)
    let n : Rat × Rat := (q.2 - p.2, p.1 - q.1)
    let l := sqrtQ (n.1 * n.1 + n.2 * n.2)
    let a := if l = 0 then unitOf ((2 * j + 1) * 2 ^ 31 / d) else (n.1 / l, n.2 / l)
    let c := k * (a.1 * p.1 + a.2 * p.2)
    if c = 0 then [([a.1, a.2, 0], 0), ([a.1, a.2, 0], 0)]
    else [([a.1 / c, a.2 / c, if k * mp = 0 then 0 else 1 / (k * mp)], 1),
      ([a.1 / c, a.2 / c, if k * mn = 0 then 0 else -1 / (k * mn)], 1)])

/-- A moment limit of zero: N is held at zero (R229). -/
def noMoment (mp mn k : Rat) : Bool := k * mp == 0 || k * mn == 0

/-! ### The problem of a stage -/

/-- What a stage's solve is made of: N, h in s with its substeps, the model with bias and wind force held (R224), weights (R228),
rows over (τ of a node, τ̇ of the step into it) with N held at zero or not (R229), the references of nodes 1 to N as states
(R227), the initial state, and the factor of ε_piv. -/
structure HznP where
  n : Nat
  h : Rat
  sub : Nat
  hull : Hull
  bias : Vec
  wind : Vec
  q : Vec
  r : Vec
  s : Vec
  qn : Rat
  rows : List (Vec × Rat)
  noN : Bool
  refs : List Vec
  init : Vec
  eps : Rat

/-- The model's derivative at a state with its input behind it, the input held (R224); τ is in kN and kN·m. -/
def HznP.rates (p : HznP) (x : Vec) : Vec :=
  hullRates p.hull (vAdd (vScale 1000 (part x 6 3)) p.wind) p.bias (x.take 6) ++ part x 9 3 ++ vZero 3

/-- The derivative of it by state and input. -/
def HznP.slopes (p : HznP) (x : Vec) : Mat :=
  let j := hullJac p.hull p.bias (x.take 6)
  let z : Mat := List.replicate 3 (vZero 9)
  List.zipWith (fun a b => a ++ vScale 1000 b ++ vZero 3) j.1 j.2.1 ++ List.zipWith (· ++ ·) z (mOne 3) ++ List.replicate 3 (vZero 12)

/-- One Runge–Kutta step of a state and of its derivative by the step's start. -/
def HznP.sens (p : HznP) (dt : Rat) (e : Vec × Mat) : Vec × Mat :=
  let at_ (k : Rat) (d : Vec × Mat) : Vec × Mat := (vAdd e.1 (vScale k d.1), mAdd e.2 (mScale k d.2))
  let f (y : Vec × Mat) : Vec × Mat := (vStore (p.rates y.1), mStore (mMul 12 (p.slopes y.1) y.2))
  let k1 := f e
  let k2 := f (at_ (dt / 2) k1)
  let k3 := f (at_ (dt / 2) k2)
  let k4 := f (at_ dt k3)
  let sum (a b c d : Vec) : Vec := vAdd (vAdd a (vScale 2 b)) (vAdd (vScale 2 c) d)
  (vStore (vAdd e.1 (vScale (dt / 6) (sum k1.1 k2.1 k3.1 k4.1))),
    mStore (mAdd e.2 (mScale (dt / 6) (mAdd (mAdd k1.2 (mScale 2 k2.2)) (mAdd (mScale 2 k3.2) k4.2)))))

/-- `k` of them. -/
def HznP.sensN (p : HznP) (dt : Rat) : Nat → Vec × Mat → Vec × Mat
  | 0, e => e
  | k + 1, e => p.sensN dt k (p.sens dt e)

/-- The state at the end of a horizon step, and its derivative by the step's state and input (R225, R232). -/
def HznP.step (p : HznP) (x w : Vec) : Vec × Mat :=
  let e := p.sensN (p.h / (max 1 p.sub : Nat)) (max 1 p.sub) (x ++ w, mOne 12)
  let out := (e.1.take 9, e.2.take 9)
  if p.noN then (List.set out.1 8 0, List.set out.2 8 (vZero 12)) else out

/-- The state alone. -/
def HznP.move (p : HznP) (x w : Vec) : Vec :=
  let y := (rk4N p.rates (p.h / (max 1 p.sub : Nat)) (max 1 p.sub) (x ++ w)).take 9
  if p.noN then List.set y 8 0 else y

/-! ### Cost (R228) -/

/-- The weight matrix of a node's state: Q with the position weights along the reference heading, and R; a node's heading is
near `psi`, so that its error is a difference under R8. -/
def HznP.weight (p : HznP) (k : Nat) (ref : Vec) : Mat :=
  let c := cosQ (ref.getD 2 0)
  let s := sinQ (ref.getD 2 0)
  let a := p.q.getD 0 0
  let b := p.q.getD 1 0
  let m (i j : Nat) : Rat :=
    if i < 2 && j < 2 then
      (if i = 0 && j = 0 then a * c * c + b * s * s else if i = 1 && j = 1 then a * s * s + b * c * c else (a - b) * c * s)
    else if i != j then 0
    else if i < 6 then p.q.getD i 0
    else if k = p.n then 0 else p.r.getD (i - 6) 0
  let f := if k = p.n then p.qn else 1
  (List.range 9).map (fun i => (List.range 9).map (fun j => f * m i j))

/-- A node's reference with its heading moved by whole turns next to a heading. -/
def nearRef (ref x : Vec) : Vec := List.set ref 2 (x.getD 2 0 - wrapPi (x.getD 2 0 - ref.getD 2 0))

/-- The weight of τ̇ of the step into node k: nodes 1 to N − 1 count (log entry 95). -/
def HznP.inWeight (p : HznP) (k : Nat) : Vec := if k < p.n then p.s else vZero 3

/-! ### Iterates -/

/-- A point of the iteration: states of nodes 0 to N, inputs of the N steps, the multipliers of the dynamics into nodes 1 to N,
and multipliers and slacks of the rows of nodes 1 to N. -/
structure HznZ where
  x : Mat
  w : Mat
  y : Mat
  lam : Mat
  sl : Mat

/-- A linearised step: the derivative by state and by input, and the state it gives at the point of linearisation. -/
structure HznLin where
  a : Mat
  b : Mat
  x : Vec
  w : Vec
  next : Vec

/-- The dynamics linearised about a point, step by step (R232). -/
def HznP.linear (p : HznP) (z : HznZ) : List HznLin :=
  (z.x.zip z.w).map (fun (x, w) =>
    let e := p.step x w
    ⟨e.2.map (fun r => r.take 9), e.2.map (fun r => r.drop 9), x, w, e.1⟩)

/-- The linearised step at a state and input. -/
def HznLin.at_ (l : HznLin) (x w : Vec) : Vec := vAdd l.next (vAdd (mVec l.a (vSub x l.x)) (mVec l.b (vSub w l.w)))

/-- τ of a node with τ̇ of the step into it. -/
def tauIn (x w : Vec) : Vec := part x 6 3 ++ w

/-- A stage of the Newton step: dynamics with its defect, and the quadratic cost of the input and of the next node. -/
structure HznSt where
  a : Mat
  b : Mat
  d : Vec
  hu : Mat
  gu : Vec
  hx : Mat
  gx : Vec

/-- A 3 × 3 block of the rows' weighted squares. -/
def rowBlock (rows : List (Vec × Rat)) (wt : Vec) (o : Nat) : Mat :=
  (rows.zip wt).foldl (fun m (r, k) => let a := part r.1 o 3; if k = 0 then m else mAdd m (a.map (fun y => vScale (k * y) a)))
    (List.replicate 3 (vZero 3))

/-- A combination of the rows' parts. -/
def rowSum (rows : List (Vec × Rat)) (c : Vec) (o : Nat) : Vec :=
  (rows.zip c).foldl (fun v (r, k) => vAdd v (vScale k (part r.1 o 3))) (vZero 3)

/-- Values a·u − g of the rows. -/
def rowVals (rows : List (Vec × Rat)) (u : Vec) : Vec := rows.map (fun r => vDot r.1 u - r.2)

/-- Everything of step i at a point: its linearisation, x and w, the next node with its index, its multipliers and slacks, the
reference, the multiplier beyond and the next step's linearisation. -/
structure HznAt where
  k : Nat
  lin : HznLin
  x : Vec
  w : Vec
  x1 : Vec
  y : Vec
  lam : Vec
  sl : Vec
  ref : Vec
  yNext : Vec
  aNext : Mat

/-- The steps of a point. -/
def HznP.ats (p : HznP) (ls : List HznLin) (z : HznZ) : List HznAt :=
  (List.range p.n).map (fun i =>
    let l := ls.getD i ⟨[], [], [], [], []⟩
    ⟨i + 1, l, z.x.getD i [], z.w.getD i [], z.x.getD (i + 1) [], z.y.getD i [], z.lam.getD i [], z.sl.getD i [],
      p.refs.getD i [], z.y.getD (i + 1) (vZero 9), (ls.getD (i + 1) ⟨List.replicate 9 (vZero 9), [], [], [], []⟩).a⟩)

/-- The defect of a step. -/
def HznAt.defect (e : HznAt) : Vec := vSub (e.lin.at_ e.x e.w) e.x1

/-- The Lagrangian's gradient by the next node's state and by the input. -/
def HznP.gradX (p : HznP) (e : HznAt) : Vec :=
  let g := vScale 2 (mVec (p.weight e.k e.ref) (vSub e.x1 (nearRef e.ref e.x1)))
  let r := rowSum p.rows e.lam 0
  vAdd (vSub (vAdd g (vZero 6 ++ r)) e.y) (mVec (mT 9 e.aNext) e.yNext)
def HznP.gradW (p : HznP) (e : HznAt) : Vec :=
  vAdd (vAdd (List.zipWith (fun s w => 2 * s * w) (p.inWeight e.k) e.w) (rowSum p.rows e.lam 3)) (mVec (mT 3 e.lin.b) e.y)

/-- J of R228. -/
def HznP.cost (p : HznP) (l : List HznAt) : Rat :=
  sumQ (l.map (fun e =>
    let dx := vSub e.x1 (nearRef e.ref e.x1)
    vDot dx (mVec (p.weight e.k e.ref) dx) + vDot e.w (List.zipWith (· * ·) (p.inWeight e.k) e.w)))

/-- n_c of R234. -/
def HznP.rowCount (p : HznP) : Nat := p.n * p.rows.length

/-- r_p, r_d and μ of R234. -/
def HznP.residuals (p : HznP) (l : List HznAt) : Rat × Rat × Rat :=
  let mx (a b : Rat) : Rat := if a < b then b else a
  let rp := l.foldl (fun m e => mx m ((rowVals p.rows (tauIn e.x1 e.w)).foldl mx (vMax e.defect))) 0
  let rd := l.foldl (fun m e => mx m (mx (vMax (p.gradX e)) (vMax (p.gradW e)))) 0
  (rp, rd, sumQ (l.map (fun e => vDot e.lam e.sl)) / (max 1 p.rowCount : Nat))

/-! ### One iteration (R233) -/

/-- Complementarity residuals of a step: s λ − target, with the predictor's product where there is one. -/
def compRes (e : HznAt) (target : Rat) (ds dl : Vec) : Vec :=
  let c := List.zipWith (fun a b => a * b - target) e.sl e.lam
  if ds.isEmpty then c else vAdd c (List.zipWith (· * ·) ds dl)

/-- The stage of a step in the Newton system. -/
def HznP.stage (p : HznP) (e : HznAt) (rc : Vec) : HznSt :=
  let wt := List.zipWith (· / ·) e.lam e.sl
  let rg := vAdd (rowVals p.rows (tauIn e.x1 e.w)) e.sl
  let c := List.zipWith (fun (a : Rat × Rat) s => a.1 / s + a.2) (List.zipWith (fun r g => (-r, g)) rc (List.zipWith (· * ·) wt rg)) e.sl
  let ht := rowBlock p.rows wt 0
  let pad : Mat := List.replicate 6 (vZero 9) ++ ht.map (fun r => vZero 6 ++ r)
  { a := e.lin.a, b := e.lin.b, d := e.defect
    hu := mAdd (mDiag (vScale 2 (p.inWeight e.k))) (rowBlock p.rows wt 3)
    gu := vAdd (p.gradW e) (rowSum p.rows c 3)
    hx := mAdd (mScale 2 (p.weight e.k e.ref)) pad
    gx := vAdd (p.gradX e) (vZero 6 ++ rowSum p.rows c 0) }

/-- LDLᵀ multiplied out again: the matrix with its pivots as replaced (R217). -/
def Fact.back (f : Fact) : Mat :=
  let n := f.cols.length
  let l (i j : Nat) : Rat := if i < j then 0 else if i = j then 1 else ((f.cols.getD j (0, [])).2).getD (i - j - 1) 0
  let d (j : Nat) : Rat := (f.cols.getD j (0, [])).1
  (List.range n).map (fun i => (List.range n).map (fun j => sumQ ((List.range n).map (fun k => l i k * d k * l j k))))

/-- A factorised stage: the next node's cost-to-go matrix, the input block's factors, the coupling, and the feedback gain. -/
structure HznFac where
  p : Mat
  u : Fact
  ux : Mat
  k : Mat

/-- The backward recursion of the factorisation over the stages (R233 step 1): factors, and pivots replaced and zero. -/
def riccati (eps : Rat) : List HznSt → List HznFac × (Mat × (Nat × Nat))
  | [] => ([], List.replicate 9 (vZero 9), 0, 0)
  | s :: r =>
    let (fs, pf, reg, none_) := riccati eps r
    let f9 := ldl eps (mWork (mAdd s.hx pf))
    let p := mWork f9.back
    let pb := mMul 3 p s.b
    let pa := mMul 9 p s.a
    let bt := mT 3 s.b
    let f3 := ldl eps (mWork (mAdd s.hu (mMul 3 bt pb)))
    let ux := mWork (mMul 9 bt pa)
    let k := mWork (mT 3 ((mT 9 ux).map (fun c => vScale (-1) (ldlSolve f3.cols c))))
    let back := mWork (mAdd (mMul 9 (mT 9 s.a) pa) (mMul 9 (mT 9 ux) k))
    (⟨p, f3, ux, k⟩ :: fs, back, reg + f9.reg + f3.reg, none_ + f9.zero + f3.zero)

/-- The vectors of the recursion: each stage's next-node vector and input offset. -/
def backVecs : List (HznSt × HznFac) → List (Vec × Vec) × Vec
  | [] => ([], vZero 9)
  | (s, f) :: r =>
    let (vs, pf) := backVecs r
    let p := vAdd s.gx pf
    let pd := vAdd (mVec f.p s.d) p
    let ku := vScale (-1) (ldlSolve f.u.cols (vAdd s.gu (mVec (mT 3 s.b) pd)))
    ((vWork p, vWork ku) :: vs, vWork (vAdd (mVec (mT 9 s.a) pd) (mVec (mT 9 f.ux) ku)))

/-- The forward solve from a fixed first state: changes of each next state, input and multiplier. -/
def forward : Vec → List ((HznSt × HznFac) × (Vec × Vec)) → List (Vec × (Vec × Vec))
  | _, [] => []
  | dx, ((s, f), (p, ku)) :: r =>
    let dw := vWork (vAdd (mVec f.k dx) ku)
    let d1 := vWork (vAdd (vAdd (mVec s.a dx) (mVec s.b dw)) s.d)
    (d1, dw, vWork (vAdd (mVec f.p d1) p)) :: forward d1 r

/-- The changes of a step's slacks and multipliers. -/
def HznP.rowStep (p : HznP) (e : HznAt) (rc : Vec) (dx dw : Vec) : Vec × Vec :=
  let rg := vAdd (rowVals p.rows (tauIn e.x1 e.w)) e.sl
  let ds := vWork (List.zipWith (fun (r : Vec × Rat) g => -g - vDot r.1 (tauIn dx dw)) p.rows rg)
  (ds, vWork (List.zipWith (fun (a : Rat × Rat) (b : Rat × Rat) => (-a.1 - b.1 * a.2) / b.2)
    (List.zipWith Prod.mk rc ds) (List.zipWith Prod.mk e.lam e.sl)))

/-- The largest step that keeps every value positive. -/
def boundStep (v dv : Vec) : Rat :=
  (List.zipWith Prod.mk v dv).foldl (fun m (a, d) => if d < 0 ∧ -a / d < m then -a / d else m) 1000

/-- The changes of a whole step: per stage (Δx, Δw, Δy) and (Δs, Δλ). -/
abbrev HznD := List ((Vec × (Vec × Vec)) × (Vec × Vec))

/-- A direction with a factorisation (R233 step 2). -/
def HznP.solve (p : HznP) (l : List HznAt) (fs : List HznFac) (rc : List Vec) : HznD :=
  let ss := (l.zip rc).map (fun (e, c) => p.stage e c)
  let sf := ss.zip fs
  let f := forward (vZero 9) (sf.zip (backVecs sf).1)
  f.zip ((l.zip (rc.zip f)).map (fun (e, c, d) => p.rowStep e c d.1 d.2.1))

/-- The largest step along a direction. -/
def stepTo (l : List HznAt) (d : HznD) : Rat :=
  (l.zip d).foldl (fun m (e, x) =>
    let a := boundStep e.sl x.2.1
    let b := boundStep e.lam x.2.2
    let c := if a < b then a else b
    if c < m then c else m) 1000

/-- A step of some length. -/
def HznZ.move (z : HznZ) (d : HznD) (t : Rat) : HznZ :=
  let add (a b : Mat) : Mat := List.zipWith (fun u v => vAdd u (vScale t v)) a b
  { x := z.x.take 1 ++ add (z.x.drop 1) (d.map (·.1.1)), w := add z.w (d.map (·.1.2.1)), y := add z.y (d.map (·.1.2.2))
    sl := add z.sl (d.map (·.2.1)), lam := add z.lam (d.map (·.2.2)) }

/-- Iterate k + 1 from iterate k: one factorisation, the predictor's and the corrector's solve, and the step to 0.995 of the
distance to the boundary, at most a whole Newton step (R233). The corrector aims at the share of μ that Config.centring gives
of the predictor's μ and the present one. Answers the point and the pivots replaced and zero. -/
def HznP.iterate (p : HznP) (ls : List HznLin) (z : HznZ) : HznZ × (Nat × Nat) :=
  let l := p.ats ls z
  let mu := (p.residuals l).2.2
  let rc0 := l.map (fun e => compRes e 0 [] [])
  let (fs, _, piv) := riccati p.eps ((l.zip rc0).map (fun (e, c) => p.stage e c))
  let d0 := p.solve l fs rc0
  let cut (t : Rat) : Rat := if 1 < t then 1 else t
  let t0 := cut (stepTo l d0)
  let mu0 := sumQ ((l.zip d0).map (fun (e, x) => vDot (vAdd e.lam (vScale t0 x.2.2)) (vAdd e.sl (vScale t0 x.2.1)))) /
    (max 1 p.rowCount : Nat)
  let sg := f32Q (Config.centring (toF32 mu0) (toF32 mu) % 2 ^ 31)
  let rc1 := (l.zip d0).map (fun (e, x) => compRes e (cut sg * mu) x.2.1 x.2.2)
  let d1 := p.solve l fs rc1
  (z.move d1 (cut (995 / 1000 * stepTo l d1)), piv)

/-! ### Warm starts (R232) -/

/-- A row at a time of rows `h` apart, linear between them, the last held. -/
def lerpRows (m : Mat) (h t : Rat) : Vec :=
  let k := (t / h).floor.toNat
  match m[k]?, m[k + 1]? with
  | some a, some b => vAdd a (vScale (t / h - k) (vSub b a))
  | some a, none => a
  | none, _ => m.getLastD []

/-- η moved with ν held. -/
def coastRates (x : Vec) : Vec :=
  let c := cosQ (x.getD 2 0)
  let s := sinQ (x.getD 2 0)
  let u := x.getD 3 0
  let v := x.getD 4 0
  [c * u - s * v, s * u + c * v, x.getD 5 0] ++ vZero 6

/-- A slack that a shifted warm start gives a row: its distance to the limit, and at least 2^-10 (log entry 95). -/
def warmSlack (v : Rat) : Rat := let lo : Rat := 1 / 1024; if -v < lo then lo else -v

/-- The previous trajectory read `ts` later, node 0 replaced by the initial state (R232). -/
def HznP.shift (p : HznP) (old : HznZ) (ts : Rat) : HznZ :=
  let last : Rat := p.n * p.h
  let x (k : Nat) : Vec :=
    let t := k * p.h + ts
    if t ≤ last then lerpRows old.x p.h t
    else let m := ((t - last) * 4).ceil.toNat; rk4N coastRates ((t - last) / (max 1 m : Nat)) (max 1 m) (old.x.getLastD (vZero 9))
  let w (k : Nat) : Vec := old.w.getD ((k * p.h + ts) / p.h).floor.toNat (vZero 3)
  let xs := p.init :: (List.range p.n).map (fun k => x (k + 1))
  let ws := (List.range p.n).map w
  let at_ (m : Mat) (k : Nat) : Vec := lerpRows m p.h (k * p.h + ts)
  { x := xs, w := ws, y := (List.range p.n).map (at_ old.y), lam := (List.range p.n).map (at_ old.lam)
    sl := ((xs.drop 1).zip ws).map (fun (x, w) => (rowVals p.rows (tauIn x w)).map warmSlack) }

/-- States with no input from the initial state. -/
def HznP.drift (p : HznP) : Nat → Vec → Mat
  | 0, _ => []
  | k + 1, x => let y := p.move x (vZero 3); y :: p.drift k y

/-- The cold warm start: τ held, every multiplier and slack 1 (R232). -/
def HznP.cold (p : HznP) : HznZ :=
  let ones : Mat := List.replicate p.n (List.replicate p.rows.length 1)
  { x := p.init :: p.drift p.n p.init, w := List.replicate p.n (vZero 3), y := List.replicate p.n (List.replicate 9 1)
    lam := ones, sl := ones }

end Sys2Proof.Machine
end

