-- ==== Sys2Proof/Machine/PlannerOps.lean ====
section
/-! DEFINITION. Machine/PlannerOps.lean: the horizon planner (R224 to R241): the start of a solve, iterates and their merit,
the commit at the class-H deadline, eligibility and the blend weight, identification and model commits (log entry 37). -/

namespace Sys2Proof.Machine

namespace State

/-- N and h of the horizon. -/
def hznN (s : State) : Nat := s.get Fl.HZN_HORIZON_N
def hznH (s : State) : Nat := s.get Fl.HZN_HORIZON_STEP

/-- Leg and stage lengths in ms (R31). -/
def legMs (s : State) : Nat := s.legPaces
def stageMs (s : State) : Nat := s.legPaces * s.stageLegs

/-- The planner's own units are open: unit 5 and engines 10 and 11. -/
def plannerOpen (s : State) : Bool := s.isOpen 5 && s.engOpen 10 && s.engOpen 11

end State

/-- τ of a trajectory at t µs from its boundary, linear between nodes and held beyond the last (R231, R232). -/
def Traj.at (x : Traj) (t : Nat) : List Int :=
  let h := x.h * 100000
  let k := t / max 1 h
  match x.tau[k]?, x.tau[k + 1]? with
  | some a, some b => (List.range 3).map (fun i =>
      a.getD i 0 + divRound ((b.getD i 0 - a.getD i 0) * ((t % max 1 h : Nat) : Int)) (max 1 h))
  | some a, none => a
  | none, _ => x.tau.getLastD [0, 0, 0]

/-- τ of a trajectory in kN and kN·m at a time in s, linear between nodes (R230, R231). -/
def Traj.kN (x : Traj) (t : Rat) : Vec := lerpRows (x.tau.map State.tauK) ((x.h : Rat) / 10) t

/-- An iterate's numbers as stored, and back. -/
def HznZ.store (z : HznZ) : Plan := ⟨toWords z.x, toWords z.w, toWords z.y, toWords z.lam, toWords z.sl⟩
def Plan.load (p : Plan) : HznZ :=
  ⟨p.x.map ofWords, p.w.map ofWords, p.y.map ofWords, p.lam.map ofWords, p.sl.map ofWords⟩

/-- A point whose multipliers of rows, and with them μ, are ten times another's (R236). -/
def Plan.tenfold (p : Plan) : Plan := { p with lam := p.lam.map (fun r => r.map (fun w => w32 (10 * f32Q w.toNat))) }

/-- The reference of a node as a state, `t` s after the solve's reference (R227): each part moves along its velocity and stops at
the setpoint once it has come as far; ν_ref in the body frame of the reference heading (log entry 95). -/
def hznRef (ref : List Int) (t : Rat) : Vec :=
  let r (i : Nat) : Rat := ref.getD i 0
  let n0 := r 0 / 1000000000
  let e0 := r 1 / 1000000000
  let vn := r 3 / 1000000
  let ve := r 4 / 1000000
  let dn := r 6 / 1000 - n0
  let de := r 7 / 1000 - e0
  let there := decide (dn * dn + de * de ≤ t * (vn * dn + ve * de))
  let h0 := r 2 / 1000000000
  let vh := r 5 / 1000000
  let dh := r 8 / 1000000000 - h0
  let thereH := decide (dh * dh ≤ t * vh * dh)
  let psi := if thereH then h0 + dh else h0 + vh * t
  let v : Vec := if there then [0, 0, 0] else rotBody psi [vn, ve, 0]
  [if there then n0 + dn else n0 + vn * t, if there then e0 + de else e0 + ve * t, psi,
    v.getD 0 0, v.getD 1 0, if thereH then 0 else vh, 0, 0, 0]

namespace State

/-- The hull of the planner: the model in use, with m23 of the image (R225). -/
def hznHull (s : State) : Hull :=
  let u (p : Nat) : Rat := f32Q (s.rd (Reg.HZN_MODEL_USE p))
  hullOf ([u 0, u 1, u 2, fAt (sectionOf s 5) 12] ++ (List.range 6).map (fun i => u (3 + i)))

/-- Substeps of at most 0.25 s in some ms (R225). -/
def hznSub (ms : Nat) : Nat := (ms + 249) / 250

/-- The envelope registers as the planner holds them: F_max of d directions, M_pos, M_neg, and the three rates. -/
def envNow (s : State) : List Nat :=
  (List.range s.envDirs).map (fun j => s.rd (Reg.ALC_ENV j)) ++ [s.rd Reg.ALC_ENV_MPOS, s.rd Reg.ALC_ENV_MNEG] ++
    (List.range 3).map (fun k => s.rd (Reg.ALC_ENV_RATE k))

/-- The problem of a stage from its data and the registers that change at stage boundaries alone (R224 to R230). -/
def hznProb (s : State) (q : HznQp) : HznP :=
  let f (a : Nat) : Rat := f32Q (s.rd a)
  let d := q.env.length - 5
  let e (i : Nat) (unit : Nat) : Rat := (q.env.getD i 0 : Nat) / (unit : Rat)
  let m : Rat := (s.get Fl.HZN_ENV_MARGIN_ENV_M : Nat) / 65536
  let rm : Rat := (s.get Fl.HZN_ENV_MARGIN_RATE_M : Nat) / 65536
  let mp := e d 100
  let mn := e (d + 1) 100
  let h : Rat := (s.hznH : Nat) / 10
  let rate (k : Nat) : List (Vec × Rat) :=
    let g := rm * e (d + 2 + k) (if k = 2 then 100 else 1000)
    let unit (v : Rat) : Vec := List.set (vZero 6) (3 + k) v
    [(unit 1, g), (unit (-1), g)]
  { n := s.hznN, h := h, sub := hznSub (100 * s.hznH), hull := s.hznHull
    bias := ofWords (q.dist.take 3), wind := ofWords (q.dist.drop 3)
    q := (List.range 3).map (fun k => f (Reg.HZN_Q_POS k)) ++ (List.range 3).map (fun k => f (Reg.HZN_Q_VEL k))
    r := (List.range 3).map (fun k => f (Reg.HZN_R k)), s := (List.range 3).map (fun k => f (Reg.HZN_S k)), qn := f Reg.HZN_QN
    rows := (envRows ((List.range d).map (fun j => e j 1000)) mp mn m).map (fun r => (r.1 ++ vZero 3, r.2)) ++
      (List.range 3).flatMap rate
    noN := noMoment mp mn m
    refs := (List.range s.hznN).map (fun k => hznRef q.ref ((k + 1 : Nat) * h + (s.stageMs : Nat) / 1000))
    init := ofWords q.init, eps := f32Q (s.rd Reg.SLV_EPS_PIV) }

/-- The committed estimate moved over T_S with the model, under the trajectory in force or the τ held (R230): η, ν and τ_0. -/
def hznInit (s : State) (dist : List Word) : List Word :=
  let tau (t : Rat) : Vec := match s.hzn.force with | some x => x.kN t | none => tauK s.loop.tau
  let ts : Rat := (s.stageMs : Nat) / 1000
  let rates (x : Vec) : Vec :=
    hullRates s.hznHull (vAdd (vScale 1000 (tau (x.getD 6 0))) (ofWords (dist.drop 3))) (ofWords (dist.take 3)) (x.take 6) ++ [1]
  let n := max 1 (hznSub s.stageMs)
  let x := rk4N rates (ts / (n : Nat)) n ((List.range 6).map s.obsNow ++ [0])
  (x.take 6 ++ tau ts).map w32

/-- What a solve holds from its marks (R227, R229, R230). -/
def hznData (s : State) : HznQp :=
  let dist := (List.range 3).map (fun k => w32 (s.obsNow (12 + k))) ++ s.loop.tauWind
  let l := s.loop
  { init := s.hznInit dist, env := s.envNow, dist := dist
    ref := [l.refN, l.refE, l.refH, l.vN, l.vE, l.vH, l.spN, l.spE, l.tgtH] }

/-- A point with its residuals and cost (R228, R234), and whether a number of it overflows (R11). -/
def hznValue (p : HznP) (ls : List HznLin) (z : HznZ) : HznIt × Bool :=
  let l := p.ats ls z
  let (rp, rd, mu) := p.residuals l
  let j := p.cost l
  ({ plan := z.store, j := w32 j, rp := w32 rp, rd := w32 rd, mu := w32 mu },
    ([[j, rp, rd, mu]] ++ z.x ++ z.w ++ z.y ++ z.lam ++ z.sl).any (fun r => r.any f32Over))

/-- The previous stage's trajectory serves the warm start: none of the cold cases of R232 holds, and there is one. -/
def warmPlan (s : State) (p : HznP) : Option Plan :=
  match (if s.hzn.cold || s.hzn.force.isNone then none else s.hzn.plan) with
  | some z => if z.w.length = p.n ∧ z.lam.all (fun r => r.length == p.rows.length) = true then some z else none
  | none => none

/-- HZN_SOLVE_START (R230, R232): the shifted or the cold warm start, and SOLVE_REQ. Without a committed estimate the warm start
is invalid (R71), and nothing is to be committed. -/
def hznStart (s : State) : State :=
  if !s.plannerOpen || !(s.fus.posSet && s.fus.hdgSet) then { s with hzn := { s.hzn with run := false, warm := none } }
  else
    let q := s.hznData
    let p := s.hznProb q
    let z := match s.warmPlan p with | some o => p.shift o.load ((s.stageMs : Nat) / 1000) | none => p.cold
    let z := z.store.load
    let w := (hznValue p (p.linear z) z).1
    let s : State := { s with hzn := { s.hzn with
      run := s.isOpen 3, qp := q, warm := some w, from_ := s.now, cur := w.plan, done := 0, best := none, stopped := !s.isOpen 3
      stopAt := s.now, conv := false, ovf := false, reg := false } }
    s.flag Fl.SLV_STATUS_H_BUSY (s.isOpen 3)

/-- The merit m = J + RHO r_p + n_c μ (R234). -/
def merit (s : State) (x : HznIt) : Rat :=
  f32Q x.j.toNat + f32Q (s.rd Reg.HZN_RHO) * f32Q x.rp.toNat + ((s.hznN * (2 * s.envDirs + 6) : Nat) : Rat) * f32Q x.mu.toNat

/-- An overflow of class H: its flag and its count (R11, R217). -/
def hznOverflow (s : State) : State := (s.flag Fl.SLV_FLAGS_H_OVF true).count Reg.SLV_H_OVF

/-- HZN_ITERATION_DONE (R233 to R236). -/
def hznIterate (s : State) : State :=
  match (if !s.hzn.run || s.hzn.stopped || !s.isOpen 3 || !s.plannerOpen then none else s.hzn.warm) with
  | none => s
  | some w =>
    let p := s.hznProb s.hzn.qp
    let ls := p.linear w.plan.load
    let (z, reg, null) := p.iterate ls s.hzn.cur.load
    let (_, unfit) := hznValue p ls z
    let x := (hznValue p ls z.store.load).1
    let unfit := unfit || f32Over (s.merit x)
    let k := s.hzn.done + 1
    let s := (s.countN Reg.SLV_H_PIVOT_REG reg).countN Reg.SLV_H_PIVOT_ZERO null
    let s := s.when (0 < reg) (fun s => s.flag Fl.SLV_FLAGS_H_PIVOT_REG true)
    let s := s.when (0 < null) (fun s => s.flag Fl.SLV_FLAGS_H_PIVOT_ZERO true)
    let s := s.when unfit hznOverflow
    let better := match s.hzn.best with | some (_, (b, _)) => decide (s.merit x ≤ s.merit b) | none => true
    let le (a : Word) (r : Nat) : Bool := decide (f32Q a.toNat ≤ f32Q (s.rd r))
    let conv := !unfit && le x.rp Reg.HZN_TOL && le x.rd Reg.HZN_TOL && le x.mu Reg.HZN_TOL_MU
    let best := if conv || (!unfit && better) then some (k, (x, s.now)) else s.hzn.best
    let cur := if unfit then (match s.hzn.best with | some (_, (b, _)) => b.plan | none => w.plan).tenfold else x.plan
    let stop := conv || decide (s.rd Reg.HZN_MAX_ITER ≤ k)
    ({ s with hzn := { s.hzn with
        done := k, cur := cur, best := best, conv := conv, stopped := stop, stopAt := s.now, ovf := s.hzn.ovf || unfit
        reg := s.hzn.reg || decide (0 < reg) } } : State).flag Fl.SLV_STATUS_H_BUSY (!stop)

/-- τ at the nodes of a committed point, in the formats of R7. -/
def planTau (p : Plan) : List (List Int) :=
  p.x.map (fun r => let v := ofWords r; [rnd32 (1000 * v.getD 6 0), rnd32 (1000 * v.getD 7 0), rnd32 (100 * v.getD 8 0)])

/-- The class-H deadline (R235, R236). `mid`: it falls inside an iteration. A solve whose SOLVE_REQ completes with CLOSED has no
iterate. -/
def hznDeadline (s : State) (mid : Bool) : State :=
  let s := s.flag Fl.SLV_STATUS_H_BUSY false
  let z := { s.hzn with best := if s.hzn.stopped || s.isOpen 3 then s.hzn.best else none }
  match (if s.plannerOpen then z.warm else none) with
  | none => { s with hzn := { z with run := false, warm := none, best := none, next := none } }
  | some w =>
    let (k, x, endAt) := match z.best with | some (k, (x, t)) => (k, x, t) | none => (0, w, z.from_)
    let status := if z.conv then 1 else if z.best.isSome then 2 else 3
    let stopAt := if z.stopped then z.stopAt else s.now
    let tau := planTau x.plan
    let b (c : Bool) (v : Nat) : Nat := if c then v else 0
    let s := s.wr Reg.HZN_RESULT (k * 2 ^ 16 + min 63 z.done * 2 ^ 8 + b (mid && z.run && !z.stopped) 64 + b z.reg 32 + b z.ovf 16 + status)
    let s := ((s.wr Reg.HZN_RES_P x.rp.toNat).wr Reg.HZN_RES_D x.rd.toNat).wr Reg.HZN_MU x.mu.toNat
    let s := s.when (f32Over (s.merit x)) hznOverflow
    let s := (s.wr Reg.HZN_MERIT (toF32 (s.merit x))).wr Reg.HZN_COST x.j.toNat
    let s := s.wr Reg.HZN_STAGE ((s.cyc.legPace + (s.stageLegs - s.cyc.stage) * s.legPaces) % 2 ^ 32)
    let s := s.wr Reg.HZN_SOLVE_T (min 0xFFFF ((s.now - endAt) / 100000) * 2 ^ 16 + min 0xFFFF ((stopAt - z.from_) / 100000))
    let s := s.each (List.range 101) (fun s i =>
      let t := if i ≤ s.hznN then tau.getD i [] else []
      ((s.wr (Reg.HZN_TRAJ_X i) (uInt (t.getD 0 0))).wr (Reg.HZN_TRAJ_Y i) (uInt (t.getD 1 0))).wr (Reg.HZN_TRAJ_N i) (uInt (t.getD 2 0)))
    let s := if status = 2 then s.count Reg.HZN_TRUNCATED else if status = 3 then s.count Reg.HZN_NO_ITERATE else s
    { s with hzn := { s.hzn with
        run := false, warm := none, best := none, cold := false, plan := some { x.plan with sl := [] }
        next := some ⟨tau, s.hznH, status, x.rp, x.rd⟩ } }

/-! ### The planned τ in the demand (R237, R238) -/

/-- A τ breaks the envelope rows of R229 taken with ENV_M = 1; a row's value is a binary32 number. -/
def breaksEnvelope (s : State) (t : List Int) : Bool :=
  let e := s.envNow
  let d := s.envDirs
  let v := tauK t
  let mp : Rat := (e.getD d 0 : Nat) / 100
  let mn : Rat := (e.getD (d + 1) 0 : Nat) / 100
  (envRows ((e.take d).map (fun (f : Nat) => (f : Rat) / 1000)) mp mn 1).any (fun r => decide (r.2 < r32 (vDot r.1 v))) ||
    (noMoment mp mn 1 && v.getD 2 0 != 0)

/-- The leg's planned τ (R231). -/
def plannedTau (s : State) : Option (List Int) := s.hzn.force.map (fun x => x.at ((s.cyc.stage * s.legMs + 5) * 1000))

/-- The first cause of ineligibility that holds; 0 eligible (R237). -/
def hznCause (s : State) : Nat :=
  if !s.is Fl.HZN_CTL_EN then 1
  else if 3 ≤ s.get Fl.FUS_DETOUR_LEVEL then 2
  else match s.hzn.force with
    | none => 3
    | some x =>
      if x.status = 3 then 4
      else if f32Q (s.rd Reg.HZN_ELIG_P) < f32Q x.rp.toNat ∨ f32Q (s.rd Reg.HZN_ELIG_D) < f32Q x.rd.toNat then 5
      else if s.breaksEnvelope ((s.plannedTau).getD [0, 0, 0]) then 6 else 0

/-- The blend of a leg (R237, R238): eligibility, w, and the planned τ handed to the demand. Answers w. -/
def hznBlend (s : State) : Nat × State :=
  let c := s.hznCause
  let dw := divRound (32768 * (s.legMs : Int)) 1000
  let w := s.get Fl.HZN_BLEND_W
  let w := if c = 2 then 0 else if c = 0 then min 32768 (w + dw.toNat) else w - dw.toNat
  let was := s.is Fl.HZN_BLEND_ELIGIBLE
  let s := s.when (was != (c == 0)) (fun s => (s.logEv Ev.HZN_ELIGIBLE c).irq 17)
  let s := s.when (was && c != 0) (fun s => s.count Reg.HZN_INELIG)
  let s := s.wr Reg.HZN_BLEND (c * 2 ^ 17 + (if c = 0 then 2 ^ 16 else 0) + w)
  let t := (s.plannedTau).getD [0, 0, 0]
  (w, s.each (List.range 3) (fun s k => s.wr (Reg.LOOP_TAU_PL k) (uInt (t.getD k 0))))

/-! ### Identification and model commits (R240, R241) -/

/-- A covariance as at its reset (R240, R241). -/
def covStart (i : Nat) : Mat := mDiag ((List.range 3).map (fun k => absQ (f32Q (Config.rlsCov (i + 3 * k) % 2 ^ 32))))

/-- The sum of the paces' ALC_ACH and a slack, for the leg's identification (R240). -/
def hznPace (s : State) : State :=
  { s with hzn := { s.hzn with
      slack := s.hzn.slack || s.is Fl.ALC_STATUS_SLACK, achN := s.hzn.achN + 1
      ach := (List.range 3).map (fun k => s.hzn.ach.getD k 0 + sInt (s.rd (Reg.ALC_ACH k))) } }

/-- ν̇ of the last leg, low-passed with 1 s, in the state; none before two committed values (R240). -/
def nuMoved (s : State) : Option (Vec × Vec) × State :=
  if !(s.fus.posSet && s.fus.hdgSet) then (none, { s with hzn := { s.hzn with nu := none } })
  else
    let nu := (List.range 3).map (fun k => s.obsNow (3 + k))
    match s.hzn.nu with
    | none => (none, { s with hzn := { s.hzn with nu := some (nu.map w32) } })
    | some o =>
      let d := vScale (1000 / (s.legMs : Nat)) (vSub nu (ofWords o))
      let y := ofWords s.hzn.nuDot
      let y := vStore (vAdd y (vScale (lowpassGain (1000 * s.legMs) 0x3F800000) (vSub d y)))
      (some (nu, y), { s with hzn := { s.hzn with nu := some (nu.map w32), nuDot := y.map w32 } })

/-- The three RLS blocks of a leg: estimates and covariance of each degree of freedom (R240). -/
def hznRls (s : State) (nu nd : Vec) (i : Nat) : Vec × Mat :=
  let h := s.hznHull
  let mean (k : Nat) : Rat := (s.hzn.ach.getD k 0 : Int) * (if k = 2 then 10 else 1) / (max 1 s.hzn.achN : Nat)
  let dist := vAdd (rotBody (s.obsNow 2) [s.obsNow 12, s.obsNow 13, s.obsNow 14]) (ofWords s.loop.tauWind)
  let coup : Rat := if i = 1 then h.m23 * nd.getD 2 0 else if i = 2 then h.m23 * nd.getD 1 0 else 0
  let y := mean i + dist.getD i 0 - (coriolis h (nu.getD 0 0) (nu.getD 1 0) (nu.getD 2 0)).getD i 0 - coup
  let v := nu.getD i 0
  let p := match s.hzn.cov[i]? with | some c => c.map ofWords | none => covStart i
  rlsStep (fAt (sectionOf s 5) 612) ((List.range 3).map (fun k => f32Q (s.rd (Reg.HZN_ID_EST (i + 3 * k))))) p
    [nd.getD i 0, v, v * absQ v] y

/-- HZN_IDENTIFICATION of a leg (R240): estimates clamped into their bounds, VALID by deviation and contributing legs. -/
def hznIdentify (s : State) : State :=
  let ok := decide (s.get Fl.FUS_DETOUR_LEVEL ≤ 1) && !s.hzn.slack && decide (0 < s.hzn.achN) && s.plannerOpen
  let (m, s) := s.nuMoved
  let s0 := s
  let s : State := { s with hzn := { s.hzn with slack := false, ach := [0, 0, 0], achN := 0 } }
  match (if ok then m else none) with
  | none => s
  | some (nu, nd) =>
    let r := (List.range 3).map (s0.hznRls nu nd)
    let legs := s.hzn.legs + 1
    let s : State := { s with hzn := { s.hzn with legs := legs, cov := r.map (fun x => toWords x.2) } }
    s.each (List.range 9) (fun s p =>
      let x := r.getD (p % 3) ([], [])
      let v := x.1.getD (p / 3) 0
      let lo := f32Q (s.rd (Reg.HZN_ID_LO p))
      let hi := f32Q (s.rd (Reg.HZN_ID_HI p))
      let e := if v < lo then lo else if hi < v then hi else v
      let valid := decide (sqrtQ (mAt x.2 (p / 3) (p / 3)) ≤ (s.get Fl.HZN_ID_CFG_ID_SIGMA : Rat) / 256 * absQ e) &&
        decide (s.get Fl.HZN_ID_CFG_MIN_EXC ≤ legs)
      ((s.wr (Reg.HZN_ID_EST p) (toF32 e)).when (v < lo || hi < v) (fun s => s.put ⟨Reg.HZN_ID_STATUS, 16 + p, 16 + p⟩ 1)).put
        ⟨Reg.HZN_ID_STATUS, p, p⟩ (if valid then 1 else 0))

/-- Estimates and covariances reset (R241). -/
def hznResetEst (s : State) : State :=
  let s := s.each (List.range 9) (fun s p => s.wr (Reg.HZN_ID_EST p) (s.rd (Reg.HZN_MODEL_IMG p)))
  ({ s with hzn := { s.hzn with legs := 0, cov := [] } } : State).wr Reg.HZN_ID_STATUS 0

/-- HZN_RESTORE: the image values at the next stage boundary (R241). -/
def hznRestore (s : State) : State := { s with hzn := { s.hzn with restore := true } }

/-- A parameter moved toward its estimate by at most STEP × the value in use, and clamped (R241). -/
def moveParam (s : State) (p : Nat) : Nat :=
  let u := f32Q (s.rd (Reg.HZN_MODEL_USE p))
  let e := f32Q (s.rd (Reg.HZN_ID_EST p))
  let lim := absQ u * ((s.get Fl.HZN_ID_CFG_STEP : Nat) : Rat) / 65536
  let d := e - u
  let v := u + (if lim < d then lim else if d < -lim then -lim else d)
  let lo := f32Q (s.rd (Reg.HZN_ID_LO p))
  let hi := f32Q (s.rd (Reg.HZN_ID_HI p))
  toF32 (if v < lo then lo else if hi < v then hi else v)

/-- The stage boundary at the planner (R231, R241): the committed trajectory takes effect for this stage, and the model is
updated or restored; a change of the model makes the next warm start cold. -/
def hznStage (s : State) : State :=
  let s : State := { s with hzn := { s.hzn with force := s.hzn.next, next := none } }
  if !s.isOpen 5 then s
  else
    let old := (List.range 9).map (fun p => s.rd (Reg.HZN_MODEL_USE p))
    let s :=
      if s.hzn.restore then
        ((s.each (List.range 9) (fun s p => s.wr (Reg.HZN_MODEL_USE p) (s.rd (Reg.HZN_MODEL_IMG p)))).hznResetEst) |>
          fun s => { s with hzn := { s.hzn with restore := false } }
      else if s.is Fl.HZN_MODEL_ADAPT_EN_EN then
        s.each ((List.range 9).filter (fun p => s.is ⟨Reg.HZN_ID_STATUS, p, p⟩)) (fun s p => s.wr (Reg.HZN_MODEL_USE p) (s.moveParam p))
      else s
    if (List.range 9).map (fun p => s.rd (Reg.HZN_MODEL_USE p)) = old then s
    else ({ s with hzn := { s.hzn with cold := true, legs := 0 } } : State).logEv Ev.HZN_MODEL_COMMIT

/-- A staged HZN_HORIZON is refused where N × h < 2 T_S (R226); a change makes the warm start cold. -/
def horizonOk (s : State) (w : Nat) : Bool := decide (2 * s.stageMs ≤ (w % 128) * (w / 65536 % 32) * 100)

/-- A working epoch begins (R232, R238). -/
def hznEpoch (s : State) : State := ({ s with hzn := {} } : State).wr Reg.HZN_BLEND (3 * 2 ^ 17)

/-- The planner or the solver array has reopened: the warm start is cold (R232). -/
def hznReopened (s : State) : State :=
  ({ s with hzn := { s.hzn with
      cold := true, run := false, best := if s.hzn.stopped then s.hzn.best else none, stopped := true } } : State).flag
    Fl.SLV_STATUS_H_BUSY false

/-- Engine 10 or 11 has reopened: what it held for the stage's solve is lost too, and nothing of it is committed. -/
def hznLost (s : State) : State :=
  ({ s with hzn := { s.hzn with warm := none, best := none, stopped := true } } : State).hznReopened

/-- The loader configures the planner (R364): image values in use, bounds, estimates. -/
def configPlanner (s : State) : State :=
  let b := sectionOf s 5
  if b.isEmpty then s else
    let off (p : Nat) : Nat := if p < 3 then 4 * p else 4 * (p + 1)
    s.each (List.range 9) (fun s p =>
      ((((s.wr (Reg.HZN_MODEL_IMG p) (beAt b (off p) 4)).wr (Reg.HZN_MODEL_USE p) (beAt b (off p) 4)).wr (Reg.HZN_ID_EST p)
        (beAt b (off p) 4)).wr (Reg.HZN_ID_LO p) (beAt b (540 + 4 * p) 4)).wr (Reg.HZN_ID_HI p) (beAt b (576 + 4 * p) 4))

end State

end Sys2Proof.Machine
end

