-- ==== Sys2Proof/Machine/GraphOps.lean ====
section
/-! DEFINITION. Machine/GraphOps.lean: the runs of route graphs (R66 to R78). A graph runs at its START_MARK and its outputs are
committed at its END_MARK. What the catalogue leaves open is a free value (log entry 41). -/

namespace Sys2Proof.Machine

/-- An array's elements: words with their validity (R71). The word of an invalid element tells its cause: 1 for a CLOSED status, 0
for any other. -/
abbrev Elems := List (Nat × Bool)

/-- A run in progress: the machine and the graph's signals so far. -/
structure GRun where
  s : State
  sigs : List (Nat × Elems) := []

/-- Elements all valid. -/
def goodE (l : List Nat) : Elems := l.map (fun v => (v, true))
/-- `n` invalid elements with their cause. -/
def badE (cause n : Nat) : Elems := List.replicate n (cause, false)

/-- Element i of an array; an array has no element past its end. -/
def elemAt (l : Elems) (i : Nat) : Nat × Bool := l.getD i (0, false)
/-- Its word as a rational. -/
def elemQ (l : Elems) (i : Nat) : Rat := f32Q (elemAt l i).1
/-- Every element is valid. -/
def allValid (l : Elems) : Bool := l.all (·.2)
/-- An element is invalid because of a CLOSED status. -/
def hasClosed (l : Elems) : Bool := l.any (fun e => !e.2 && e.1 == 1)

/-- A word as a signal of a type holds it: a binary32 word with subnormals flushed (R11), a FLAG of one bit. -/
def asType (ty v : Nat) : Nat := match ty with | 0 => toF32 (f32Q v) | 3 => v % 2 | _ => v % 2 ^ 32

namespace GRun

/-- A free word of a signal's type. -/
def draw (r : GRun) (ty : Nat) : Nat × GRun := let (v, s) := r.s.draw; (asType ty (v % 2 ^ 32), { r with s := s })

/-- `n` free words of a signal's type. -/
def draws (r : GRun) (ty : Nat) : Nat → List Nat × GRun
  | 0 => ([], r)
  | n + 1 => let (v, r) := r.draw ty; let (l, r) := r.draws ty n; (v :: l, r)

/-- The F32 result of an operation of engine n (R11, R72). -/
def f32 (r : GRun) (n : Nat) (q : Rat) : Nat × GRun :=
  let (w, o) := encF32 q
  (w, if o then { r with s := (r.s.flag (Fl.ENG_FLAGS_OVF_F32 n) true).count (Reg.ENG_SAT n) } else r)

/-- The I32 result of an operation of engine n (R72). -/
def i32 (r : GRun) (n : Nat) (v : Int) : Nat × GRun :=
  (uInt (sat32 v), if sat32 v = v then r else { r with s := (r.s.flag (Fl.ENG_FLAGS_SAT_I32 n) true).count (Reg.ENG_SAT n) })

/-- Results formed one by one. -/
def mapQ {α : Type} (r : GRun) (l : List α) (f : GRun → α → Nat × GRun) : List Nat × GRun :=
  l.foldl (fun (a : List Nat × GRun) x => let (v, r) := f a.2 x; (a.1 ++ [v], r)) ([], r)

/-- The F32 results of engine n. -/
def f32s (r : GRun) (n : Nat) (l : Vec) : List Nat × GRun := r.mapQ l (fun r q => r.f32 n q)

end GRun

/-- Linear interpolation in N pairs; none outside the points, where the catalogue gives no value. -/
def interpQ (pts : List (Rat × Rat)) (x : Rat) : Option Rat :=
  match pts with
  | [] => none
  | [p] => if x = p.1 then some p.2 else none
  | p :: q :: l =>
    if p.1 ≤ x ∧ x ≤ q.1 then some (if q.1 = p.1 then p.2 else p.2 + (q.2 - p.2) * (x - p.1) / (q.1 - p.1))
    else interpQ (q :: l) x

/-- The period of a rate in ms. -/
def ratePeriod (s : State) (rate : Nat) : Nat :=
  match rate with | 0 => 1 | 1 => s.legPaces | _ => s.legPaces * s.stageLegs

/-- The earth-frame offset of an arm (R143): yaw, pitch and roll turned in that order. -/
def leverQ (roll pitch yaw : Rat) (x y z : Rat) : List Rat :=
  let (sr, cr) := (sinQ roll, cosQ roll)
  let (sp, cp) := (sinQ pitch, cosQ pitch)
  let (sy, cy) := (sinQ yaw, cosQ yaw)
  [cy * cp * x + (cy * sp * sr - sy * cr) * y + (cy * sp * cr + sy * sr) * z,
   sy * cp * x + (sy * sp * sr + cy * cr) * y + (sy * sp * cr - cy * sr) * z,
   -sp * x + cp * sr * y + cp * cr * z]

/-- A number moved towards another by at most a step. -/
def toward (lim x y : Rat) : Rat := if y + lim < x then y + lim else if x < y - lim then y - lim else x

/-- A run of GUIDE (R175) in m, rad and s: period, limits on speed, turn rate, acceleration and angular acceleration, setpoint η
and the reference (η_ref, ν_ref) of the previous run. -/
def guideStep (t : Rat) (lim set ref : Vec) : Vec :=
  let r (i : Nat) : Rat := ref.getD i 0
  let speed (v a d : Rat) : Rat := let m := sqrtQ (2 * a * d); if m < v then m else v
  let acc := lim.getD 2 0
  let dn := set.getD 0 0 - r 0
  let de := set.getD 1 0 - r 1
  let dist := sqrtQ (dn * dn + de * de)
  let k : Rat := if dist = 0 then 0 else speed (lim.getD 0 0) acc dist / dist
  let (an, ae) := (k * dn - r 3, k * de - r 4)
  let len := sqrtQ (an * an + ae * ae)
  let c : Rat := if acc * t < len then acc * t / len else 1
  let (vn, ve) := (r 3 + c * an, r 4 + c * ae)
  let (n, e) := (r 0 + vn * t, r 1 + ve * t)
  let (fn, fe) := (set.getD 0 0 - n, set.getD 1 0 - e)
  let there := decide (fn * fn + fe * fe ≤ 1 / 1000000) && decide (vn * vn + ve * ve ≤ acc * t * (acc * t))
  let turn := lim.getD 3 0
  let d := wrapPi (set.getD 2 0 - r 2)
  let w := speed (lim.getD 1 0) turn (absQ d)
  let vh := toward (turn * t) (if d < 0 then -w else if 0 < d then w else 0) (r 5)
  let h := r 2 + vh * t
  let thereH := decide (absQ (wrapPi (set.getD 2 0 - h)) ≤ angQ 0x2E9A) && decide (absQ vh ≤ turn * t)
  let (pn, pe, sn, se) := if there then (set.getD 0 0, set.getD 1 0, (0 : Rat), (0 : Rat)) else (n, e, vn, ve)
  let (ph, sh) := if thereH then (set.getD 2 0, (0 : Rat)) else (h, vh)
  [pn, pe, wrapPi ph, sn, se, sh]

/-- A block's place in a run: the engine, the graph's table, the instance, its inputs and what it kept from its previous run. -/
structure BlockIn where
  n : Nat
  g : Bytes
  inst : Bytes
  ins : List Elems
  mem : Option Elems

namespace BlockIn

/-- The first and the second input, a parameter word, and a parameter as a number. -/
def a (x : BlockIn) : Elems := x.ins.getD 0 []
def b (x : BlockIn) : Elems := x.ins.getD 1 []
def p (x : BlockIn) (k : Nat) : Nat := instParam x.g x.inst k
def pq (x : BlockIn) (k : Nat) : Rat := f32Q (x.p k)
/-- The first input's numbers, and another array's. -/
def av (x : BlockIn) : Vec := x.a.map (fun e => f32Q e.1)
def bv (x : BlockIn) : Vec := x.b.map (fun e => f32Q e.1)
def kept (x : BlockIn) : Vec := (x.mem.getD []).map (fun e => f32Q e.1)
/-- The count of an output. -/
def outN (x : BlockIn) (i : Nat) : Nat := outCount x.g x.inst i
/-- A run's period in s. -/
def period (x : BlockIn) (s : State) : Rat := ((ratePeriod s (gRate x.g) : Nat) : Rat) / 1000

end BlockIn

/-- What a block answers: its outputs, what it keeps for its next run, and the run. -/
abbrev BlockOut := List Elems × Option Elems × GRun

/-- One output without memory. -/
def oneOut (x : BlockIn) (y : List Nat × GRun) : BlockOut := ([goodE y.1], x.mem, y.2)

/-- Free words for every output, each of its signal's type. -/
def freeOuts (x : BlockIn) (r : GRun) : BlockOut :=
  let y := (List.range (instOuts x.inst).length).foldl (fun (acc : List Elems × GRun) i =>
    let (l, r) := acc.2.draws (outType x.g x.inst i) (x.outN i); (acc.1 ++ [goodE l], r)) ([], r)
  (y.1, x.mem, y.2)

/-- The previous output of a block that filters over time: what it kept, or free words in its first run. -/
def lastOuts (x : BlockIn) (r : GRun) : Vec × GRun :=
  if x.mem.isSome then (x.kept, r) else let (l, r) := r.draws 0 x.a.length; (l.map f32Q, r)

/-- Outputs that the block keeps as they are. -/
def keepOuts (y : List Nat × GRun) : BlockOut := ([goodE y.1], some (goodE y.1), y.2)

/-- The signs that a sign mask of SUM gives its inputs: none reversed where it is zero (DEDUCED, log entry 41). -/
def sumSign (mask i : Nat) (q : Rat) : Rat := if mask ≠ 0 ∧ (Config.sumSigns mask).testBit i then -q else q

/-- The catalogue's arithmetic on valid inputs (R77): codes 0x01 to 0x09 and 0x0A to 0x0C, 0x0E. -/
def arithBlock (x : BlockIn) (r : GRun) : BlockOut :=
  let len := x.a.length
  let ix := List.range len
  let q (i : Nat) : Rat := elemQ x.a i
  match byteAt x.inst 0 with
  | 0x01 => oneOut x (r.f32s x.n (ix.map (fun i => q i * x.pq i)))
  | 0x02 => oneOut x (r.f32s x.n (ix.map (fun i => sumSign (x.p 0) 0 (q i) + sumSign (x.p 0) 1 (elemQ x.b i))))
  | 0x03 => oneOut x (r.f32s x.n (ix.map (fun i => q i * elemQ x.b i)))
  | 0x04 =>
    let (y, r) := r.f32s x.n (ix.map (fun i => if q i < x.pq i then x.pq i else if x.pq (len + i) < q i then x.pq (len + i) else q i))
    ([goodE y, goodE (ix.map (fun i => if q i < x.pq i ∨ x.pq (len + i) < q i then 1 else 0))], x.mem, r)
  | 0x05 =>
    let (y0, r) := lastOuts x r
    keepOuts (r.f32s x.n (ix.map (fun i => toward (x.pq i * x.period r.s) (q i) (y0.getD i 0))))
  | 0x06 =>
    let (y0, r) := lastOuts x r
    keepOuts (r.f32s x.n (ix.map (fun i =>
      let y := y0.getD i 0
      y + lowpassGain (ratePeriod r.s (gRate x.g) * 1000) (x.p i) * (q i - y))))
  | 0x07 =>
    let m (i j : Nat) : Rat := if x.b.isEmpty then x.pq (2 + i * len + j) else elemQ x.b (i * len + j)
    oneOut x (r.f32s x.n ((List.range (x.outN 0)).map (fun i => sumQ (ix.map (fun j => m i j * q j)))))
  | 0x08 =>
    let psi := angQ (elemAt x.b 0).1
    let (c, t) := (cosQ psi, if x.p 0 = 0 then sinQ psi else -sinQ psi)
    oneOut x (r.f32s x.n [c * q 0 + t * q 1, -t * q 0 + c * q 1, q 2])
  | 0x09 =>
    let ang (i : Nat) : Rat := angQ (if x.ins.length = 3 then (elemAt (x.ins.getD i []) 0).1 else (elemAt x.a i).1)
    oneOut x (r.f32s x.n (leverQ (ang 0) (ang 1) (ang 2) (x.pq 0) (x.pq 1) (x.pq 2)))
  | 0x0A =>
    match interpQ ((List.range (x.p 0)).map (fun i => (x.pq (1 + 2 * i), x.pq (2 + 2 * i)))) (q 0) with
    | some v => oneOut x (r.f32s x.n [v])
    | none => freeOuts x r
  | 0x0B =>
    -- kept: the last angle with the whole turns above it, a two's complement word
    let m := x.mem.getD []
    let st := ix.map (fun i =>
      let v := (elemAt x.a i).1
      let old := (elemAt m i).1
      let turns := old / 2 ^ 32
      let prev := old % 2 ^ 32
      let up := decide (x.mem.isSome ∧ angDiff v prev > 0 ∧ v < prev)
      let down := decide (x.mem.isSome ∧ angDiff v prev < 0 ∧ prev < v)
      let start := if x.mem.isNone then (if v < 2 ^ 31 then 0 else 2 ^ 32 - 1) else turns
      v + 2 ^ 32 * (if up then (start + 1) % 2 ^ 32 else if down then (start + 2 ^ 32 - 1) % 2 ^ 32 else start))
    let (y, r) := r.f32s x.n (st.map (fun e =>
      ((e % 2 ^ 32 : Nat) : Rat) * 2 * piQ / ((2 ^ 32 : Nat) : Rat) + (sInt (e / 2 ^ 32) : Rat) * 2 * piQ))
    ([goodE y], some (goodE st), r)
  | 0x0C =>
    if outType x.g x.inst 0 = 1 then oneOut x (r.mapQ ix (fun r i => r.i32 x.n (rnd (q i * x.pq 0))))
    else oneOut x (r.f32s x.n (ix.map (fun i => (sInt (elemAt x.a i).1 : Rat) * x.pq 0)))
  | _ =>
    let d := q 0 - elemQ x.b 0
    let (old, r) := match x.mem with | some m => ((elemAt m 0).1, r) | none => r.draw 3
    keepOuts ([if x.pq 0 < d then 1 else if d < -(x.pq 0) then 0 else old], r)

/-- GUIDE (R175): reference position and heading, then their velocities; the first run starts at the present η at rest. A setpoint
with more than three elements carries the move limits after η, each a ceiling of its own unless zero (R173, the worked example of
this chapter). -/
def guideBlock (x : BlockIn) (r : GRun) : BlockOut :=
  let ref := if x.mem.isSome then x.kept else x.bv.take 3 ++ vZero 3
  let lim (i : Nat) : Rat :=
    let h := x.av.getD (3 + i) 0
    if i < 3 ∧ h ≠ 0 ∧ h < x.pq i then h else x.pq i
  let (y, r) := r.f32s x.n (guideStep (x.period r.s) ((List.range 4).map lim) x.av ref)
  ([goodE (y.take 3), goodE (y.drop 3)], some (goodE y), r)

/-- PINV (R221): the rows of M of the available lanes, from the geometry index on; three zeros for any other. What the three words
of an azimuth lane, which has two rows, hold is open. -/
def pinvBlock (x : BlockIn) (r : GRun) : BlockOut :=
  let s := r.s
  let on (i : Nat) : Bool := (elemAt x.a i).1 != 0 && (geoOf s (x.p 0 + i)).kind != 4
  let cols := ((List.range x.a.length).filter on).flatMap (fun i =>
    let g := geoOf s (x.p 0 + i)
    let u := g.dir
    if g.kind = 0 then [(⟨i, 1, 0, -g.y, elemQ x.b i⟩ : ColB), ⟨i, 0, 1, g.x, elemQ x.b i⟩]
    else [⟨i, u.1, u.2, g.x * u.2 - g.y * u.1, elemQ x.b i⟩])
  let rows := pinvRows cols (f32Q (s.rd Reg.SLV_EPS_PIV))
  let y := (List.range x.a.length).foldl (fun (acc : List Nat × GRun) i =>
    let (l, r) := if !on i then ([0, 0, 0], acc.2)
      else if (geoOf s (x.p 0 + i)).kind = 0 then acc.2.draws 0 3
      else acc.2.f32s x.n (((rows.find? (fun e => e.1 == i)).map (·.2)).getD [0, 0, 0])
    (acc.1 ++ l, r)) ([], r)
  oneOut x y

/-- ENVELOPE (R223): F_max in N of each direction over the available lanes. -/
def envBlock (x : BlockIn) (r : GRun) : BlockOut :=
  let s := r.s
  let lanes := (((List.range x.a.length).filter (fun i => (elemAt x.a i).1 != 0 && (geoOf s i).kind != 4)).map s.laneIn)
  oneOut x (r.f32s x.n ((List.range (x.outN 0)).map (fun j => (s.envForce lanes (x.outN 0) j : Nat))))

/-- RLS: a forgetting factor, then a lower and an upper bound of each estimate. Kept: estimates and covariance; both are free
before the first run. -/
def rlsBlock (x : BlockIn) (r : GRun) : BlockOut :=
  let n := x.a.length
  let (w, r) := if x.mem.isSome then ((x.mem.getD []).map (·.1), r) else
    let (th, r) := r.draws 0 n
    let (d, r) := r.draws 0 n
    (th ++ (mDiag (d.map f32Q)).flatten.map toF32, r)
  let v := w.map f32Q
  let cov := (List.range n).map (fun i => (v.drop (n + i * n)).take n)
  let (th, c) := rlsStep (x.pq 0) (v.take n) cov x.av (elemQ x.b 0)
  let (y, r) := r.f32s x.n ((List.range n).map (fun i =>
    let e := th.getD i 0
    if e < x.pq (1 + 2 * i) then x.pq (1 + 2 * i) else if x.pq (2 + 2 * i) < e then x.pq (2 + 2 * i) else e))
  ([goodE y], some (goodE (y ++ c.flatten.map toF32)), r)

/-- The unit a block needs (R71, R78): the baseband, class H, the loop engine, the fusion unit, the ring controller. -/
def blockUnit : Nat → Option Nat
  | 0x16 => some 10
  | 0x17 => some 3
  | 0x18 => some 6
  | 0x19 => some 9
  | 0x1A | 0x1B => some 16
  | _ => none

/-- LOOP_REQ hands a slot its x and f (R78, R186); an invalid input or a closed loop engine hands it nothing, and a component of the
classic τ is then invalid (R183). -/
def loopReq (x : BlockIn) (r : GRun) (ok : Bool) : GRun :=
  let k := x.p 0
  if !ok then
    { r with s := { r.s with loop := { r.s.loop with bad := if r.s.loop.bad.contains k then r.s.loop.bad else r.s.loop.bad ++ [k] } } }
  else
    let v (i : Nat) : Int := if inType x.g x.inst 0 = 0 then rnd32 (elemQ x.a i) else sInt (elemAt x.a i).1
    let y := r.s.slotSt k
    let s : State := { r.s with loop := { r.s.loop with bad := r.s.loop.bad.filter (· != k) } }
    { r with s := s.setSlot k { y with reqX := v 0, reqF := if 1 < x.a.length then v 1 else y.reqF } }

/-- A word of the ring image. -/
def ringWord (s : State) (o : Nat) : Nat := beAt (aGetD s.ring.pages (o / 256) ⟨0, []⟩).data (o % 256) 4

/-- The blocks that reach another unit, the ring image or another graph, on valid inputs with the unit open (R78). -/
def unitBlock (x : BlockIn) (r : GRun) : BlockOut :=
  let none_ (s : State) : BlockOut := ([], x.mem, { r with s := s })
  let words := (List.range x.a.length).map (fun i => (elemAt x.a i).1)
  let keep (l : List (Nat × Nat)) (o : Nat) : List (Nat × Nat) :=
    (List.range words.length).foldl (fun l i => aSet l (o + i) (words.getD i 0)) l
  match byteAt x.inst 0 with
  | 0x17 =>
    let job := x.p 0
    let jobs := if r.s.eng.jobs.contains job then r.s.eng.jobs else r.s.eng.jobs ++ [job]
    freeOuts x { r with s := { r.s with eng := { r.s.eng with jobs := jobs } } }
  | 0x19 =>
    oneOut x ((List.range (x.outN 0)).map (fun i => asType (outType x.g x.inst 0) (Config.fusResult (x.p 0) r.s.fus.voted i)), r)
  | 0x1A => oneOut x ((List.range (x.outN 0)).map (fun i => ringWord r.s (x.p 0 + 4 * i)), r)
  | 0x1B => none_ { r.s with eng := { r.s.eng with ringOut := keep r.s.eng.ringOut (x.p 0 / 4) } }
  | 0x1C => ([aGetD r.s.eng.sigs (x.p 0 * 2 ^ 16 + x.p 1) (badE 0 (x.outN 0))], x.mem, r)
  | 0x1D => none_ { r.s with eng := { r.s.eng with regPend := keep r.s.eng.regPend (x.p 0) } }
  | _ => freeOuts x r

/-- A block's outputs (R77): those of SELECT and HOLD under their own rules; of any other block invalid ones where an input is
invalid or its unit is closed, with the cause, and what it kept left alone (R71, log entry 41). -/
def runBlock (x : BlockIn) (r : GRun) : BlockOut :=
  let code := byteAt x.inst 0
  let open_ := match blockUnit code with | some u => r.s.isOpen u | none => true
  let ok := x.ins.all allValid && open_
  let cause := if !open_ || x.ins.any hasClosed then 1 else 0
  if code = 0x0D then
    let y := if (elemAt x.a 0).1 = 0 then x.b else x.ins.getD 2 []
    if allValid x.a && allValid y then ([y], x.mem, r)
    else ([badE (if hasClosed x.a || hasClosed y then 1 else 0) (x.outN 0)], x.mem, r)
  else if code = 0x0F then ([x.mem.getD (goodE (List.replicate (x.outN 0) (x.p 0)))], some x.a, r)
  else if code = 0x18 then ([], x.mem, loopReq x r ok)
  else if !ok then ((List.range (instOuts x.inst).length).map (fun i => badE cause (x.outN i)), x.mem, r)
  else if code ≤ 0x0C || code = 0x0E then arithBlock x r
  else match code with
    | 0x10 => guideBlock x r
    | 0x13 => pinvBlock x r
    | 0x14 => envBlock x r
    | 0x15 => rlsBlock x r
    | _ => unitBlock x r

/-- The memory key of an instance. -/
def instKey (g : Bytes) (i : Nat) : Nat := gId g * 2 ^ 16 + i

/-- One instance of a run (R70). -/
def runInst (g : Bytes) (n : Nat) (r : GRun) (i : Nat) : GRun :=
  let inst := instAt g i
  let (outs, mem, r) := runBlock ⟨n, g, inst, (instIns inst).map (fun k => aGetD r.sigs k []), aGet r.s.eng.mem (instKey g i)⟩ r
  let r : GRun := { r with sigs := ((instOuts inst).zip outs).foldl (fun l o => aSet l o.1 o.2) r.sigs }
  match mem with
  | none => r
  | some m =>
    let mem' := aSet r.s.eng.mem (instKey g i) m
    { r with s := { r.s with eng := { r.s.eng with mem := mem' } } }

/-- A run as it starts: every HOLD's output carries the previous run's value (R70). -/
def startRun (s : State) (g : Bytes) : GRun :=
  let holds := (List.range (gInsts g)).filter (fun i => byteAt (instAt g i) 0 == 0x0F)
  { s := s
    sigs := holds.foldl (fun l i =>
      let x := instAt g i
      let v := (aGet s.eng.mem (instKey g i)).getD (goodE (List.replicate (outCount g x 0) (instParam g x 0)))
      match (instOuts x)[0]? with | some k => aSet l k v | none => l) [] }

namespace State

/-- The outputs of the instances flagged COMMIT. -/
def commitSigs (g : Bytes) : List Nat :=
  (List.range (gInsts g)).flatMap (fun i => let t := instAt g i; if (byteAt t 1).testBit 0 then instOuts t else [])

/-- A graph's results no longer wait for its END_MARK. -/
def dropRun (s : State) (g : Bytes) : State :=
  { s with eng := { s.eng with runs := aDel s.eng.runs (gId g), began := aDel s.eng.began (gId g)
                               closed := s.eng.closed.filter (fun k => k / 2 ^ 16 != gId g) } }

/-- A graph that did not reach its END_MARK: nothing of it is committed (R40). -/
def graphLate (s : State) (g : Bytes) : State :=
  let n := s.engineOf g
  let s := s.dropRun g
  { s with eng := { s.eng with late := if s.eng.late.contains n then s.eng.late else s.eng.late ++ [n] } }

/-- A graph's END_MARK: valid outputs are committed; an invalid one is withheld and counted, with CLOSED_INPUT where a
CLOSED status caused it (R71). -/
def graphCommit (s : State) (g : Bytes) : State :=
  match aGet s.eng.runs (gId g) with
  | none => s
  | some outs =>
    let n := s.engineOf g
    let closed := s.eng.closed
    let s := s.dropRun g
    s.each outs (fun s o =>
      let key := gId g * 2 ^ 16 + o.1
      if allValid o.2 && !o.2.isEmpty then { s with eng := { s.eng with sigs := aSet s.eng.sigs key o.2 } }
      else (s.count (Reg.ENG_INVALID n)).when (closed.contains key) (fun s => s.flag (Fl.ENG_FLAGS_CLOSED_INPUT n) true))

/-- Both marks of a graph are boundaries, which come at one instant (R34). -/
def atBoundaries (g : Bytes) : Bool := [0, 5, 10].contains (gStart g) && [0, 5, 10].contains (gEnd g)

/-- A graph's run at its START_MARK: its results wait for its END_MARK. Results of the previous run that still wait are committed
where the end of the graph's period is at this instant, and are late otherwise. A closed engine runs nothing, and the graph misses
its mark. -/
def graphRun (s : State) (g : Bytes) : State :=
  let n := s.engineOf g
  let s := if (aGet s.eng.runs (gId g)).isNone then s else if atBoundaries g then s.graphCommit g else s.graphLate g
  if !s.engOpen n then s.graphLate g
  else
    let r := (List.range (gInsts g)).foldl (runInst g n) (startRun s g)
    let outs := (commitSigs g).map (fun k => (k, aGetD r.sigs k []))
    let closed := (outs.filter (fun o => hasClosed o.2)).map (fun o => gId g * 2 ^ 16 + o.1)
    { r.s with eng := { r.s.eng with runs := aSet r.s.eng.runs (gId g) outs, began := aSet r.s.eng.began (gId g) r.s.now
                                     closed := r.s.eng.closed ++ closed } }

/-- What a mark does to the route graphs: the graphs that end there are committed or late, then those that start there
run: a leg graph once in its leg, a stage graph once in its stage (R69). A run that started at this instant's boundary does not end
there. -/
def graphMark (s : State) (code : Nat) (late : Bool) : State :=
  let gs := graphsOf s
  let ends (g : Bytes) : Bool := gEnd g == code && !(atBoundaries g && aGet s.eng.began (gId g) == some s.now)
  let s := s.each (gs.filter ends) (fun s g => if late then s.graphLate g else s.graphCommit g)
  let first (g : Bytes) : Bool :=
    (gRate g == 0 || 4 < code || s.cyc.leg == 0) && (gRate g != 2 || code == 9 || code == 10 || s.cyc.stage == 0)
  s.each (gs.filter (fun g => gStart g == code && first g)) graphRun

/-- LATE of each engine as of the leg that ends (ENG[n]_STATUS). -/
def graphLeg (s : State) : State :=
  let late := s.eng.late
  let s : State := { s with eng := { s.eng with late := [] } }
  s.each (List.range 16) (fun s n => s.flag (Fl.ENG_STATUS_LATE n) (late.contains n))

/-- What an engine's graphs keep and have in progress is lost with a reset of the engine (R61). -/
def graphsLost (s : State) (n : Nat) : State :=
  let gs := (graphsOf s).filter (fun g => s.engineOf g == n)
  let gone (k : Nat) : Bool := (gs.map gId).contains (k / 2 ^ 16)
  s.each gs dropRun |> fun s => { s with eng := { s.eng with mem := s.eng.mem.filter (fun e => !gone e.1) } }

end State

end Sys2Proof.Machine
end

