-- ==== Sys2Proof/Machine/Recorder.lean ====
section
/-! DEFINITION. Machine/Recorder.lean: the commands of the event recorder (R393 to R405). -/

namespace Sys2Proof.Machine

namespace State

/-- HOST_MARK with LOG_MARK in DATA (R397). -/
def hostMark (s : State) : State := s.logEv Ev.HOST_MARK 0 (s.rd Reg.LOG_MARK)

/-- Starting the verification of the seal chain, or refusing it (R403). -/
def verifyStart (s : State) : State :=
  if s.sec.rsk.isNone || s.is Fl.LOG_VERIFY_BUSY then
    (s.put Fl.LOG_VERIFY_RESULT 3).when (!s.is Fl.LOG_VERIFY_BUSY) (fun s => s.flag Fl.LOG_VERIFY_DONE true)
  else (s.flag Fl.LOG_VERIFY_BUSY true).flag Fl.LOG_VERIFY_DONE false

/-- The first block from `k` on, of `n` checked, that does not match its seal (R403). -/
def badBlock (rsk : Bytes) (l : Recorder) : Nat → Nat → Option Nat
  | 0, _ => none
  | n + 1, k =>
    if beNat (sealBlock rsk l k (sealPrev rsk l k)) = l.seals.getD (k - 1) 0 then badBlock rsk l n (k + 1) else some k

/-- The verification completes (R403). -/
def verifyDone (s : State) : State :=
  if !s.is Fl.LOG_VERIFY_BUSY then s else
    let l := s.log
    let s := (((s.flag Fl.LOG_VERIFY_BUSY false).flag Fl.LOG_VERIFY_DONE true).put Fl.LOG_VERIFY_FIRST_CHECKED
      l.firstKeyed).put Fl.LOG_VERIFY_BLOCK 0
    match s.sec.rsk with
    | none => s.put Fl.LOG_VERIFY_RESULT 3
    | some rsk =>
      match badBlock rsk l (l.seals.length + 1 - l.firstKeyed) l.firstKeyed with
      | some k => (s.put Fl.LOG_VERIFY_RESULT 1).put Fl.LOG_VERIFY_BLOCK (k - 1)
      | none => s.put Fl.LOG_VERIFY_RESULT (if l.firstKeyed > 1 then 2 else 0)

/-- Starting a clear, in READY only (R404, steps 1 and 2). -/
def clearStart (s : State) : State :=
  if s.power != 2 then s.badWrite Reg.LOG_CMD
  else if s.is Fl.LOG_STATUS_CLEARING then s
  else
    (({ s with log := { s.log with
        clearPending := true, clearCount := s.log.main.length, main := [], seals := [], firstKeyed := 1
        full := false, last := s.log.last.map (fun e => (e.1, { e.2 with main := none })) } } : State).flag
      Fl.LOG_STATUS_CLEARING true).logPublish

/-- A clear completes with its record at index 0 (R404, steps 3 and 4); it is a record of its own, also where R400 would count a
repeat. -/
def cleared (s : State) : State :=
  if !s.log.clearPending then s else
    let s := (s.flag Fl.LOG_STATUS_CLEARING false).newRecord Ev.LOG_CLEARED 0 s.log.clearCount 0
    { s with log := { s.log with clearPending := false } }

/-- The effect of a write to LOG_CMD, its bits taken from bit 0 up. -/
def logCmd (s : State) (w : Nat) : State :=
  ((s.when (w.testBit 0) clearStart).when (w.testBit 1) verifyStart).when (w.testBit 2) hostMark

/-- A read of LOG_RD_DATA[7]: the word, and the next record latched (R405). -/
def logReadLast (s : State) : State :=
  (s.reply (s.rd (Reg.LOG_RD_DATA 7))).latchRecord ((s.get Fl.LOG_RD_INDEX_INDEX + 1) % 2 ^ 15)

end State

/-- The units that create records (R397). -/
def recordUnits : List Nat := [4, 5, 6, 8, 9, 10, 11, 13, 14, 15, 16, 17, 18, 19, 20, 21, 22]

/-- LOG_APPEND (R394, R397, R399 to R402): an event that a unit has committed, numbered from 1 within its source; a unit that R397
does not list creates no record. -/
def execLogAppend (dt : Nat) (e : Event) (s : State) : Host.Outcome State Fault Refusal :=
  actUnit 18 dt (fun s =>
    if recordUnits.contains e.source && e.event % 2 ^ 14 != 0 then
      s.logEv ⟨e.source, e.severity % 4, e.event % 2 ^ 14⟩ e.arg e.data
    else s) s

/-- MARK (R397). -/
def execMark (dt : Nat) (priv : Bool) (s : State) : Host.Outcome State Fault Refusal :=
  act dt (fun s => s.hostCmd Rw.LOG_CMD Reg.LOG_CMD priv 4 State.hostMark) s

/-- LOG_VERIFY_START (R403). -/
def execLogVerifyStart (dt : Nat) (priv : Bool) (s : State) : Host.Outcome State Fault Refusal :=
  act dt (fun s => s.hostCmd Rw.LOG_CMD Reg.LOG_CMD priv 2 State.verifyStart) s

/-- LOG_VERIFY_DONE (R403). -/
def execLogVerifyDone (dt : Nat) (s : State) : Host.Outcome State Fault Refusal := act dt State.verifyDone s

/-- LOG_CLEAR_START (R404). -/
def execLogClearStart (dt : Nat) (priv : Bool) (s : State) : Host.Outcome State Fault Refusal :=
  act dt (fun s => s.hostCmd Rw.LOG_CMD Reg.LOG_CMD priv 1 State.clearStart) s

/-- LOG_CLEARED (R404). -/
def execLogCleared (dt : Nat) (s : State) : Host.Outcome State Fault Refusal := act dt State.cleared s

/-- LOG_RD_INDEX_WRITE (R405). -/
def execLogRdIndexWrite (dt : Nat) (w : Word) (s : State) : Host.Outcome State Fault Refusal :=
  act dt (fun s => s.hostCmd Rw.LOG_RD_INDEX Reg.LOG_RD_INDEX true w.toNat
    (fun s => s.latchRecord (w.toNat % 2 ^ 15))) s

/-- LOG_RD_DATA_READ (R405). -/
def execLogRdDataRead (dt : Nat) (s : State) : Host.Outcome State Fault Refusal :=
  act dt (fun s => if s.hostClosed (Reg.LOG_RD_DATA 7) then (s.closedAccess (Reg.LOG_RD_DATA 7)).reply 0
    else s.logReadLast) s

end Sys2Proof.Machine
end

