-- ==== Sys2Proof/Machine/Security.lean ====
section
/-! DEFINITION. Machine/Security.lean: the security unit (R380 to R392). -/

namespace Sys2Proof.Machine

/-- A buffer of 32-bit words as bytes, first byte in bits [31:24]. -/
def bufBytes (l : List (Nat × Word)) (n : Nat) : Bytes :=
  (List.range n).flatMap (fun i => toBE 4 (aGetD l i 0).toNat)

/-- The JTAG_UNLOCK public keys of the image in force (R370, R381). -/
def unlockKeys (s : State) : List (Nat × Nat) :=
  let b := sectionOf s 0x0A
  (List.range (b.length / 72)).map (fun i => (beAt b (72 * i + 8) 32, beAt b (72 * i + 40) 32))

/-- The JTAG IDCODE (R449): the revision's version, the part number, the manufacturer's identity and a 1. -/
def idcode : Nat := 0x1 * 2 ^ 28 + 0x6400 * 2 ^ 12 + 0x4E5 * 2 + 1

/-- The instructions of the TAP (R387, R388); any other code acts as BYPASS. -/
inductive TapInstr where
  | bypass | idcode | challenge | unlock | samplePreload | extest | debug
  deriving DecidableEq, Repr

/-- What the TAP implements, closed or open (R387, R388). -/
def tapImplements (opened : Bool) : TapInstr → Bool
  | .bypass | .idcode | .challenge | .unlock => true
  | .samplePreload | .extest | .debug => opened

namespace State

/-- What an instruction has the TAP shift out of a device in this state (R387): one zero bit for BYPASS and for every code not
implemented, the IDCODE, or the challenge that stands. What the Jallux debug instructions do is in no source. -/
def tapOut (s : State) (i : TapInstr) : Nat :=
  if !tapImplements (s.is Fl.SEC_STATUS_JTAG_OPEN) i then 0
  else match i with
    | .idcode => Sys2Proof.Machine.idcode
    | .challenge => s.sec.challenge.getD 0
    | _ => 0

/-- SEC_RESULT.CODE. -/
def secResult (s : State) (c : Nat) : State := s.put Fl.SEC_RESULT_CODE c

/-- A command of SEC_CMD: ignored with BUSY while one runs. -/
def secCmd (s : State) (f : State → State) : State := if s.is Fl.SEC_RESULT_BUSY then s.secResult 1 else f s

/-- Host ERASE_SESSION (R384). -/
def hostEraseSession (s : State) : State := s.secCmd (fun s => s.eraseSession.secResult 0)

/-- Host ERASE_ALL starts (R384). -/
def hostEraseAll (s : State) : State :=
  s.secCmd (fun s => ((s.eraseAllStart true).flag Fl.SEC_RESULT_BUSY true).secResult 0)

/-- An ERASE_ALL completes: the erasable keys are gone, a fresh RSK is held, ERASE_PENDING is cleared, and SEC_ERASE is
logged with the first block that the new key seals in DATA; ARG is 1 for a host erase (R384, R403; log entry 21). -/
def eraseAllDone (s : State) : State :=
  if !s.is Fl.SEC_STATUS_ERASE_PENDING then s else
    let (k, s) := s.random 256
    let first := s.log.seals.length + 1
    let byHost := s.sec.hostErase
    let s : State := { s with
      sec := { s.sec with kek := none, dik := none, rsk := some (toBE 32 k), hostErase := false }
      log := { s.log with firstKeyed := first } }
    let s := (((s.flag Fl.SEC_STATUS_KEK false).flag Fl.SEC_STATUS_DIK false).flag Fl.SEC_STATUS_RSK true).flag
      Fl.SEC_STATUS_ERASE_PENDING false
    let s := s.each (List.range 8) (fun s i => (s.wr (Reg.SEC_DIK_X i) 0).wr (Reg.SEC_DIK_Y i) 0)
    (s.when byHost (fun s => s.flag Fl.SEC_RESULT_BUSY false)).logEv Ev.SEC_ERASE (if byHost then 1 else 0) first

/-- LOAD_KEK (R389). -/
def loadKek (s : State) : State :=
  s.secCmd (fun s =>
    if s.power != 2 then s.secResult 2
    else if s.sec.kek.isSome then s.secResult 7
    else (({ s with sec := { s.sec with kek := some (bufBytes s.sec.kekBuf 8) } } : State).flag
      Fl.SEC_STATUS_KEK true).secResult 0)

/-- LOAD_SKEY into a slot: AES-GCM unwrap under KEK (R389). -/
def loadSkey (s : State) (n : Nat) : State :=
  s.secCmd (fun s =>
    match s.sec.kek with
    | none => s.secResult 3
    | some kek =>
      let b := bufBytes s.sec.skeyBuf 15
      let iv := b.take 12
      let ct := (b.drop 12).take 32
      if gcmTag kek iv [] ct = b.drop 44 then
        ((({ s with sec := { s.sec with skeys := aSet s.sec.skeys n (gcmCrypt kek iv ct) } } : State).put
          ⟨Reg.SEC_STATUS, 4 + n, 4 + n⟩ 1).secResult 0)
      else (s.count Reg.SEC_TAG_FAIL).secResult 4)

/-- EXPORT of records under a session key (R390). -/
def exportRecords (s : State) (n : Nat) (rngOk : Bool) : State :=
  s.secCmd (fun s =>
    match aGet s.sec.skeys n with
    | none => s.secResult 3
    | some key =>
      if !rngOk then s.secResult 5 else
        let (r, s) := s.random 96
        let iv := toBE 12 r
        let first := s.rd Reg.SEC_EXPORT_FIRST
        let cnt := s.rd Reg.SEC_EXPORT_COUNT
        let txt := (List.range cnt).flatMap (fun i =>
          match recAt s.log (first + i) with | none => List.replicate 32 0 | some r => recBytes r)
        let ct := gcmCrypt key iv txt
        let out := iv ++ ct ++ gcmTag key iv (toBE 4 first ++ toBE 4 cnt ++ toBE 8 Config.dieId) ct
        ({ s with sec := { s.sec with exportQ := (words32 (out.length / 4) out).map (BitVec.ofNat 32) } } : State).secResult 0)

/-- A read of SEC_EXPORT_DATA (R390). -/
def exportRead (s : State) : State :=
  match s.sec.exportQ with
  | [] => s.reply 0
  | w :: q => ({ s with sec := { s.sec with exportQ := q } } : State).reply w.toNat

/-- GEN_DIK (R391). -/
def genDik (s : State) (rngOk : Bool) : State :=
  s.secCmd (fun s =>
    if s.power != 2 then s.secResult 2
    else if s.sec.dik.isSome then s.secResult 7
    else if !rngOk then s.secResult 5
    else
      let (r, s) := s.random 256
      let d := r % (p256n - 1) + 1
      let (x, y) := ecAffine (ecMul 256 d (p256gx, p256gy, 1))
      let s : State := { s with sec := { s.sec with dik := some d } }
      let s := s.each (List.range 8) (fun s i =>
        (s.wr (Reg.SEC_DIK_X i) (beAt (toBE 32 x) (4 * i) 4)).wr (Reg.SEC_DIK_Y i) (beAt (toBE 32 y) (4 * i) 4))
      (s.flag Fl.SEC_STATUS_DIK true).secResult 0)

/-- What ATTEST signs (R391). -/
def attestMsg (s : State) : Bytes :=
  bufBytes s.sec.nonce 8 ++ toBE 8 Config.dieId ++ s.ldr.digest ++ toBE 4 s.log.opsec ++ toBE 3 s.log.pcc ++
    toBE 4 (s.rd Reg.SEC_STATUS)

/-- ATTEST starts signing (R391). -/
def attestStart (s : State) (rngOk : Bool) : State :=
  s.secCmd (fun s =>
    match s.sec.dik with
    | none => s.secResult 3
    | some d =>
      if !rngOk then s.secResult 5 else
        let (k, s) := s.random 256
        let sig := ecdsaSign d (k % (p256n - 1) + 1) (beNat (sha256 s.attestMsg))
        (({ s with sec := { s.sec with attest := some sig } } : State).flag Fl.SEC_RESULT_BUSY true).secResult 0)

/-- The signature appears (R391). -/
def attestDone (s : State) : State :=
  match s.sec.attest with
  | none => s
  | some (r, t) =>
    let s : State := { s with sec := { s.sec with attest := none } }
    let s := s.each (List.range 8) (fun s i =>
      (s.wr (Reg.SEC_ATTEST_R i) (beAt (toBE 32 r) (4 * i) 4)).wr (Reg.SEC_ATTEST_S i) (beAt (toBE 32 t) (4 * i) 4))
    (s.flag Fl.SEC_RESULT_BUSY false).secResult 0

/-- A latched trigger's cause is still present: 0 while TAMPER_N is low, 4 while the seal state is CHANGED or
MISMATCH (Clearing an alarm). -/
def causePresent (s : State) (c : Nat) : Bool :=
  (c == 0 && decide (s.now < s.sec.tamperUntil)) ||
    (c == 4 && (s.get Fl.KRB_STATUS_SEAL_STATE == 2 || s.get Fl.KRB_STATUS_SEAL_STATE == 3))

/-- A write of SEC_ALARM_CLR (R383). -/
def alarmClr (s : State) (w : Nat) : State :=
  let named := (List.range 7).filter (fun c => w.testBit c && s.is ⟨Reg.SEC_STATUS, 16 + c, 16 + c⟩)
  let stay := named.any s.causePresent
  (s.each (named.filter (fun c => !s.causePresent c)) (fun s c => s.put ⟨Reg.SEC_STATUS, 16 + c, 16 + c⟩ 0)).secResult
    (if stay then 6 else 0)

/-- The effect of a write to SEC_CMD, its bits taken from bit 0 up. -/
def secCmdWrite (s : State) (w : Nat) : State :=
  let n := w / 256 % 4
  let s := ((s.when (w.testBit 0) hostEraseSession).when (w.testBit 1) hostEraseAll).when (w.testBit 2) (fun s => s.loadSkey n)
  let s := (s.when (w.testBit 3) (fun s => s.attestStart true)).when (w.testBit 4) (fun s => s.genDik true)
  (s.when (w.testBit 5) (fun s => s.exportRecords n true)).when (w.testBit 6) loadKek

/-- A write of SEC_JTAG_CTL: PERMIT is accepted only in READY (R387). -/
def jtagCtl (s : State) (w : Nat) : State :=
  if w % 2 = 1 ∧ s.power ≠ 2 then s.badWrite Reg.SEC_JTAG_CTL else s.flag Fl.SEC_JTAG_CTL_PERMIT (w % 2 = 1)

/-- CHALLENGE while PERMIT is set: a fresh 256-bit random value, valid for one UNLOCK (R387). -/
def jtagChallenge (s : State) : State :=
  if !s.is Fl.SEC_JTAG_CTL_PERMIT || !s.isOpen 20 then s else
    let (c, s) := s.random 256
    { s with sec := { s.sec with challenge := some c, tapDr := c } }

/-- UNLOCK while PERMIT is set: trigger 5 fires, the challenge is consumed, and a signature that verifies under a key
of the image opens the TAP, with ERASE_SESSION at least (R387, R388). -/
def jtagUnlock (s : State) (r t : Nat) : State :=
  if !s.is Fl.SEC_JTAG_CTL_PERMIT || !s.isOpen 20 then s else
    let ok := match s.sec.challenge with
      | none => false
      | some c =>
        let d := beNat (sha256 (toBE 32 c ++ toBE 8 Config.dieId))
        (unlockKeys s).any (fun (x, y) => ecdsaVerify x y r t d)
    let s := ({ s with sec := { s.sec with challenge := none } } : State).secTrigger 5
    if ok then ((s.flag Fl.SEC_STATUS_JTAG_OPEN true).eraseSession).logEv Ev.JTAG_OPEN else s

/-- Triggers held while the security unit was parked are graded as it reopens (R429). -/
def secReopened (s : State) : State :=
  let q := s.sec.quietTriggers
  (({ s with sec := { s.sec with quietTriggers := [] } } : State)).each q (fun s c => s.secTriggerAt c 0)

end State

/-- TAMPER_EVENT (R382): TAMPER_N has been low for 10 µs and stays low for `lowNs` ns more; while the device is not
running the keep-alive latch holds it. -/
def execTamperEvent (dt lowNs : Nat) (s : State) : Host.Outcome State Fault Refusal :=
  actAlways dt (fun s =>
    let s : State := { s with sec := { s.sec with tamperUntil := s.now + lowNs } }
    if s.alive then s.secTrigger 0 else { s with sec := { s.sec with tamperLatch := true } }) s

/-- SUPPLY_GLITCH (R382). -/
def execSupplyGlitch (dt : Nat) (s : State) : Host.Outcome State Fault Refusal := act dt (fun s => s.secTrigger 1) s

/-- TEMPERATURE_GLITCH (R382). -/
def execTemperatureGlitch (dt : Nat) (s : State) : Host.Outcome State Fault Refusal := act dt (fun s => s.secTrigger 2) s

/-- KERB_OSC_ANOMALY (R382). -/
def execKerbOscAnomaly (dt : Nat) (s : State) : Host.Outcome State Fault Refusal := act dt (fun s => s.secTrigger 3) s

/-- ERASE_SESSION (R384). -/
def execEraseSession (dt : Nat) (priv : Bool) (s : State) : Host.Outcome State Fault Refusal :=
  act dt (fun s => s.hostCmd Rw.SEC_CMD Reg.SEC_CMD priv 1 State.hostEraseSession) s

/-- ERASE_ALL (R384). -/
def execEraseAll (dt : Nat) (priv : Bool) (s : State) : Host.Outcome State Fault Refusal :=
  act dt (fun s => s.hostCmd Rw.SEC_CMD Reg.SEC_CMD priv 2 State.hostEraseAll) s

/-- SEC_ERASE (R384). -/
def execSecErase (dt : Nat) (s : State) : Host.Outcome State Fault Refusal := act dt State.eraseAllDone s

/-- LOAD_KEK (R389). -/
def execLoadKek (dt : Nat) (priv : Bool) (s : State) : Host.Outcome State Fault Refusal :=
  act dt (fun s => s.hostCmd Rw.SEC_CMD Reg.SEC_CMD priv 0x40 State.loadKek) s

/-- LOAD_SKEY (R389). -/
def execLoadSkey (dt slot : Nat) (priv : Bool) (s : State) : Host.Outcome State Fault Refusal :=
  act dt (fun s => s.hostCmd Rw.SEC_CMD Reg.SEC_CMD priv (slot % 4 * 256 + 4) (fun s => s.loadSkey (slot % 4))) s

/-- EXPORT (R390). -/
def execExport (dt slot : Nat) (rngOk priv : Bool) (s : State) : Host.Outcome State Fault Refusal :=
  act dt (fun s => s.hostCmd Rw.SEC_CMD Reg.SEC_CMD priv (slot % 4 * 256 + 32)
    (fun s => s.exportRecords (slot % 4) rngOk)) s

/-- SEC_EXPORT_DATA_READ (R390, R415): privileged. -/
def execSecExportDataRead (dt : Nat) (priv : Bool) (s : State) : Host.Outcome State Fault Refusal :=
  act dt (fun s =>
    if !priv then (s.privRefused Reg.SEC_EXPORT_DATA).reply 0
    else if s.hostClosed Reg.SEC_EXPORT_DATA then (s.privUsed.closedAccess Reg.SEC_EXPORT_DATA).reply 0
    else s.privUsed.exportRead) s

/-- GEN_DIK (R391). -/
def execGenDik (dt : Nat) (rngOk priv : Bool) (s : State) : Host.Outcome State Fault Refusal :=
  act dt (fun s => s.hostCmd Rw.SEC_CMD Reg.SEC_CMD priv 16 (fun s => s.genDik rngOk)) s

/-- ATTEST (R391). -/
def execAttest (dt : Nat) (rngOk priv : Bool) (s : State) : Host.Outcome State Fault Refusal :=
  act dt (fun s => s.hostCmd Rw.SEC_CMD Reg.SEC_CMD priv 8 (fun s => s.attestStart rngOk)) s

/-- ATTEST_DONE (R391). -/
def execAttestDone (dt : Nat) (s : State) : Host.Outcome State Fault Refusal := act dt State.attestDone s

/-- SEC_ALARM_CLR (R383). -/
def execSecAlarmClr (dt : Nat) (w : Word) (priv : Bool) (s : State) : Host.Outcome State Fault Refusal :=
  act dt (fun s => s.hostCmd Rw.SEC_ALARM_CLR Reg.SEC_ALARM_CLR priv w.toNat (fun s => s.alarmClr w.toNat)) s

/-- CHALLENGE (R387). -/
def execChallenge (dt : Nat) (s : State) : Host.Outcome State Fault Refusal := act dt State.jtagChallenge s

/-- UNLOCK (R387, R388). -/
def execUnlock (dt r sig : Nat) (s : State) : Host.Outcome State Fault Refusal := act dt (fun s => s.jtagUnlock r sig) s

end Sys2Proof.Machine
end

