-- ==== Sys2Proof/Machine/Ring.lean ====
section
/-! DEFINITION. Machine/Ring.lean: the ring controller (R295 to R322): frames as byte strings from the first byte after
the EtherType, the train, the copies and the first-valid rule, the ring image, joining, leaving, breaks, management. -/

namespace Sys2Proof.Machine

/-! ### Frames -/

/-- The 16-byte Enrum header (R305). -/
def enrumHeader (ty src dst cycle index flags hops len : Nat) : Bytes :=
  [1, ty] ++ toBE 2 src ++ toBE 2 dst ++ toBE 4 cycle ++ [index % 256, flags % 256] ++ toBE 2 hops ++ toBE 2 len

/-- A node bit map of 32 bytes, bit n of byte n/8 (R306). -/
def nodeBits (ns : List Nat) : Bytes :=
  (List.range 32).map (fun i => ((List.range 8).filter (fun b => ns.contains (8 * i + b))).foldl (fun a b => a + 2 ^ b) 0)

/-- The image's COLLECT slot list as (address, SLEN) (R367). -/
def slotList (s : State) : List (Nat × Nat) :=
  let b := sectionOf s 8
  (List.range (beAt b 16 2)).map (fun i => (beAt b (20 + 4 * i) 2, beAt b (22 + 4 * i) 2))

namespace State

/-- The command ring cycle within a pace: the first boundary at or after D_A + 150 µs; an index equal to the cycles of
a pace is cycle 0 of the next pace (R34, R35). -/
def cmdCycle (s : State) : Nat :=
  ((deadlineUs s + 150) * 1000 + s.cycleNs - 1) / s.cycleNs

/-! ### The train -/

/-- SYNC as the master sends it (R306). -/
def syncFrame (s : State) (r : Nat) (cmd : Bool) : Bytes :=
  let x := s.side r
  let ev := (if x.leaveNode.isSome then 2 else 0) + (if x.insertHeard then 1 else 0)
  enrumHeader 1 s.address s.address (s.rd Reg.RING_CYCLE) 0 (if r = 1 then 4 + 8 else 8) 512 72 ++
    toBE 2 s.address ++ toBE 4 (s.rd Reg.RED_EPOCH) ++ toBE 4 s.cyc.pace ++
    [s.cyc.sub, s.cyc.leg, s.cyc.stage, s.get Fl.RING_CFG_CYCLE + (if cmd then 4 else 0)] ++
    stampBytes s.clk ++ toBE 4 0 ++ toBE 2 s.ring.ownWin.1 ++ toBE 2 s.ring.ownWin.2 ++
    [ev, 0] ++ toBE 2 (x.leaveNode.getD 0) ++ [s.get Fl.TIM_STATUS_QUALITY, 0, 0, 0] ++ nodeBits x.filled

/-- The device's own NSTATE (R308). -/
def ownNstate (s : State) (r : Nat) : Nat :=
  (if s.power = 2 ∨ s.power = 3 then 1 else 0) + (if s.role = 4 then 2 else 0) +
    (if s.is (Fl.RING_PORT_STATUS_LOOPING (2 * r)) || s.is (Fl.RING_PORT_STATUS_LOOPING (2 * r + 1)) then 4 else 0) +
    (if s.leaving r then 8 else 0)

/-- The device's own slot, filled with its stop telegrams (R308, R287). -/
def ownSlot (s : State) (r slen : Nat) : Bytes :=
  let t := s.ownSafe
  let b := toBE 2 s.address ++ toBE 2 slen ++ [1, s.ownNstate r, 0, t.length] ++ toBE 4 0 ++ t.flatten
  (b ++ List.replicate (slen - b.length) 0).take (max slen 12)

/-- Slots packed in order into frames within the 1,518 bytes of an Ethernet frame (R295, R303). -/
def packSlots : List Bytes → Bytes → List Bytes
  | [], cur => if cur.isEmpty then [] else [cur]
  | b :: l, cur => if cur.isEmpty || cur.length + b.length ≤ 1484 then packSlots l (cur ++ b) else cur :: packSlots l b

/-- The bodies of the COLLECT frames as the master sends them: every slot empty but its own (R303, R308). -/
def collectBodies (s : State) (r : Nat) : List Bytes :=
  packSlots ((slotList s).map (fun (a, n) =>
    if a = s.address then s.ownSlot r n else toBE 2 a ++ toBE 2 n ++ List.replicate (n - 4) 0)) []

/-- P_MAX (R315). -/
def pageMax (s : State) : Nat := match s.get Fl.RING_CFG_CYCLE with | 0 => 20 | 1 => 40 | _ => 64

/-- The pages of a cycle in the order of R315, and where the refresh rotation stops: those not sent in the last 15 cycles, the
dirty ones oldest first, then the rotation. -/
def pagesToSend (s : State) : List Nat × Nat :=
  let cyc := s.rd Reg.RING_CYCLE
  let old := (List.range 256).filter (fun p =>
    match aGet s.ring.lastSent p with | none => true | some c => 15 ≤ (cyc + 2 ^ 32 - c) % 2 ^ 32)
  let head := ((old ++ s.ring.dirty).eraseDups).take s.pageMax
  let rot := (((List.range 256).map (fun i => (s.ring.rotor + i) % 256)).filter (fun p => !head.contains p)).take (s.pageMax - head.length)
  (head ++ rot, match rot.getLast? with | some p => (p + 1) % 256 | none => s.ring.rotor)

/-- The body of a page's IMAGE frame (R309); a page that nothing has written is zeros of epoch 0 (DESIGN CHOICE, log entry
101). -/
def imageBody (s : State) (p : Nat) : Bytes :=
  let pg := aGetD s.ring.pages p ⟨0, List.replicate 256 0⟩
  [p, if s.ring.dirty.contains p then 1 else 0, 0, 0] ++ toBE 4 pg.epoch ++ pg.data

/-- The frame train of one ring, every frame with its position as INDEX (R303, R305, R307). -/
def trainOf (s : State) (r : Nat) (cmd : Option Bytes) (pages : List Nat) : List Bytes :=
  let bodies := (match cmd with | some b => [(2, b)] | none => []) ++ (s.collectBodies r).map (fun b => (3, b)) ++
    pages.map (fun p => (4, s.imageBody p))
  s.syncFrame r cmd.isSome :: (List.range bodies.length).map (fun i =>
    let x := bodies.getD i (3, [])
    enrumHeader x.1 s.address s.address (s.rd Reg.RING_CYCLE) (i + 1) (if r = 1 then 12 else 8) 512 x.2.length ++ x.2)

/-- TRAIN_SEND (R300, R303): the cycle master sends its train out of both ports of each ring it masters; commands leave in their ring cycle
(R34, R35), and those of a takeover in its first train (R340). -/
def sendTrain (s : State) (first : Bool) : State :=
  let rs := (List.range 2).filter s.sendsTrain
  if rs.isEmpty then s else
    let due := s.cyc.sub == s.cmdCycle % s.cyclesPerPace
    let cmd := if due then (match s.ring.cmdOut with | some b => some b | none => if s.red.heldCmds.isEmpty then none else some s.red.heldCmds)
      else if (first || s.red.sendNow) && !s.red.heldCmds.isEmpty then some s.red.heldCmds else none
    let (pages, rotor) := s.pagesToSend
    let cyc := s.rd Reg.RING_CYCLE
    { s with ring := { s.ring with
        sent := rs.flatMap (fun r => (s.trainOf r cmd pages).flatMap (s.bothPorts r))
        cmdOut := if due then none else s.ring.cmdOut
        dirty := s.ring.dirty.filter (fun p => !pages.contains p)
        lastSent := pages.foldl (fun l p => aSet l p cyc) s.ring.lastSent
        rotor := rotor } }

/-! ### Ring cycle boundary -/

/-- The sensor streams and safety telegrams of the ended cycle, in their order of arrival (R42): a stream record is accepted
only from the node named in its stream's SOURCE (R308). -/
def commitRecords (s : State) : State :=
  let l := s.ring.ins
  let s : State := { s with ring := { s.ring with ins := [] } }
  s.each l (fun s x =>
    if x.telegram then s.safetyTelegram x.node x.bytes
    else match stampAt x.bytes 2 with
      | none => s
      | some t => s.streamRecord x.node (byteAt x.bytes 0) t (beAt x.bytes 12 4))

/-- INPUT_BUFFER_COMMIT (R42, R313): the slots of the ended cycle go into the pace input buffers. -/
def commitInputs (s : State) : State :=
  { s with ring := { s.ring with
      fbIn := s.ring.slots.foldl (fun l e => aSet l e.1 e.2) s.ring.fbIn
      slots := [] } }

/-- The device takes part in a ring: joined, or mastering it. -/
def onRing (s : State) (r : Nat) : Bool := s.isMaster r || s.ringState r == 2 || s.ringState r == 3 || s.ringState r == 4

/-- Presence of the listed nodes over the ended cycle, RING_NODES, and NODE_LEAVE after 3 cycles (R306, R313, R320); a Junction's
list is of its ring A alone (R322). -/
def nodePresence (s : State) : State :=
  if !s.onRing 0 && !s.onRing 1 then s else
  let s := s.each (slotList s) (fun s (a, _) =>
    let n := a % 256
    let pa := s.ring.a.filled.contains n
    let pb := s.ring.b.filled.contains n
    let s := (s.flag (Fl.RING_NODE_STATUS_PRESENT_A n) pa).flag (Fl.RING_NODE_STATUS_PRESENT_B n) pb
    if pa || (pb && !s.upstream 1) || a == s.address then { s with ring := { s.ring with misses := aDel s.ring.misses a } }
    else
      let s := if s.get (Fl.RING_NODE_STATUS_MISSES n) = 0xFFFF then s.flag (Fl.RING_NODE_STATUS_OVF n) true
        else s.put (Fl.RING_NODE_STATUS_MISSES n) (s.get (Fl.RING_NODE_STATUS_MISSES n) + 1)
      let m := aGetD s.ring.misses a 0 + 1
      let s : State := { s with ring := { s.ring with misses := aSet s.ring.misses a m } }
      if m = 3 && !s.ring.absent.contains a then
        ({ s with ring := { s.ring with absent := s.ring.absent ++ [a] } } : State).logEv Ev.NODE_LEAVE n
      else s)
  let w (l : List Nat) (i : Nat) : Nat := ((List.range 32).filter (fun b => l.contains (32 * i + b))).foldl (fun x b => x + 2 ^ b) 0
  s.each (List.range 8) (fun s i =>
    (s.wr (Reg.RING_NODES_A i) (w s.ring.a.filled i)).wr (Reg.RING_NODES_B i) (w s.ring.b.filled i))

/-- RING_BREAK (R321): logged with the ring and up to four nodes that report LOOPING, counted, raised. -/
def ringBreak (s : State) (r : Nat) : State :=
  if s.ringState r = 4 then s else
    let l := (s.side r).looping
    let s := s.setSide r { s.side r with good := 0 }
    (((s.put (ringFld r) 4).logEv Ev.RING_BREAK r (d8 (l.getD 0 0) (l.getD 1 0) (l.getD 2 0) (l.getD 3 0))).count
      Reg.RING_BREAKS).irq 13

/-- The master's judgement of a ring over the ended cycle (R321): a ring still INSERTING is not judged, it enters WHOLE when
the master's own slot returns (R319 step 5; DEDUCED, log entry 51). -/
def judgeRing (s : State) (r : Nat) : State :=
  let x := s.side r
  if !s.sendsTrain r || !(s.ringState r == 3 || s.ringState r == 4) then
    s.setSide r { x with lost0 := 0, lost1 := 0, good := 0 }
  else
    let ok := x.back0 && x.back1
    let y : RingSide := { x with
      lost0 := if x.back0 then 0 else x.lost0 + 1
      lost1 := if x.back1 then 0 else x.lost1 + 1
      good := if ok then x.good + 1 else 0 }
    let s := s.setSide r y
    if 3 ≤ y.lost0 || 3 ≤ y.lost1 then s.ringBreak r
    else if 3 ≤ y.good && s.ringState r == 4 then ((s.put (ringFld r) 3).logEv Ev.RING_HEAL r).irq 13
    else s

/-- INSERT_NEXT: on one ring, when a listed node is absent from it, the other ring is WHOLE, and no insertion has been
announced in the last second (R319). -/
def insertNext (s : State) (r : Nat) : State :=
  let absentHere := (slotList s).any (fun (a, _) => a != s.address && !(s.side r).filled.contains (a % 256))
  let quiet := match s.ring.insertAt with | none => true | some t => decide (10 ^ 9 ≤ s.now - t)
  if s.sendsTrain r && absentHere && s.ringState (1 - r) == 3 && quiet then
    { s.setSide r { s.side r with insertHeard := true } with
      ring := { (s.setSide r { s.side r with insertHeard := true }).ring with insertAt := some s.now } }
  else s

/-- What a device does with its own holds at a boundary: a ready device that received INSERT_NEXT raises its hold and
enters INSERTING (R319); one named by LEAVE_NEXT drops it (R320); a new cycle master raises the hold of a ring that is OUT
or LISTEN (R300). -/
def holdAtBoundary (s : State) (r : Nat) : State :=
  let x := s.side r
  if x.leaveHeard then s.ringOut r
  else if s.ringState r < 2 && !s.leaving r && !s.released r &&
      (s.sendsTrain r || (!s.isMaster r && x.insertHeard && s.ringState r == 1)) then s.ringInsert r
  else s

/-- The per-cycle memory of the ring sides is cleared for the next cycle: a SYNC missed ends the run of valid ones (R319); a cycle
master has filled its own slot in the train it has just sent (R303, R306), and drops its hold at the next boundary where that
train's LEAVE_NEXT named it (R320). -/
def freshCycle (s : State) : State :=
  let own (r : Nat) : List Nat :=
    if s.sendsTrain r && (slotList s).any (fun e => e.1 == s.address) then [s.address % 256] else []
  let f (r : Nat) (x : RingSide) : RingSide :=
    { x with filled := own r, looping := [], back0 := false, back1 := false, ignored := false, heard := false
             syncRun := if x.heard then x.syncRun else 0, insertHeard := false, leaveNode := none
             leaveHeard := s.sendsTrain r && x.leaveNode == some s.address && s.leaving r }
  { s with ring := { s.ring with a := f 0 s.ring.a, b := f 1 s.ring.b, got := [] } }

/-- A node stops looping back at the first boundary at which its outgoing link is in service (R321). -/
def endLooping (s : State) : State :=
  s.each (List.range 4) (fun s q =>
    if s.is (Fl.RING_PORT_STATUS_LINK (q ^^^ 1)) then s.flag (Fl.RING_PORT_STATUS_LOOPING q) false else s)

/-- A ring-cycle boundary (R301): the ended cycle is committed and judged, the next begins, the master sends its train. -/
def ringCycleBoundary (s : State) : State :=
  let s := (s.commitInputs.nodePresence.judgeRing 0).judgeRing 1
  let first := s.red.detectAt.isSome && decide (125000 ≤ s.now - s.red.detectAt.getD 0) && s.role == 3 && !s.ring.trainOn
  let s : State := if first then { s with ring := { s.ring with trainOn := true } } else s
  let s : State := { s with
    cyc := { s.cyc with sub := (s.cyc.sub + 1) % s.cyclesPerPace }
    ring := { s.ring with noSync := s.ring.noSync + 1, sent := [] }
    red := { s.red with waitCycles := s.red.waitCycles + 1 } }
  let s := s.wr Reg.RING_CYCLE (s.rd Reg.RING_CYCLE + 1)
  let s := ((s.endLooping).holdAtBoundary 0).holdAtBoundary 1
  let s := if s.isMaster 0 || s.isMaster 1 then s.flag Fl.RING_STATUS_SYNC_LOST false else s
  let s := s.insertNext 0
  let s := if (s.side 0).insertHeard && s.sendsTrain 0 then s else s.insertNext 1
  let s := s.stopTelegrams
  let s := s.sendTrain first
  let s : State := if s.red.sendNow then { s with red := { s.red with sendNow := false, heldCmds := [] } } else s
  let s : State := if s.red.exchStopped then { s with ring := { s.ring with trainOn := false } } else s
  let s := if first then
      let t := s.now - s.red.detectAt.getD 0
      let off := s.cmdCycle * s.cycleNs
      let due := s.cyc.boundaryAt + off
      let due := if due > s.red.failAt then (if due ≥ s.red.failAt + 1000000 then due - 1000000 else due) else due + 1000000
      ({ s with red := { s.red with detectAt := none, takenPace := s.cyc.pace } } : State).wr Reg.RED_LAST_TO
        (min 0xFFFF ((s.now - due + 500) / 1000) * 2 ^ 16 + min 0xFFFF ((t + 500) / 1000))
    else s
  s.freshCycle.masterPublish

/-! ### Received frames -/

/-- A received frame's way on (R311, R312): with HOPS lowered out of the opposite port, or back out of the port it came from,
marked LOOPED, where the opposite port has no link in service or the device still loops back (R321); a frame whose FCS was bad
leaves with its FCS inverted. -/
def forward (s : State) (q : Nat) (f : Bytes) (fcsOk : Bool) : State :=
  if !(s.ringState (q / 2) == 2 || s.ringState (q / 2) == 3 || s.ringState (q / 2) == 4) then s else
    let f := spliceBytes f 12 (toBE 2 (beAt f 12 2 - 1))
    let looped := !s.is (Fl.RING_PORT_STATUS_LINK (q ^^^ 1)) || s.is (Fl.RING_PORT_STATUS_LOOPING q)
    let f := if looped then spliceBytes f 11 [byteAt f 11 ||| 2] else f
    let x : TxFrame := ⟨if looped then q else q ^^^ 1, s.onWire f, fcsOk⟩
    ({ s with ring := { s.ring with sent := s.ring.sent ++ [x] } } : State).flag (Fl.RING_PORT_STATUS_LOOPING q) looped

/-- A frame comes off the ring at its originator, at the cycle master, and at its destination unless it is marked ALL (R311). -/
def takesOff (s : State) (r : Nat) (f : Bytes) : Bool :=
  beAt f 2 2 == s.address || s.isMaster r || (beAt f 4 2 == s.address && !(byteAt f 11).testBit 3)

/-- The common handling of an Enrum frame that reaches a port: one of a wrong length, version or type is foreign (R295, R297); a
bad FCS is counted and the frame not used (R311, R313); one whose HOPS runs out is discarded and counted; one that R311 takes off
the ring goes no further; otherwise `on` is what forwarding makes of its bytes. `use` is what the device takes from it. -/
def takeFrame (s : State) (x : RxFrame) (ty : Nat) (on : State → Bytes → State × Bytes) (use : State → Bytes → State) : State :=
  let f := bytesNat x.bytes
  let s : State := { s with ring := { s.ring with sent := [] } }
  if s.ringState (x.port / 2) = 5 || !s.carries x.port then s
  else
    let s := if x.fcsOk then s else s.count (Reg.RING_PORT_FCS_ERR x.port)
    if f.length < 46 || 1500 < f.length || byteAt f 0 != 1 || byteAt f 1 != ty || f.length < 16 + beAt f 14 2 then
      (if x.fcsOk then s.count (Reg.RING_PORT_FOREIGN x.port) else s)
    else
      let own := s.takesOff (x.port / 2) f
      if !own && beAt f 12 2 ≤ 1 then s.count (Reg.RING_PORT_HOPS_EXPIRED x.port)
      else
        let s := if x.fcsOk then use s f else s
        if own then s else
          let (s, f) := on s f
          s.forward x.port f x.fcsOk

/-- A frame of an ended cycle is late (R313). -/
def isLate (s : State) (f : Bytes) : Bool := after32 (s.rd Reg.RING_CYCLE) (beAt f 6 4)

/-- A copy of the receiver's present cycle (R313); a late one is counted at its port. -/
def inCycle (s : State) (q : Nat) (f : Bytes) (use : State → State) : State :=
  if s.isLate f then s.count (Reg.RING_PORT_LATE q)
  else if beAt f 6 4 != s.rd Reg.RING_CYCLE then s
  else use s

/-- The first-valid rule: an item of this cycle not yet taken (R313). -/
def firstOf (s : State) (kind n : Nat) : Bool := !s.ring.got.contains (kind, n)
/-- An item is taken. -/
def took (s : State) (kind n : Nat) : State := { s with ring := { s.ring with got := s.ring.got ++ [(kind, n)] } }

/-- Boundaries of the device's own ring-cycle timer that lie after b, past the ±200 ns within which its boundary is b's own
(R302; DEDUCED, log entry 67). -/
def cyclesAfter (s : State) (b : Nat) : Nat :=
  if s.ring.boundAt ≤ b + 200 then 0 else (s.ring.boundAt - b - 201) / max 1 s.cycleNs + 1

/-- What a SYNC says of the cycle whose boundary is b, advanced by the own boundaries after b, names the device's present
cycle, pace and phases (R302, R470). -/
def adoptCycle (s : State) (b sub pace leg stage : Nat) : State :=
  let k := sub + s.cyclesAfter b
  let n := k / max 1 s.cyclesPerPace
  let legs := (leg + n) / max 1 s.legPaces
  ({ s with cyc := { s.cyc with sub := k % max 1 s.cyclesPerPace } } : State).adoptPace ((pace + n) % 2 ^ 32)
    ((leg + n) % max 1 s.legPaces) ((stage + legs) % max 1 s.stageLegs)

/-- A valid SYNC's values: the boundary b in real time, the window, and, advanced by the own boundaries after b, the cycle count
and in RUN the pace and phases (R302, R306, R470). -/
def takeSync (s : State) (f : Bytes) (b : Nat) : State :=
  let s : State := { s with ring := { s.ring with noSync := 0, lastSyncNow := some s.now, bAt := b, win := (beAt f 44 2, beAt f 46 2) } }
  let s := ((s.wr Reg.RING_CYCLE (beAt f 6 4 + s.cyclesAfter b)).put Fl.RING_STATUS_OWNER (beAt f 16 2)).flag Fl.RING_STATUS_SYNC_LOST false
  let s := if s.inRun && (s.role = 1 || s.role = 2) then
      s.adoptCycle b (byteAt f 26) (beAt f 22 4) (byteAt f 27) (byteAt f 28)
    else s
  if s.role = 1 && !s.red.heardOwner then
    let s : State := { s with red := { s.red with heardOwner := true } }
    if s.hasPartner && beAt f 16 2 == s.partner then { s with red := { s.red with resyncFrom := some s.now } }
    else s.ringStandby
  else s

/-- A SYNC heard on one ring in this cycle: the run of valid SYNCs with the boundary within ±100 ns of b, what its EVENT asks of
this device, and the own bit of NODES, which brings an INSERTING ring to WHOLE (R319, R320; DEDUCED, log entry 51). -/
def heardSync (s : State) (r : Nat) (f : Bytes) (b : Nat) : State :=
  let x := s.side r
  let near := decide (((b : Int) - s.ring.boundAt).natAbs ≤ 100)
  let run := if x.heard then x.syncRun else if near then x.syncRun + 1 else 0
  let s := s.setSide r { x with
    heard := true
    syncRun := run
    insertHeard := x.insertHeard || ((byteAt f 48).testBit 0 && 16 ≤ run)
    leaveHeard := x.leaveHeard || ((byteAt f 48).testBit 1 && beAt f 50 2 == s.address && s.leaving r) }
  let own := s.address % 256
  if s.ringState r = 2 && (byteAt f (56 + own / 8)).testBit (own % 8) then s.put (ringFld r) 3 else s

/-- A device's use of a SYNC (R302, R306, R319, R331, R343, R344, R470): the master's own train returning is judged under R321; a
Junction follows ring A alone (R322). -/
def useSync (s : State) (q : Nat) (f : Bytes) : State :=
  let r := q / 2
  let x := s.side r
  if beAt f 2 2 == s.address then
    let dir := byteAt f 11 % 2
    if (byteAt f 11).testBit 1 || dir == q % 2 then s
    else s.setSide r (if dir == 0 then { x with back0 := true } else { x with back1 := true })
  else if s.upstream r then s.heardSync r f (s.now - (beAt f 40 4 + s.linkDelay q))
  else
    let (counts, s) := s.hearPair (beAt f 18 4) (beAt f 16 2)
    if !counts then s.setSide r { s.side r with ignored := true }
    else if s.following && s.isLate f then s.count (Reg.RING_PORT_LATE q)
    else if s.following && beAt f 6 4 != s.rd Reg.RING_CYCLE then s
    else
      let s := (stampAt f 30).elim (s.count (Reg.RING_PORT_BAD_STAMP q)) (fun _ => s)
      let b := s.now - (beAt f 40 4 + s.linkDelay q)
      let s := s.heardSync r f b
      if s.firstOf 1 0 then (s.took 1 0).takeSync f b else s

/-- A device's use of a COMMAND frame: what it forwards it remembers, from the owner only (R307, R343, R352). -/
def useCommand (s : State) (q : Nat) (f : Bytes) : State :=
  if beAt f 2 2 == s.address || beAt f 2 2 != s.rd Reg.RED_OWNER || (s.side (q / 2)).ignored || s.upstream (q / 2) then s
  else s.inCycle q f (fun s =>
    if s.firstOf 2 0 then
      let s := s.took 2 0
      { s with ring := { s.ring with lastCmds := (f.drop 16).take (beAt f 14 2) } }
    else s)

/-- A record that waits for the end of the ring cycle (R42). -/
def ringIn (s : State) (x : RingIn) : State := { s with ring := { s.ring with ins := s.ring.ins ++ [x] } }

/-- One stream record (R308): a refused time-stamp counts; the others wait for the end of the ring cycle (R42). -/
def useStream (s : State) (q node : Nat) (rec16 : Bytes) : State :=
  if byteAt rec16 0 = 0xFF then s
  else match stampAt rec16 2 with
    | none => (s.count (Reg.RING_PORT_BAD_STAMP q)).streamBadStamp node (byteAt rec16 0)
    | some _ => s.ringIn ⟨false, q, node, rec16⟩

/-- The stream records of a slot's remaining bytes, `n` of them. -/
def useStreams (q node : Nat) : Nat → State → Bytes → State
  | 0, s, _ => s
  | n + 1, s, b => useStreams q node n (s.useStream q node (b.take 16)) (b.drop 16)

/-- The safety telegrams of a slot, `n` of them (R284, R313). -/
def useTelegrams (q node : Nat) : Nat → State → Bytes → State
  | 0, s, _ => s
  | n + 1, s, b => useTelegrams q node n (s.ringIn ⟨true, q, node, b.take 28⟩) (b.drop 28)

/-- One slot of a COLLECT frame (R308, R313, R319, R320); of the upstream segment a Junction takes no feedback, telegram or stream
(R322). -/
def useSlot (s : State) (q : Nat) (slot : Bytes) : State :=
  let r := q / 2
  let a := beAt slot 0 2
  let n := a % 256
  if byteAt slot 4 != 1 then s else
    let x := s.side r
    let s := s.setSide r { x with
      filled := if x.filled.contains n then x.filled else x.filled ++ [n]
      looping := if (byteAt slot 5).testBit 2 && !x.looping.contains n then x.looping ++ [n] else x.looping
      leaveNode := if (byteAt slot 5).testBit 3 then some a else x.leaveNode }
    if a == s.address then (if s.ringState r = 2 then s.put (ringFld r) 3 else s)
    else if s.upstream r then s
    else
      let s := if s.ring.absent.contains a then
          ({ s with ring := { s.ring with absent := s.ring.absent.erase a, misses := aDel s.ring.misses a } } : State).logEv
            Ev.NODE_JOIN n
        else s
      let nfb := byteAt slot 6
      let ns := byteAt slot 7
      let s := useTelegrams q a ns s (slot.drop (12 + 4 * nfb))
      if s.firstOf 3 a then
        let s := s.took 3 a
        let sl : Slot := ⟨byteAt slot 5, beAt slot 8 4, (List.range nfb).map (fun i => beAt slot (12 + 4 * i) 4)⟩
        let s : State := { s with ring := { s.ring with slots := aSet s.ring.slots a sl } }
        let rest := slot.drop (12 + 4 * nfb + 28 * ns)
        useStreams q a (rest.length / 16) s rest
      else s

/-- The slots of a COLLECT frame, at most `n`. -/
def useSlots (q : Nat) : Nat → State → Bytes → State
  | 0, s, _ => s
  | n + 1, s, b =>
    let len := max 12 (beAt b 2 2)
    if b.length < 12 then s else useSlots q n (s.useSlot q (b.take len)) (b.drop len)

/-- A device's use of a COLLECT frame (R308). -/
def useCollect (s : State) (q : Nat) (f : Bytes) : State :=
  if (s.side (q / 2)).ignored then s
  else if s.upstream (q / 2) then useSlots q 254 s ((f.drop 16).take (beAt f 14 2))
  else s.inCycle q f (fun s => useSlots q 254 s ((f.drop 16).take (beAt f 14 2)))

/-- The device writes its own slot while FILLED is 0 (R311, item 3). -/
def fillOwn (s : State) (r : Nat) : Nat → Bytes → Bytes
  | 0, b => b
  | n + 1, b =>
    let len := max 12 (beAt b 2 2)
    if b.length < 12 then b
    else if beAt b 0 2 == s.address && byteAt b 4 == 0 then s.ownSlot r len ++ b.drop len
    else b.take len ++ fillOwn s r n (b.drop len)

/-- The device writes its own slot into a COLLECT frame it forwards, and has then filled it (R306, R311). -/
def fillFrame (s : State) (r : Nat) (f : Bytes) : State × Bytes :=
  let len := beAt f 14 2
  let g := f.take 16 ++ s.fillOwn r 254 ((f.drop 16).take len) ++ f.drop (16 + len)
  let x := s.side r
  let own := s.address % 256
  (if g == f || s.ringState r < 2 || s.ringState r == 5 || x.filled.contains own then s
    else s.setSide r { x with filled := x.filled ++ [own] }, g)

/-- A device's use of an IMAGE frame: stored when it holds no copy or the page's epoch is after the stored one (R314). -/
def useImage (s : State) (q : Nat) (f : Bytes) : State :=
  if (s.side (q / 2)).ignored || beAt f 2 2 == s.address || s.upstream (q / 2) then s
  else s.inCycle q f (fun s =>
    let p := byteAt f 16
    let e := beAt f 20 4
    let newer := match aGet s.ring.pages p with | none => true | some pg => after32 e pg.epoch
    if newer then
      let s : State := { s with ring := { s.ring with pages := aSet s.ring.pages p ⟨e, (f.drop 24).take 256⟩ } }
      s.when (p == 0x33) State.originFromPage
    else s)

/-- The receive mailbox's registers show its oldest message (R310). -/
def mailPublish (s : State) : State :=
  match s.ring.mail with
  | [] => (s.wr Reg.RING_MGMT_RX_STATUS 0).wr Reg.RING_MGMT_RX_HDR 0
  | m :: _ =>
    let s := (s.wr Reg.RING_MGMT_RX_STATUS (2 ^ 31 + m.body.length % 2 ^ 11 * 2 ^ 16 + m.tag % 2 ^ 16)).wr Reg.RING_MGMT_RX_HDR
      (m.src * 2 ^ 16 + m.msg * 256 + m.ring)
    s.each (List.range (min 256 ((m.body.length + 3) / 4))) (fun s i =>
      s.wr (Reg.RING_MGMT_RXBUF i) (beNat (((m.body.drop (4 * i)).take 4).reverse)))

/-- A message into the host mailbox; the ninth is lost and counted (R310, R424). -/
def mailIn (s : State) (m : MgmtMsg) : State :=
  if 8 ≤ s.ring.mail.length then s.count Reg.RING_MGMT_LOST
  else (({ s with ring := { s.ring with mail := s.ring.mail ++ [m] } } : State).mailPublish).irq 12

/-- A message of the device's own queued for the window. -/
def mailOut (s : State) (m : MgmtMsg) : State := { s with ring := { s.ring with txq := s.ring.txq ++ [m] } }

/-- How the device handles a management message addressed to it (R310). -/
def handleMgmt (s : State) (m : MgmtMsg) : State :=
  match m.msg with
  | 1 =>
    let caps := 1 + (if s.is Fl.RING_CFG_JUNCTION then 2 else 0) + (if s.is Fl.TIM_PTP_CFG_TC_EN then 4 else 0)
    s.mailOut ⟨m.src, 2, m.ring, m.tag, toBE 2 0x0E51 ++ toBE 2 0x6400 ++ toBE 2 0x00B0 ++ toBE 2 s.address ++
      toBE 8 Config.dieId ++ toBE 2 caps⟩
  | 3 => s.mailOut { m with msg := 5, body := m.body.take 2 ++ [2, 0] ++ toBE 4 0 }
  | 4 => s.mailOut { m with msg := 5, body := m.body.take 2 ++ [2, 0] ++ toBE 4 0 }
  | 7 => s.rtcmRing ((m.body.drop 2).take (beAt m.body 0 2))
  | 6 => (s.logEv Ev.RING_NODE_ALARM (m.src % 256) (beAt m.body 2 4)).mailIn m
  | _ => s.mailIn m

/-- The segments listed as lying below a Junction (R367). -/
def below (s : State) : List Nat :=
  let b := sectionOf s 8
  (b.drop (20 + 4 * beAt b 16 2)).take (byteAt b 15)

/-- A device's use of a MGMT frame: taken when addressed to it, relayed by a Junction to its other ring (R310, R322). -/
def useMgmt (s : State) (q : Nat) (f : Bytes) : State :=
  let r := q / 2
  let dst := beAt f 4 2
  let all := (byteAt f 11).testBit 3
  let mine := dst == s.address || (all && dst / 256 == s.address / 256)
  let m : MgmtMsg := ⟨beAt f 2 2, byteAt f 16, r, beAt f 18 2, (f.drop 20).take (min 1024 (beAt f 14 2 - 4))⟩
  let s := if beAt f 2 2 == s.address then s
    else if mine && s.firstOf 5 (beAt f 2 2 * 2 ^ 16 + beAt f 18 2) then
      (s.took 5 (beAt f 2 2 * 2 ^ 16 + beAt f 18 2)).handleMgmt m
    else s
  let relay := s.is Fl.RING_CFG_JUNCTION &&
    (if r = 0 then dst / 256 != s.address / 256 else dst / 256 == s.address / 256 || s.below.contains (dst / 256))
  if relay then { s with ring := { s.ring with sent := s.ring.sent ++ s.bothPorts (1 - r) f } } else s

/-- SYNC's correction field as forwarded: link delay and residence time, which is free and at most 800 ns (R311). -/
def correctSync (s : State) (q : Nat) (f : Bytes) : State × Bytes :=
  let (d, s) := s.draw
  (s, spliceBytes f 40 (toBE 4 (beAt f 40 4 + s.linkDelay q + d % 801)))

/-! ### Links, joining and management of the host -/

/-- The port's link comes into service, or is refused when the partner does not advertise full duplex (R296): only with its bypass
open, once until it drops, and without negotiation 1 ms after the code groups can have synchronised. -/
def linkUp (s : State) (q ability : Nat) : State :=
  if 4 ≤ q || !s.holdOf (q / 2) || s.is (Fl.RING_PORT_STATUS_LINK q) || s.is (Fl.RING_PORT_STATUS_LINK_REFUSED q) then s
  else if s.is Fl.RING_CFG_AN_EN && !ability.testBit 0 then
    (s.flag (Fl.RING_PORT_STATUS_LINK_REFUSED q) true).flag (Fl.RING_PORT_STATUS_PCS_SYNC q) true
  else if !s.is Fl.RING_CFG_AN_EN && s.now < (s.side (q / 2)).upFrom + 1000000 then s
  else
    let s := (s.flag (Fl.RING_PORT_STATUS_LINK q) true).flag (Fl.RING_PORT_STATUS_PCS_SYNC q) true
    s.flag (Fl.RING_PORT_STATUS_AN_DONE q) (s.is Fl.RING_CFG_AN_EN)

/-- The port drops its link, and negotiation may restart; a master's port drop breaks the ring (R296, R321). -/
def linkDown (s : State) (q : Nat) : State :=
  if 4 ≤ q then s else
    let s := ((s.flag (Fl.RING_PORT_STATUS_LINK q) false).flag (Fl.RING_PORT_STATUS_PCS_SYNC q) false).flag
      (Fl.RING_PORT_STATUS_AN_DONE q) false
    let s := (s.flag (Fl.RING_PORT_STATUS_LINK_REFUSED q) false).put (Fl.RING_PORT_STATUS_PDELAY q) 0xFFFF
    let s := s.setSide (q / 2) { s.side (q / 2) with upFrom := s.now }
    if s.isMaster (q / 2) && (s.ringState (q / 2) == 3) then s.ringBreak (q / 2) else s

/-- The Causeway's link, under the same rules (R296, R332). -/
def cwUp (s : State) (ability : Nat) : State :=
  if s.red.cwLink || s.red.cwRefused then s
  else if s.is Fl.RING_CFG_AN_EN && !ability.testBit 0 then { s with red := { s.red with cwRefused := true } }
  else if !s.is Fl.RING_CFG_AN_EN && s.now < s.red.cwFrom + 1000000 then s
  else { s with red := { s.red with cwLink := true } }

/-- The Causeway's link drops (R296). -/
def cwDown (s : State) : State := { s with red := { s.red with cwLink := false, cwRefused := false, cwFrom := s.now } }

/-- LISTEN (R319, item 1). -/
def ringListen (s : State) (r : Nat) : State :=
  if r < 2 && (s.power == 2 || s.power == 3) && s.ringState r == 0 && !s.holdOf r && !s.leaving r && !s.released r then
    (s.put (ringFld r) 1).flag (Fl.RING_PORT_STATUS_PCS_SYNC (2 * r)) true
  else s

/-- Three cycles without a valid SYNC: SYNC_LOST, never at the cycle master (R302). -/
def syncLost (s : State) : State :=
  if s.isMaster 0 || s.isMaster 1 || s.ring.noSync < 3 then s else s.flag Fl.RING_STATUS_SYNC_LOST true

/-- RELEASE: the hold goes low (R318). -/
def ringRelease (s : State) (r : Nat) : State := (s.flag ⟨Reg.RING_CTL, 4 + r, 4 + r⟩ true).ringOut r

/-- LEAVE: the slot asks to leave; a device that is out stays out (R320). -/
def ringLeave (s : State) (r : Nat) : State :=
  let s := s.flag ⟨Reg.RING_CTL, r, r⟩ true
  if s.ringState r = 1 then s.put (ringFld r) 0 else s

/-- A host write of RING_CTL: bits set act, bits clear end RELEASE and LEAVE. -/
def ringCtl (s : State) (w : Nat) : State :=
  let s := s.wr Reg.RING_CTL (w &&& 0x33)
  let s := (s.when (w.testBit 4) (fun s => s.ringRelease 0)).when (w.testBit 5) (fun s => s.ringRelease 1)
  (s.when (w.testBit 0) (fun s => s.ringLeave 0)).when (w.testBit 1) (fun s => s.ringLeave 1)

/-- GO to RING_MGMT_TX_CTL queues a message for the next window (R310). -/
def mgmtSend (s : State) (w : Nat) : State :=
  let s := s.wr Reg.RING_MGMT_TX_CTL (mergeWrite Rw.RING_MGMT_TX_CTL 0 w)
  if !w.testBit 31 then s else
    let len := w / 2 ^ 16 % 2 ^ 11
    let body := (List.range ((len + 3) / 4)).flatMap (fun i => (toBE 4 (s.rd (Reg.RING_MGMT_TXBUF i))).reverse)
    let h := s.rd Reg.RING_MGMT_TX_HDR
    s.mailOut ⟨s.address, h / 256 % 256, 16 + h % 8, w % 2 ^ 16, body.take len⟩

/-- A MGMT frame of the device's own (R305, R310). For a message of the host, `ring` is 16 plus RING and ALL. -/
def mgmtFrame (s : State) (dst : Nat) (m : MgmtMsg) : Bytes :=
  enrumHeader 5 s.address dst (s.rd Reg.RING_CYCLE) 0xFF (if 16 ≤ m.ring && (m.ring - 16) / 4 % 2 = 1 then 8 else 0) 512
    (4 + m.body.length) ++ [m.msg, 0] ++ toBE 2 m.tag ++ m.body

/-- The queued frame goes out in the window if the whole of it fits (R311); GO reads 0 once sent (R310). -/
def mgmtTransmit (s : State) : State :=
  match s.ring.txq with
  | [] => s
  | m :: q =>
    let host := 16 ≤ m.ring
    let rings := if host then (match (m.ring - 16) % 4 with | 0 => [0] | 1 => [1] | _ => [0, 1]) else [m.ring]
    let f := s.mgmtFrame (if host then s.get Fl.RING_MGMT_TX_HDR_DST else m.src) m
    if !s.inWindow f.length then s else
      let s : State := { s with ring := { s.ring with txq := q, sent := rings.flatMap (fun r => s.bothPorts r f) } }
      if host then s.flag Fl.RING_MGMT_TX_CTL_GO false else s

/-- RING_MGMT_RX_POP (R310). -/
def mailPop (s : State) : State := ({ s with ring := { s.ring with mail := s.ring.mail.drop 1 } } : State).mailPublish

end State

/-- LINK_UP (R296): port 0 to 3 of the rings, 4 the Causeway; bit 0 of `ability` is the partner's full-duplex bit. -/
def execLinkUp (dt port ability : Nat) (s : State) : Host.Outcome State Fault Refusal :=
  actUnit (if port = 4 then 17 else 16) dt (fun s => if port = 4 then s.cwUp ability else s.linkUp port ability) s

/-- LINK_DOWN (R296, R321). -/
def execLinkDown (dt port : Nat) (s : State) : Host.Outcome State Fault Refusal :=
  actUnit (if port = 4 then 17 else 16) dt (fun s => if port = 4 then s.cwDown else s.linkDown port) s

/-- RING_LISTEN (R319). -/
def execRingListen (dt ring : Nat) (s : State) : Host.Outcome State Fault Refusal := actUnit 16 dt (fun s => s.ringListen ring) s

/-- SYNC_RECEIVED (R302, R311, R313). -/
def execSyncReceived (dt : Nat) (f : RxFrame) (s : State) : Host.Outcome State Fault Refusal :=
  actUnit 16 dt (fun s => s.takeFrame f 1 (fun s b => s.correctSync f.port b) (fun s b => s.useSync f.port b)) s

/-- SYNC_LOST (R302). -/
def execSyncLost (dt : Nat) (s : State) : Host.Outcome State Fault Refusal := actUnit 16 dt State.syncLost s

/-- COMMAND_FRAME_RECEIVED (R307). -/
def execCommandFrameReceived (dt : Nat) (f : RxFrame) (s : State) : Host.Outcome State Fault Refusal :=
  actUnit 16 dt (fun s => s.takeFrame f 2 (fun s b => (s, b)) (fun s b => s.useCommand f.port b)) s

/-- COLLECT_FRAME_RECEIVED (R308). -/
def execCollectFrameReceived (dt : Nat) (f : RxFrame) (s : State) : Host.Outcome State Fault Refusal :=
  actUnit 16 dt (fun s => s.takeFrame f 3
    (fun s b => s.fillFrame (f.port / 2) b) (fun s b => s.useCollect f.port b)) s

/-- IMAGE_FRAME_RECEIVED (R309, R314). -/
def execImageFrameReceived (dt : Nat) (f : RxFrame) (s : State) : Host.Outcome State Fault Refusal :=
  actUnit 16 dt (fun s => s.takeFrame f 4 (fun s b => (s, b)) (fun s b => s.useImage f.port b)) s

/-- MGMT_FRAME_RECEIVED (R310, R322). -/
def execMgmtFrameReceived (dt : Nat) (f : RxFrame) (s : State) : Host.Outcome State Fault Refusal :=
  actUnit 16 dt (fun s => s.takeFrame f 5 (fun s b => (s, b)) (fun s b => s.useMgmt f.port b)) s

/-- FOREIGN_FRAME_RECEIVED (R295, R297): discarded, counted, not forwarded. -/
def execForeignFrameReceived (dt : Nat) (f : RxFrame) (s : State) : Host.Outcome State Fault Refusal :=
  actUnit 16 dt (fun s => if s.carries (f.port % 4) then s.count (Reg.RING_PORT_FOREIGN (f.port % 4)) else s) s

/-- MGMT_SEND (R310). -/
def execMgmtSend (dt : Nat) (w : Word) (priv : Bool) (s : State) : Host.Outcome State Fault Refusal :=
  act dt (fun s => s.hostCmd Rw.RING_MGMT_TX_CTL Reg.RING_MGMT_TX_CTL priv w.toNat (fun s => s.mgmtSend w.toNat)) s

/-- MGMT_TRANSMIT (R311). -/
def execMgmtTransmit (dt : Nat) (s : State) : Host.Outcome State Fault Refusal := actUnit 16 dt State.mgmtTransmit s

/-- MGMT_RX_POP (R310). -/
def execMgmtRxPop (dt : Nat) (s : State) : Host.Outcome State Fault Refusal :=
  act dt (fun s => s.hostCmd Rw.RING_MGMT_RX_POP Reg.RING_MGMT_RX_POP true 1 State.mailPop) s

/-- RING_RELEASE (R318). -/
def execRingRelease (dt ring : Nat) (priv : Bool) (s : State) : Host.Outcome State Fault Refusal :=
  act dt (fun s => s.hostCmd Rw.RING_CTL Reg.RING_CTL priv (16 * 2 ^ (ring % 2)) (fun s => s.ringRelease (ring % 2))) s

/-- RING_LEAVE (R320). -/
def execRingLeave (dt ring : Nat) (priv : Bool) (s : State) : Host.Outcome State Fault Refusal :=
  act dt (fun s => s.hostCmd Rw.RING_CTL Reg.RING_CTL priv (2 ^ (ring % 2)) (fun s => s.ringLeave (ring % 2))) s

end Sys2Proof.Machine
end

