-- ==== Sys2Proof/Machine/Milestone.lean ====
section
/-! DEFINITION. Machine/Milestone.lean: what the fast Milestone, the full Milestone and the resync set hold (R337, R338,
R347), how they are laid out as bytes and cut into frames (R339), and how they are put back into a state. The order and the
width of the values inside a Milestone are the model's (log entry 40). -/

namespace Sys2Proof.Machine

/-- One value that a Milestone carries: how it is read from a state, how it is put back, and its bytes: eight hold a signed
number, fewer an unsigned one. -/
structure MsItem where
  get : State → Int
  set : Int → State → State
  size : Nat := 8

namespace MsItem

/-- A register's live value. -/
def reg (a : Nat) : MsItem := ⟨fun s => s.rd a, fun v s => s.wr a (v % 2 ^ 32).toNat, 4⟩

/-- Consecutive registers from an address. -/
def regs (a n : Nat) : List MsItem := (List.range n).map (fun i => reg (a + 4 * i))

/-- A field's live value. -/
def fld (f : Fld) : MsItem := ⟨fun s => s.get f, fun v s => s.put f v.toNat, 4⟩

/-- A number or its absence: −1 stands for none. -/
def optI (o : Option Nat) : Int := match o with | some n => n | none => -1
def iOpt (v : Int) : Option Nat := if v < 0 then none else some v.toNat

/-- An instant in real time travels as its age. -/
def ageOf (now t : Nat) : Int := (now : Int) - t
def ofAge (now : Nat) (v : Int) : Nat := ((now : Int) - v).toNat
def ageOpt (now : Nat) (o : Option Nat) : Int := match o with | some t => (now - t : Nat) | none => -1
def ofAgeOpt (now : Nat) (v : Int) : Option Nat := if v < 0 then none else some (now - v.toNat)

/-- A value of the loop engine's own state. -/
def loop (g : Loop → Int) (p : Int → Loop → Loop) : MsItem :=
  ⟨fun s => g s.loop, fun v s => { s with loop := p v s.loop }, 8⟩

/-- A value of a slot's state. -/
def slot (k : Nat) (g : SlotSt → Int) (p : Int → SlotSt → SlotSt) : MsItem :=
  ⟨fun s => g (s.slotSt k), fun v s => s.setSlot k (p v (s.slotSt k)), 8⟩

/-- Every value of a slot (R192): four per section, I, u1, u, its limits, and its held output. -/
def slotItems (s : State) (k : Nat) : List MsItem :=
  (List.range (s.get (Fl.LOOP_SLOT_CFG_N_SEC k))).flatMap (fun j => (List.range 4).map (fun i =>
    slot k (fun x => (x.secs.getD j [0, 0, 0, 0]).getD i 0)
      (fun v x =>
        let l := x.secs ++ List.replicate (j + 1 - x.secs.length) [0, 0, 0, 0]
        { x with secs := List.set l j (List.set (l.getD j [0, 0, 0, 0]) i v) }))) ++
  [slot k (·.i) (fun v x => { x with i := v }), slot k (·.u1) (fun v x => { x with u1 := v }),
   slot k (·.u) (fun v x => { x with u := v }), slot k (·.lo) (fun v x => { x with lo := v }),
   slot k (·.hi) (fun v x => { x with hi := v }), reg (Reg.LOOP_SLOT_OUT k)]

/-- Slots of a rate. -/
def slotsOf (s : State) (rate : Nat) : List MsItem :=
  ((List.range 96).filter (fun k => s.slotRate k == rate)).flatMap (slotItems s)

/-- A value of the lane manager's own state of a lane. -/
def lane (n : Nat) (g : LaneSt → Int) (p : Int → LaneSt → LaneSt) : MsItem :=
  ⟨fun s => g (s.laneSt n), fun v s => s.setLaneSt n (p v (s.laneSt n)), 8⟩

/-- A lane (R337): state, EN, fault cause, ramp progress, the commands of the pace, its part of the committed
allocation. -/
def laneItems (n : Nat) : List MsItem :=
  [fld (Fl.LANE_STATE_STATE n), fld (Fl.LANE_STATE_CAUSE n), fld (Fl.LANE_CTL_EN n),
   lane n (fun x => x.ramp) (fun v x => { x with ramp := v.toNat }),
   lane n (fun x => x.rampAz) (fun v x => { x with rampAz := v.toNat }),
   lane n (fun x => x.rampT) (fun v x => { x with rampT := v }),
   reg (Reg.LANE_CMD_AZ n), reg (Reg.LANE_CMD_T n), reg (Reg.LANE_U_AZ n), reg (Reg.LANE_U_T n),
   reg (Reg.ALC_LANE_STATUS n), reg (Reg.ALC_LANE_CMD_T n), reg (Reg.ALC_LANE_CMD_ANG n),
   ⟨fun s => optI (aGet s.alc.tgt n),
     fun v s => { s with alc := { s.alc with tgt := match iOpt v with | some w => aSet s.alc.tgt n w | none => aDel s.alc.tgt n } }, 8⟩,
   ⟨fun s => optI (aGet s.alc.modes n),
     fun v s => { s with alc := { s.alc with modes := match iOpt v with | some w => aSet s.alc.modes n w | none => aDel s.alc.modes n } }, 8⟩,
   ⟨fun s => if s.alc.cmded.contains n then 1 else 0,
     fun v s => { s with alc := { s.alc with cmded := (if v = 0 then s.alc.cmded.erase n
       else if s.alc.cmded.contains n then s.alc.cmded else s.alc.cmded ++ [n]) } }, 8⟩]

/-- A word of a list of words. -/
def wordAt (get : State → List Word) (set : List Word → State → State) (i : Nat) : MsItem :=
  ⟨fun s => ((get s).getD i 0).toNat,
   fun v s => let l := get s; set (List.set (l ++ List.replicate (i + 1 - l.length) 0) i (BitVec.ofInt 32 v)) s, 4⟩

/-- A warm start of R213: λ, each bus's μ and whether its limit is active, each lane's active face (255 for none). -/
def warmItems (s : State) (get : State → Warm) (set : (Warm → Warm) → State → State) : List MsItem :=
  (List.range 3).map (wordAt (fun s => (get s).lam) (fun l => set (fun w => { w with lam := l }))) ++
  (List.range 8).flatMap (fun b =>
    [⟨fun s => if (aGet (get s).mu b).isSome then 1 else 0,
        fun v => set (fun w => { w with mu := if v = 0 then aDel w.mu b else aSet w.mu b 0 }), 1⟩,
     ⟨fun s => ((aGet (get s).mu b).getD 0).toNat,
        fun v => set (fun w => if (aGet w.mu b).isSome then { w with mu := aSet w.mu b (BitVec.ofInt 32 v) } else w), 4⟩]) ++
  s.lanesOn.map (fun n =>
    ⟨fun s => (aGet (get s).faces n).getD 255,
      fun v => set (fun w => { w with faces := if v = 255 then aDel w.faces n else aSet w.faces n v.toNat }), 1⟩)

/-- The warm starts of the target problems that the last pace solved: at most the nominal one and eight candidates. -/
def tgtWarmItems (s : State) : List MsItem :=
  let upd (f : List (Option (Nat × Nat) × Warm) → List (Option (Nat × Nat) × Warm)) (s : State) : State :=
    { s with alc := { s.alc with tgtWarm := f s.alc.tgtWarm } }
  let entry (i : Nat) (f : Option (Nat × Nat) × Warm → Option (Nat × Nat) × Warm) : State → State :=
    upd (fun l => match l[i]? with | some e => List.set l i (f e) | none => l)
  ⟨fun s => s.alc.tgtWarm.length, fun v => upd (fun _ => List.replicate v.toNat (none, {})), 1⟩ ::
  (List.range 9).flatMap (fun i =>
    ⟨fun s => match s.alc.tgtWarm[i]? with | some (some k, _) => k.1 * 8 + k.2 | _ => 65535,
      fun v => entry i (fun e => (if v = 65535 then none else some (v.toNat / 8, v.toNat % 8), e.2)), 2⟩ ::
    warmItems s (fun s => match s.alc.tgtWarm[i]? with | some e => e.2 | none => {}) (fun f => entry i (fun e => (e.1, f e.2))))

/-- The front stage (R337): misses in a row, the level with its timers, the leader and its dwell count, the warm starts. -/
def alcItems (s : State) : List MsItem :=
  warmItems s (fun s => s.alc.warm) (fun f s => { s with alc := { s.alc with warm := f s.alc.warm } }) ++ tgtWarmItems s ++
  [reg Reg.ALC_STATUS] ++ regs (Reg.ALC_TAU 0) 3 ++ regs (Reg.ALC_ACH 0) 3 ++
    [reg Reg.ALC_J, reg Reg.ALC_J_NOM, reg Reg.ALC_J_CAND, reg Reg.ALC_SOLVE_T, reg Reg.ALC_CAND] ++
    (List.range 8).map (fun k => reg (Reg.ALC_BUS_LOAD k)) ++
  [⟨fun s => s.alc.missRun, fun v s => { s with alc := { s.alc with missRun := v.toNat } }, 8⟩,
   ⟨fun s => s.alc.level, fun v s => { s with alc := { s.alc with level := v.toNat } }, 8⟩,
   ⟨fun s => ageOf s.now s.alc.changedAt, fun v s => { s with alc := { s.alc with changedAt := ofAge s.now v } }, 8⟩,
   ⟨fun s => ageOf s.now s.alc.missAt, fun v s => { s with alc := { s.alc with missAt := ofAge s.now v } }, 8⟩,
   ⟨fun s => match s.alc.dwell with | some d => d.1.1 | none => -1,
     fun v s => { s with alc := { s.alc with dwell := if v < 0 then none else some ((v.toNat, 0), 0) } }, 8⟩,
   ⟨fun s => match s.alc.dwell with | some d => d.1.2 | none => -1,
     fun v s => { s with alc := { s.alc with dwell := s.alc.dwell.map (fun d => ((d.1.1, v.toNat), d.2)) } }, 8⟩,
   ⟨fun s => match s.alc.dwell with | some d => d.2 | none => -1,
     fun v s => { s with alc := { s.alc with dwell := s.alc.dwell.map (fun d => (d.1, v.toNat)) } }, 8⟩] ++
  (List.range 3).map (fun k => loop (fun l => l.tau.getD k 0) (fun v l => { l with tau := List.set l.tau k v }))

/-- A value of a track. -/
def trk (t : Nat) (g : Trk → Int) (p : Int → Trk → Trk) : MsItem :=
  ⟨fun s => g (s.trkOf t), fun v s => s.setTrk t (p v (s.trkOf t)), 8⟩

/-- A 32-bit word of a track. -/
def trkW (t : Nat) (g : Trk → Word) (p : Word → Trk → Trk) : MsItem :=
  { trk t (fun x => (g x).toNat) (fun v x => p (BitVec.ofInt 32 v) x) with size := 4 }

/-- A track as committed at the observer mark (R167). -/
def trkItems (t : Nat) : List MsItem :=
  [trk t (fun x => x.st) (fun v x => { x with st := v.toNat }),
   trk t (fun x => if x.hold then 1 else 0) (fun v x => { x with hold := v != 0 }),
   trk t (fun x => x.reason) (fun v x => { x with reason := v.toNat }),
   trk t (fun x => x.since) (fun v x => { x with since := v.toNat }),
   trk t (fun x => x.gateRun) (fun v x => { x with gateRun := v.toNat }),
   trk t (fun x => x.lastAccept) (fun v x => { x with lastAccept := v.toNat }),
   trk t (·.b0) (fun v x => { x with b0 := v }), trk t (·.b1) (fun v x => { x with b1 := v }),
   trkW t (·.var0) (fun v x => { x with var0 := v }), trkW t (·.var1) (fun v x => { x with var1 := v }),
   trkW t (·.mean0) (fun v x => { x with mean0 := v }), trkW t (·.mean1) (fun v x => { x with mean1 := v }),
   trkW t (·.iv0) (fun v x => { x with iv0 := v }), trkW t (·.iv1) (fun v x => { x with iv1 := v }),
   trkW t (·.nis) (fun v x => { x with nis := v }), trk t (fun x => x.rate) (fun v x => { x with rate := v.toNat }),
   trk t (fun x => x.stamp) (fun v x => { x with stamp := v.toNat }), trkW t (·.sigma) (fun v x => { x with sigma := v }),
   trk t (fun x => if x.anchor.isSome then 1 else 0) (fun v x => { x with anchor := if v = 0 then none else some (0, 0) }),
   trk t (fun x => (x.anchor.getD (0, 0)).1) (fun v x => { x with anchor := x.anchor.map (fun a => (v, a.2)) }),
   trk t (fun x => (x.anchor.getD (0, 0)).2) (fun v x => { x with anchor := x.anchor.map (fun a => (a.1, v)) }),
   reg (Reg.FUS_TRK_STATUS t), reg (Reg.FUS_TRK_GATE_FAIL t), reg (Reg.FUS_TRK_VOTE_OUT t)] ++
  (List.range 3).map (fun i => trk t (fun x => x.meas.getD i 0) (fun v x => { x with meas := List.set x.meas i v }))

/-- A value of the fusion unit. -/
def fus (g : Fus → Int) (p : Int → Fus → Fus) : MsItem := ⟨fun s => g s.fus, fun v s => { s with fus := p v s.fus }, 8⟩

/-- The observer's words: the states present, then the covariance's upper triangle by rows. -/
def obsWords (o : Obs) : List Word :=
  o.x ++ (List.range o.p.length).flatMap (fun i => (o.p.getD i []).drop i)

/-- The observer from its words, `n` states present. -/
def obsOfWords (n : Nat) (w : List Word) (o : Obs) : Obs :=
  let at_ (i j : Nat) : Word := w.getD (n + i * n - i * (i - 1) / 2 + (j - i)) 0
  { o with x := (w ++ List.replicate n 0).take n
           p := (List.range n).map (fun i => (List.range n).map (fun j => if i ≤ j then at_ i j else at_ j i)) }

/-- Two words of the observer, the first in the upper half. -/
def obsItem (n k : Nat) : MsItem :=
  ⟨fun s => let w := obsWords s.fus.obs; ((w.getD (2 * k) 0).toNat * 2 ^ 32 + (w.getD (2 * k + 1) 0).toNat : Nat),
   fun v s =>
    let w := obsWords s.fus.obs
    let w := w ++ List.replicate (2 * k + 2 - w.length) 0
    let w := List.set (List.set w (2 * k) (BitVec.ofInt 32 (v / 2 ^ 32))) (2 * k + 1) (BitVec.ofInt 32 v)
    { s with fus := { s.fus with obs := obsOfWords n w s.fus.obs } }, 8⟩

/-- A value of the fusion unit's observer. -/
def obs (g : Obs → Int) (p : Int → Obs → Obs) : MsItem :=
  ⟨fun s => g s.fus.obs, fun v s => { s with fus := { s.fus with obs := p v s.fus.obs } }, 8⟩

/-- State and covariance of the observer (R337), with the leg boundary at which they hold. -/
def obsItems (s : State) : List MsItem :=
  let n := s.stateCount
  (List.range ((n + n * (n + 1) / 2 + 1) / 2)).map (obsItem n) ++ [obs (fun o => o.stamp) (fun v o => { o with stamp := v.toNat })]

/-- Entry `i` of the observer's history (R152): its leg boundary and its states. -/
def obsPast (n i : Nat) : List MsItem :=
  let put (o : Obs) (f : Nat × List Word → Nat × List Word) : Obs :=
    let l := o.hist ++ List.replicate (i + 1 - o.hist.length) (0, [])
    { o with hist := List.set l i (f (l.getD i (0, []))) }
  obs (fun o => (o.hist.getD i (0, [])).1) (fun v o => put o (fun h => (v.toNat, h.2))) ::
  (List.range n).map (fun k => obs (fun o => ((o.hist.getD i (0, [])).2.getD k 0).toNat)
    (fun v o => put o (fun h => (h.1, List.set (h.2 ++ List.replicate (n - h.2.length) 0) k (BitVec.ofInt 32 v)))))

/-- Room for a leg's newest entry of the observer's history; entries of more than 1.0 s before it leave. -/
def obsShift : MsItem :=
  obs (fun _ => 0) (fun _ o => { o with hist := (o.stamp, o.x) :: o.hist.filter (fun h => decide (o.stamp ≤ h.1 + 1000000000)) })

/-- The observer mark and guidance (R337): state and covariance, tracks, the level, the reference. -/
def observerItems (s : State) : List MsItem :=
  obsItems s ++
  [reg Reg.FUS_DETOUR, reg Reg.FUS_COAST] ++ regs Reg.FUS_STATUS 20 ++ (List.range 18).flatMap trkItems ++
  [fus (fun f => if f.posSet then 1 else 0) (fun v f => { f with posSet := v != 0 }),
   fus (fun f => if f.hdgSet then 1 else 0) (fun v f => { f with hdgSet := v != 0 }),
   fus (fun f => f.hdg0) (fun v f => { f with hdg0 := v.toNat }),
   fus (fun f => f.refLvl) (fun v f => { f with refLvl := v.toNat }),
   fus (fun f => if f.hostD4 then 1 else 0) (fun v f => { f with hostD4 := v != 0 }),
   fus (fun f => if f.hdgD4 then 1 else 0) (fun v f => { f with hdgD4 := v != 0 }),
   fus (fun f => if f.posByC then 1 else 0) (fun v f => { f with posByC := v != 0 }),
   fus (fun f => if f.hdgByC then 1 else 0) (fun v f => { f with hdgByC := v != 0 }),
   fus (fun f => f.levelSince) (fun v f => { f with levelSince := v.toNat }),
   fus (fun f => f.wind.1) (fun v f => { f with wind := (v, f.wind.2) }),
   fus (fun f => f.wind.2) (fun v f => { f with wind := (f.wind.1, v) }),
   loop (·.refN) (fun v l => { l with refN := v }), loop (·.refE) (fun v l => { l with refE := v }),
   loop (·.refH) (fun v l => { l with refH := v }), loop (·.vN) (fun v l => { l with vN := v }),
   loop (·.vE) (fun v l => { l with vE := v }), loop (·.vH) (fun v l => { l with vH := v }),
   loop (·.tgtH) (fun v l => { l with tgtH := v }),
   loop (fun l => if l.wasD4 then 1 else 0) (fun v l => { l with wasD4 := v != 0 }),
   loop (fun l => if l.wasD3 then 1 else 0) (fun v l => { l with wasD3 := v != 0 })] ++
  (List.range 3).map (fun k => loop (fun l => (l.tauWind.getD k 0).toNat) (fun v l => { l with tauWind := List.set l.tauWind k (BitVec.ofInt 32 v) }))

/-- The rows of a lane in the fallback matrix. -/
def matRows (s : State) (n : Nat) : List (List Int) := aGetD (s.alc.mat.getD []) n []

/-- One entry of the fallback matrix. -/
def matItem (n r c : Nat) : MsItem :=
  ⟨fun s => ((matRows s n).getD r []).getD c 0,
   fun v s => match s.alc.mat with
    | none => s
    | some m =>
      let l := aGetD m n []
      if r < l.length then
        let m' := aSet m n (List.set l r (List.set (l.getD r []) c v))
        { s with alc := { s.alc with mat := some m' } }
      else s, 8⟩

/-- A lane of the fallback matrix: its rows' number, and two rows of three. -/
def matLane (n : Nat) : List MsItem :=
  ⟨fun s => (matRows s n).length,
   fun v s => match s.alc.mat with
    | none => s
    | some m =>
      let m' := if v ≤ 0 then aDel m n else aSet m n (List.replicate v.toNat [0, 0, 0])
      { s with alc := { s.alc with mat := some m' } }, 8⟩ ::
  (List.range 2).flatMap (fun r => (List.range 3).map (fun c => matItem n r c))

/-- The envelope mark (R337). -/
def envelopeItems (s : State) : List MsItem :=
  regs (Reg.ALC_ENV 0) 37 ++
  ⟨fun s => if s.alc.mat.isSome then 1 else 0,
    fun v s => let m := if v = 0 then none else some []; { s with alc := { s.alc with mat := m } }, 8⟩ ::
  s.lanesOn.flatMap matLane

/-- The demand mark (R337). -/
def demandItems : List MsItem := regs (Reg.LOOP_TAU_CL 0) 10

/-- One element of a committed output: its word, its validity being that of a committed output. -/
def sigItem (key i : Nat) : MsItem :=
  ⟨fun s => (elemAt (aGetD s.eng.sigs key []) i).1,
   fun v s =>
    let l := aGetD s.eng.sigs key []
    let l := l ++ List.replicate (i + 1 - l.length) (0, true)
    let sigs := aSet s.eng.sigs key (List.set l i (v.toNat, true))
    { s with eng := { s.eng with sigs := sigs } }, 8⟩

/-- One element that a HOLD instance keeps. -/
def holdItem (key i : Nat) : MsItem :=
  ⟨fun s => let e := elemAt (aGetD s.eng.mem key []) i; (e.1 : Int) + (if e.2 then 2 ^ 33 else 0),
   fun v s =>
    let l := aGetD s.eng.mem key []
    let l := l ++ List.replicate (i + 1 - l.length) (0, true)
    let mem := aSet s.eng.mem key (List.set l i ((v % 2 ^ 33).toNat, decide (2 ^ 33 ≤ v)))
    { s with eng := { s.eng with mem := mem } }, 8⟩

/-- The commit-point outputs of a graph. -/
def graphItems (g : Bytes) : List MsItem :=
  (State.commitSigs g).flatMap (fun k => (List.range (sigCount g k)).map (sigItem (gId g * 2 ^ 16 + k)))

/-- The HOLD values of a graph (R338). -/
def holdItems (g : Bytes) : List MsItem :=
  (List.range (gInsts g)).flatMap (fun i =>
    let t := instAt g i
    if byteAt t 0 = 0x0F then
      (List.range (match (instOuts t)[0]? with | some k => sigCount g k | none => 0)).map (holdItem (gId g * 2 ^ 16 + i))
    else [])

/-- The values of a fast Milestone (R337); `marks` are the leg marks met in its pace. -/
def fastItems (s : State) (marks : List Nat) : List MsItem :=
  s.lanesOn.flatMap laneItems ++ slotsOf s 1 ++ alcItems s ++ (if marks.contains 6 then observerItems s else []) ++
    (if marks.contains 7 then envelopeItems s else []) ++ (if marks.contains 8 then demandItems else []) ++
    ((graphsOf s).filter (fun g => marks.contains (gEnd g))).flatMap graphItems

/-- A node of a trajectory. -/
def trajNode (force : Bool) (i k : Nat) : MsItem :=
  ⟨fun s => ((if force then s.hzn.force else s.hzn.next).elim 0 (fun t => (t.tau.getD i []).getD k 0)),
   fun v s =>
    let f (o : Option Traj) : Option Traj := o.map (fun t => { t with tau := List.set t.tau i (List.set (t.tau.getD i []) k v) })
    if force then { s with hzn := { s.hzn with force := f s.hzn.force } }
    else { s with hzn := { s.hzn with next := f s.hzn.next } }, 8⟩

/-- A trajectory, in force or to take effect (R239): its presence, h, STATUS, residuals and nodes. -/
def trajItems (s : State) (force : Bool) : List MsItem :=
  let pick (s : State) : Option Traj := if force then s.hzn.force else s.hzn.next
  let upd (s : State) (o : Option Traj) : State :=
    if force then { s with hzn := { s.hzn with force := o } } else { s with hzn := { s.hzn with next := o } }
  [⟨fun s => if (pick s).isSome then 1 else 0, fun v s =>
      upd s (if v = 0 then none else some ⟨List.replicate (s.hznN + 1) [0, 0, 0], s.hznH, 0, 0, 0⟩), 8⟩,
   ⟨fun s => (pick s).elim 0 (fun t => t.h), fun v s => upd s ((pick s).map (fun t => { t with h := v.toNat })), 8⟩,
   ⟨fun s => (pick s).elim 0 (fun t => t.status), fun v s => upd s ((pick s).map (fun t => { t with status := v.toNat })), 8⟩,
   ⟨fun s => (pick s).elim 0 (fun t => t.rp.toNat), fun v s => upd s ((pick s).map (fun t => { t with rp := BitVec.ofInt 32 v })), 8⟩,
   ⟨fun s => (pick s).elim 0 (fun t => t.rd.toNat), fun v s => upd s ((pick s).map (fun t => { t with rd := BitVec.ofInt 32 v })), 8⟩] ++
  (List.range (s.hznN + 1)).flatMap (fun i => (List.range 3).map (trajNode force i))

/-- A word of the planner's lists. -/
def wordItem (get : State → List (List Word)) (set : List (List Word) → State → State) (i : Nat) : Nat → MsItem :=
  wordAt (fun s => (get s).getD i []) (fun r s => let m := get s; set (List.set (m ++ List.replicate (i + 1 - m.length) []) i r) s)

/-- `n` rows of `m` words. -/
def wordRows (get : State → List (List Word)) (set : List (List Word) → State → State) (n m : Nat) : List MsItem :=
  (List.range n).flatMap (fun i => (List.range m).map (wordItem get set i))

/-- The last committed trajectory's states, inputs and multipliers, the data of the shifted warm start (R239). -/
def planItems (s : State) : List MsItem :=
  let upd (f : Plan → Plan) (s : State) : State := { s with hzn := { s.hzn with plan := s.hzn.plan.map f } }
  let get (f : Plan → List (List Word)) (s : State) : List (List Word) := s.hzn.plan.elim [] f
  let n := s.hznN
  ⟨fun s => if s.hzn.plan.isSome then 1 else 0,
    fun v s => { s with hzn := { s.hzn with plan := if v = 0 then none else some {} } }, 4⟩ ::
  wordRows (get Plan.x) (fun m => upd (fun p => { p with x := m })) (n + 1) 9 ++
  wordRows (get Plan.w) (fun m => upd (fun p => { p with w := m })) n 3 ++
  wordRows (get Plan.y) (fun m => upd (fun p => { p with y := m })) n 9 ++
  wordRows (get Plan.lam) (fun m => upd (fun p => { p with lam := m })) n (2 * s.envDirs + 6)

/-- The identification between legs (R240): the leg's sums, the last ν, the low-passed ν̇. -/
def identItems : List MsItem :=
  (List.range 3).map (fun k => ⟨fun s => s.hzn.ach.getD k 0, fun v s => { s with hzn := { s.hzn with ach := List.set s.hzn.ach k v } }, 8⟩) ++
  [⟨fun s => s.hzn.achN, fun v s => { s with hzn := { s.hzn with achN := v.toNat } }, 4⟩,
   ⟨fun s => if s.hzn.slack then 1 else 0, fun v s => { s with hzn := { s.hzn with slack := v != 0 } }, 4⟩,
   ⟨fun s => if s.hzn.nu.isSome then 1 else 0,
    fun v s => { s with hzn := { s.hzn with nu := if v = 0 then none else some [0, 0, 0] } }, 4⟩] ++
  wordRows (fun s => [s.hzn.nu.getD []]) (fun m s => { s with hzn := { s.hzn with nu := s.hzn.nu.map (fun _ => m.headD []) } }) 1 3 ++
  wordRows (fun s => [s.hzn.nuDot]) (fun m s => { s with hzn := { s.hzn with nuDot := m.headD [] } }) 1 3

/-- The identification's covariances, which a resync set adds (R347). -/
def covItems : List MsItem :=
  ⟨fun s => s.hzn.cov.length, fun v s => { s with hzn := { s.hzn with cov := List.replicate v.toNat [] } }, 4⟩ ::
  (List.range 3).flatMap (fun i => wordRows (fun s => s.hzn.cov.getD i [])
    (fun m s => { s with hzn := { s.hzn with cov := List.set s.hzn.cov i m } }) 3 3)

/-- The planner (R239): trajectories, the warm start's data, results and w, the model in use and the identification. -/
def plannerItems (s : State) : List MsItem :=
  planItems s ++ identItems ++
  trajItems s true ++ trajItems s false ++ regs Reg.HZN_RESULT 9 ++ [reg Reg.HZN_ID_STATUS] ++ regs (Reg.HZN_MODEL_USE 0) 9 ++
  regs (Reg.HZN_ID_EST 0) 9 ++ [⟨fun s => s.hzn.legs, fun v s => { s with hzn := { s.hzn with legs := v.toNat } }, 8⟩,
    ⟨fun s => if s.hzn.cold then 1 else 0, fun v s => { s with hzn := { s.hzn with cold := v != 0 } }, 8⟩]

/-- The setpoint, move limits, origin and TURN_DIR (R338). -/
def setpointItems : List MsItem :=
  [loop (·.spN) (fun v l => { l with spN := v }), loop (·.spE) (fun v l => { l with spE := v }),
   loop (fun l => l.spH) (fun v l => { l with spH := v.toNat }), loop (fun l => l.speed) (fun v l => { l with speed := v.toNat }),
   loop (fun l => l.turn) (fun v l => { l with turn := v.toNat }), loop (fun l => l.accel) (fun v l => { l with accel := v.toNat }),
   loop (fun l => l.dir) (fun v l => { l with dir := v.toNat }),
   loop (fun l => l.originLat) (fun v l => { l with originLat := v.toNat }),
   loop (fun l => l.originLon) (fun v l => { l with originLon := v.toNat }),
   loop (fun l => l.originHgt) (fun v l => { l with originHgt := v.toNat }), fld Fl.LOOP_STATUS_ORIGIN]

/-- Entry `i` of the bias history of a track (R155): its age and two values. -/
def biasItems (t i : Nat) : List MsItem :=
  let put (x : Trk) (f : Nat × (Int × Int) → Nat × (Int × Int)) : Trk :=
    let l := x.hist ++ List.replicate (i + 1 - x.hist.length) (0, (0, 0))
    { x with hist := List.set l i (f (l.getD i (0, (0, 0)))) }
  [⟨fun s => ageOf s.now ((s.trkOf t).hist.getD i (0, (0, 0))).1,
    fun v s => s.setTrk t (put (s.trkOf t) (fun h => (ofAge s.now v, h.2))), 8⟩,
   trk t (fun x => (x.hist.getD i (0, (0, 0))).2.1) (fun v x => put x (fun h => (h.1, (v, h.2.2)))),
   trk t (fun x => (x.hist.getD i (0, (0, 0))).2.2) (fun v x => put x (fun h => (h.1, (h.2.1, v))))]

/-- Room for a leg's newest entry of a track's bias history; entries older than its window leave. -/
def biasShift (t : Nat) : MsItem :=
  ⟨fun _ => 0, fun _ s =>
    let x := s.trkOf t
    let win := s.get Fl.FUS_BIAS_RATE_WIN
    s.setTrk t { x with hist := (s.now, (x.b0, x.b1)) :: x.hist.filter (fun h => decide (s.now ≤ h.1 + (win + 1) * 1000000000)) }, 8⟩

/-- Entries of a bias history: one per leg of its window (R155). -/
def biasLength (s : State) : Nat := (s.get Fl.FUS_BIAS_RATE_WIN + 1) * 1000 / s.legPaces + 1

/-- Track, coast and level timers (R338). -/
def timerItems : List MsItem :=
  (List.range 18).flatMap (fun t =>
    [⟨fun s => ageOf s.now (s.trkOf t).sinceAt, fun v s => s.setTrk t { s.trkOf t with sinceAt := ofAge s.now v }, 8⟩,
     ⟨fun s => ageOf s.now (s.trkOf t).sameFrom, fun v s => s.setTrk t { s.trkOf t with sameFrom := ofAge s.now v }, 8⟩,
     ⟨fun s => ageOf s.now (s.trkOf t).cleanFrom, fun v s => s.setTrk t { s.trkOf t with cleanFrom := ofAge s.now v }, 8⟩,
     ⟨fun s => ageOpt s.now (s.trkOf t).lastAt, fun v s => s.setTrk t { s.trkOf t with lastAt := ofAgeOpt s.now v }, 8⟩]) ++
  [⟨fun s => ageOpt s.now s.fus.posCoast, fun v s => { s with fus := { s.fus with posCoast := ofAgeOpt s.now v } }, 8⟩,
   ⟨fun s => ageOpt s.now s.fus.hdgCoast, fun v s => { s with fus := { s.fus with hdgCoast := ofAgeOpt s.now v } }, 8⟩] ++
  (List.range 4).map (fun i => ⟨fun s => ageOpt s.now (s.fus.below.getD i none),
    fun v s => { s with fus := { s.fus with below := List.set s.fus.below i (ofAgeOpt s.now v) } }, 8⟩)

/-- The values of a full Milestone (R338); the newest entries of the observer's and the bias histories travel with it. -/
def fullItems (s : State) : List MsItem :=
  ((graphsOf s).filter (fun g => (gFlags g).testBit 0)).flatMap graphItems ++ (graphsOf s).flatMap holdItems ++
  plannerItems s ++ slotsOf s 2 ++ setpointItems ++ obsShift :: obsPast s.stateCount 0 ++ (List.range 18).flatMap (fun t => biasShift t :: biasItems t 0) ++ timerItems

/-- The values of a resync set (R347): the full Milestone's, everything that a leg commits, and the whole observer and bias histories. -/
def resyncItems (s : State) : List MsItem :=
  fullItems s ++ covItems ++ observerItems s ++ envelopeItems s ++ demandItems ++
    (List.range (1000 / s.legPaces + 1)).flatMap (obsPast s.stateCount) ++
    (List.range 18).flatMap (fun t => (List.range (biasLength s)).flatMap (biasItems t))

end MsItem

/-- A value in an item's bytes, big-endian, two's complement. -/
def msPut (size : Nat) (v : Int) : Bytes := toBE size (v % 2 ^ (8 * size)).toNat

/-- The value of an item's bytes: eight hold a signed number. -/
def msGet (size : Nat) (b : Bytes) : Int := if size = 8 then sBits 64 (beAt b 0 8) else beAt b 0 size

/-- The bytes of items in a state. -/
def msBytes (s : State) (l : List MsItem) : Bytes := l.flatMap (fun i => msPut i.size (i.get s))

/-- How many bytes items take. -/
def msSize (l : List MsItem) : Nat := l.foldl (fun a i => a + i.size) 0

/-- Items read back from bytes, in order. -/
def msApply : List MsItem → Bytes → State → State
  | [], _, s => s
  | i :: l, b, s => if b.length < i.size then s else msApply l (b.drop i.size) (i.set (msGet i.size b) s)

/-- The data of a Milestone: pace phases, then the marks of a fast one, then the values. -/
def msHead (s : State) (marks : List Nat) : Bytes :=
  [s.cyc.leg % 256, s.cyc.stage % 256, marks.foldl (fun a m => a + 2 ^ (m - 6)) 0, s.address / 2 ^ 8 % 256]

/-- Data and its CRC-32C cut into `n` fragments of at most 1,468 bytes (R339). -/
def fragments : Nat → Bytes → List Bytes
  | 0, _ => []
  | n + 1, b => if b.isEmpty then [] else b.take 1468 :: fragments n (b.drop 1468)

namespace State

/-- A Causeway frame (R332): Enrum header, HOPS 1, INDEX 0xFF, FLAGS zero. -/
def cwFrame (s : State) (ty : Nat) (body : Bytes) : Bytes :=
  enrumHeader ty s.address s.partner (s.rd Reg.RING_CYCLE) 0xFF 0 1 body.length ++ body

/-- The frames of a Milestone (R339). -/
def msFrames (s : State) (ty kind pace : Nat) (data : Bytes) : List (Nat × Bytes) :=
  let fs := fragments (data.length / 1468 + 1) (data ++ toBE 4 (crc32c data))
  (List.range fs.length).map (fun i =>
    (ty, s.cwFrame ty ([kind, 0] ++ toBE 2 i ++ toBE 2 fs.length ++ [0, 0] ++ toBE 4 pace ++ toBE 4 data.length ++ fs.getD i [])))

/-- The fast Milestone of the pace (R337). -/
def fastData (s : State) : Bytes := msHead s s.red.legMarks ++ msBytes s (MsItem.fastItems s s.red.legMarks)
/-- The full Milestone of the leg (R338). -/
def fullData (s : State) : Bytes := msHead s [] ++ msBytes s (MsItem.fullItems s)
/-- The resync set (R347). -/
def resyncData (s : State) : Bytes := msHead s [] ++ msBytes s (MsItem.resyncItems s)

/-- FAST_MILESTONE_CUT and FULL_MILESTONE_CUT at the active's end mark (R337, R338, R347): fast first, then full, then a
granted resync set. -/
def cutMilestones (s : State) (legEnd : Bool) : State :=
  if s.role != 3 then s else
    let s := s.wr Reg.RED_MS_FAST s.cyc.pace
    let s := if legEnd then s.wr Reg.RED_MS_FULL s.cyc.legPace else s
    if !s.hasPartner || !s.isOpen 17 || !s.red.cwLink then s else
      let grant := legEnd && s.red.granted
      let out := s.msFrames 0x11 0 s.cyc.pace s.fastData ++
        (if legEnd then s.msFrames 0x11 1 s.cyc.legPace s.fullData else []) ++
        (if grant then s.msFrames 0x12 2 s.cyc.legPace s.resyncData else [])
      { s with red := { s.red with sent := out, granted := s.red.granted && !grant } }

/-- A fragment taken into a Milestone being received: `none` where it belongs to another pace than before. -/
def takeFrag (o : Option (Nat × Nat × List (Nat × Bytes))) (f : Bytes) : Nat × Nat × List (Nat × Bytes) :=
  let pace := beAt f 24 4
  let n := beAt f 20 2
  let part := (beAt f 18 2, (f.drop 32).take (beAt f 14 2 - 16))
  match o with
  | some (p, m, l) => if p = pace ∧ m = n then (p, m, aSet l part.1 part.2) else (pace, n, [part])
  | none => (pace, n, [part])

/-- The data of a complete Milestone whose CRC is good (R339). -/
def msDone (o : Option (Nat × Nat × List (Nat × Bytes))) : Option (Nat × Bytes) :=
  match o with
  | none => none
  | some (p, n, l) =>
    if l.length = n ∧ n ≠ 0 ∧ (List.range n).all (fun i => (aGet l i).isSome) then
      let b := l.flatMap (·.2)
      let d := b.take (b.length - 4)
      if 4 ≤ b.length ∧ crc32c d = beAt b (b.length - 4) 4 then some (p, d) else none
    else none

/-- The leg marks named in a fast Milestone's head. -/
def msMarks (d : Bytes) : List Nat := ([6, 7, 8]).filter (fun m => (byteAt d 2).testBit (m - 6))

/-- Phases one pace after those of a Milestone's head (R470). -/
def phasesAfter (s : State) (d : Bytes) : Nat × Nat :=
  let leg := byteAt d 0 + 1
  if leg < s.legPaces then (leg, byteAt d 1)
  else (0, if byteAt d 1 + 1 < s.stageLegs then byteAt d 1 + 1 else 0)

/-- A fast Milestone applied one pace after its own (R339, R470): its state, its pace number as FAST_MS, the commands of its
pace kept for a takeover. -/
def applyFast (s : State) (pace : Nat) (d : Bytes) : State :=
  let marks := msMarks d
  let s := msApply (MsItem.fastItems s marks) (d.drop 4) s
  let ls := s.lanesOn.filter (fun n => s.laneState n != 0)
  let s0 : State := { s with cyc := { s.cyc with pace := pace } }
  let s : State := { s with red := { s.red with heldCmds := s0.commandBlocks ls, fastApplied := some pace } }
  s.wr Reg.RED_MS_FAST pace

/-- A full Milestone applied (R338, R339). -/
def applyFull (s : State) (pace : Nat) (d : Bytes) : State :=
  let shift (t : Trk) : Trk := { t with hist := ((0, (0, 0)) :: t.hist).take 1000 }
  let s : State := { s with fus := { s.fus with trk := s.fus.trk.map (fun p => (p.1, shift p.2)) } }
  (msApply (MsItem.fullItems s) (d.drop 4) s).wr Reg.RED_MS_FULL pace

/-- A resync set loaded (R347). -/
def applyResync (s : State) (pace : Nat) (d : Bytes) : State :=
  (msApply (MsItem.resyncItems s) (d.drop 4) s).wr Reg.RED_MS_FULL pace

end State

end Sys2Proof.Machine
end

