-- ==== Sys2Proof/Machine/RedundancyOps.lean ====
section
/-! DEFINITION. Machine/RedundancyOps.lean: heartbeats, path silence, Milestones at the standby, takeover, exchange and the
ring standby (R331 to R336, R339 to R352). -/

namespace Sys2Proof.Machine

namespace State

/-! ### Paths (R334, R335) -/

/-- A path has no evidence of the last 375 µs. -/
def pathQuiet (s : State) (o : Option Nat) : Bool := match o with | none => true | some t => decide (t + 375000 ≤ s.now)

/-- Both paths are silent. -/
def bothSilent (s : State) : Bool := s.pathQuiet s.red.cwAt && s.pathQuiet s.red.hbAt

/-- HB_IN_OK (R334). -/
def hbInOk (s : State) : Bool := !s.pathQuiet s.red.hbAt

/-- CURRENT and RING_STANDBY (R330): a partner in role ACTIVE as last heard, and a fast Milestone of one of the last four
paces. -/
def judgeCurrent (s : State) : State :=
  if s.role != 2 then (s.flag Fl.RED_STATUS_CURRENT false).flag Fl.RED_STATUS_RING_STANDBY false else
    let fresh := match s.red.fastApplied with
      | some n => decide ((s.cyc.pace + 2 ^ 32 - n) % 2 ^ 32 ≤ 4)
      | none => false
    let cur := s.hasPartner && s.red.loaded && s.red.partnerRole == 3 && fresh
    (s.flag Fl.RED_STATUS_CURRENT cur).flag Fl.RED_STATUS_RING_STANDBY (!cur)

/-- Valid evidence on a path (R335): silence ends. -/
def evidence (s : State) (causeway : Bool) : State :=
  if causeway then
    let since := if s.pathQuiet s.red.cwAt then s.now else s.red.cwSince
    ({ s with red := { s.red with cwAt := some s.now, cwSince := since } } : State).flag Fl.RED_STATUS_CW_SILENT false
  else
    let since := if s.pathQuiet s.red.hbAt then s.now else s.red.hbSince
    ({ s with red := { s.red with hbAt := some s.now, hbSince := since } } : State).flag Fl.RED_STATUS_HB_SILENT false

/-- An edge on HB_IN (R334): edges closer than 40 µs are noise; valid from 40 to 90 µs after the previous one. -/
def hbEdge (s : State) : State :=
  match s.red.edgeAt with
  | none => { s with red := { s.red with edgeAt := some s.now } }
  | some t =>
    if s.now < t + 40000 then s
    else
      let s : State := { s with red := { s.red with edgeAt := some s.now } }
      if s.now ≤ t + 90000 then s.evidence false else s

/-! ### Taking the segment (R340, R351, R352) -/

/-- What every taking of the segment has in common: the new epoch, the role, the record, the train at the first
ring-cycle boundary at least 125 µs later (R340, R341). -/
def takeSegment (s : State) (epoch how : Nat) : State :=
  let last := max (s.red.cwAt.getD 0) (s.red.hbAt.getD 0)
  let s := (s.takeActive (epoch % 2 ^ 32) how).dropAhead
  let s : State := { s with
    red := { s.red with detectAt := some s.now, failAt := if how = 4 then s.ring.lastSyncNow.getD s.now else last
                        exch := none, granted := false, resyncFrom := none }
    cyc := { s.cyc with active := false, voided := true }
    krb := { s.krb with strobe := s.now }
    hzn := { s.hzn with run := false, warm := none, best := none }
    alc := { s.alc with prob := none, res := none, ahead := none, aheadRes := none }
    ring := { s.ring with trainOn := false, cmdOut := none } }
  ((s.logEv Ev.TAKEOVER).irq 9).count Reg.RED_TAKEOVERS

/-- TAKEOVER (R340): the newest complete Milestones, then the segment. -/
def takeover (s : State) (how : Nat) : State :=
  let s := match s.red.fullDone.getLast? with
    | some (p, d) => if after32 p (s.rd Reg.RED_MS_FULL) then s.applyFull p d else s
    | none => s
  let s := match msDone s.red.fast with
    | some (p, d) => s.applyFast p d
    | none => s
  let s : State := { s with red := { s.red with fast := none, full := none, fullDone := [] } }
  s.takeSegment (s.rd Reg.RED_EPOCH + 1) how

/-- The fields of a page, signed 32-bit words. -/
def pageWord (s : State) (p off : Nat) : Int := sAt (aGetD s.ring.pages p ⟨0, []⟩).data off

/-- A track from its page (R167, R352). -/
def trackFromPage (s : State) (t : Nat) : State :=
  let b := (aGetD s.ring.pages (0x21 + t) ⟨0, []⟩).data
  if b.isEmpty then s else
    let x := s.trkOf t
    let w (o : Nat) : Word := BitVec.ofNat 32 (beAt b o 4)
    let si (o : Nat) (q : Rat) : Word := w32 ((sAt b o : Rat) * q)
    let anchor := if (byteAt b 1 = 3 ∨ byteAt b 1 = 4) ∧ byteAt b 2 != 0 then some (sAt b 96, sAt b 100) else none
    let pos := decide (t < 8)
    let ang := 2 * piQ / ((2 ^ 32 : Nat) : Rat)
    let y : Trk := { x with
      st := byteAt b 2, hold := (byteAt b 3).testBit 0, reason := beAt b 4 2, gateRun := beAt b 6 2
      lastAccept := beAt b 8 4, since := beAt b 12 4, sinceAt := s.now, cleanFrom := s.now
      b0 := if pos then sAt b 16 * 1000 else sAt b 16, b1 := if pos then sAt b 20 * 1000 else sAt b 20
      var0 := w 24, var1 := w 28
      mean0 := si 32 (if pos then 1 / 1000 else ang), mean1 := si 36 (if pos then 1 / 1000 else 1 / 1000000)
      iv0 := w 40, iv1 := w 44, nis := w 48, rate := beAt b 52 4 * 1000
      meas := [sAt b 56, sAt b 60, sAt b 64], stamp := beAt b 68 6 * 1000000000 + beAt b 74 4
      sigma := w 80, anchor := anchor, discard := beAt b 108 2, discOvf := (byteAt b 3).testBit 3
      lastAt := if byteAt b 2 = 0 then none else some s.now, sameFrom := s.now }
    let s := s.setTrk t y
    let s := ((s.put (Fl.FUS_TRK_GATE_FAIL_COUNT t) (beAt b 104 2)).flag (Fl.FUS_TRK_GATE_FAIL_OVF t) ((byteAt b 3).testBit 1)).put
      (Fl.FUS_TRK_VOTE_OUT_COUNT t) (beAt b 106 2)
    let s := s.flag (Fl.FUS_TRK_VOTE_OUT_OVF t) ((byteAt b 3).testBit 2)
    s.wr (Reg.FUS_TRK_STATUS t) (beAt b 4 2 * 2 ^ 16 + byteAt b 3 % 16 * 2 ^ 8 + byteAt b 2 % 8)

/-- The observer's states and covariance from the pages (R352): estimate and b from the summary, biases from the tracks, wave
states zero; the covariance diagonal from the SIGMA fields, a track's giving that of its bias, and the first variances of the
states that no page gives (log entry 92). -/
def obsFromPages (s : State) (d : Bytes) : State :=
  let sq (q : Rat) : Rat := q * q
  let v (k : Nat) : Rat × Rat :=
    let e (o : Nat) : Rat := (sAt d o : Int)
    let sg (o : Nat) : Rat := (beAt d o 4 : Nat)
    let bias (t : Nat) : Rat := sq (f32Q (s.trkOf t).sigma.toNat)
    if k = 0 then (e 16 / 1000, sq (sg 52 / 1000)) else if k = 1 then (e 20 / 1000, sq (sg 56 / 1000))
    else if k = 2 then (angQ (beAt d 24 4), sq (sg 60 * piQ / 180000))
    else if k < 6 then (e (16 + 4 * k) / 1000000, firstVar k)
    else if k < 12 then (0, firstVar k)
    else if k < 14 then (e (40 + 4 * (k - 12)), firstVar k)
    else if k = 14 then (e 48 * 10, firstVar k)
    else if k < 31 then
      let x := s.trkOf ((k - 15) / 2)
      (((if (k - 15) % 2 = 0 then x.b0 else x.b1) : Rat) / 1000000, bias ((k - 15) / 2))
    else if k < 33 then (0, firstVar k)
    else (angQ (uInt (s.trkOf (k - 25)).b0), bias (k - 25))
  let idx := s.obsIdx
  let s := s.obsStore (idx.map (fun k => (v k).1)) (mDiag (idx.map (fun k => (v k).2)))
  let o := s.fus.obs
  { s with fus := { s.fus with obs := { o with stamp := s.clk, hist := [(s.clk, o.x)] }, legClk := s.clk } }

/-- The observer from the fusion summary and track pages of the ring image (R352, R167, R169): estimate, bias, σ, attitude,
wind, coasts and level. Level D4 was entered by command where its cause says so, and else by the heading's coast; either way
it is left only by D4_EXIT (R165). -/
def observerFromPages (s : State) : State :=
  let d := (aGetD s.ring.pages 0x20 ⟨0, []⟩).data
  if d.isEmpty then s else
    let s := s.each (List.range 6) (fun s i => s.wr (Reg.FUS_EST_N + 4 * i) (beAt d (16 + 4 * i) 4))
    let s := s.each (List.range 3) (fun s i => s.wr (Reg.FUS_BIAS_N + 4 * i) (beAt d (40 + 4 * i) 4))
    let s := s.each (List.range 3) (fun s i => s.wr (Reg.FUS_SIGMA_N + 4 * i) (beAt d (52 + 4 * i) 4))
    let s := s.each (List.range 3) (fun s i => s.wr (Reg.FUS_ATT_ROLL + 4 * i) (beAt d (64 + 4 * i) 4))
    let s := (s.wr Reg.FUS_WIND_DIR (beAt d 76 4)).wr Reg.FUS_WIND_SPD (beAt d 80 4)
    let s := (((s.put Fl.FUS_DETOUR_LEVEL (byteAt d 0)).put Fl.FUS_DETOUR_REF_LEVEL (byteAt d 1)).put
      Fl.FUS_DETOUR_ALLOC_LEVEL (byteAt d 2)).put Fl.FUS_DETOUR_CAUSE (byteAt d 3)
    let flags := beAt d 6 2
    let set := flags.testBit 0
    let back (on : Bool) (o : Nat) : Option Nat := if on then some (s.now - beAt d o 2 * 1000000000) else none
    let spd : Rat := (sAt d 80 : Int)
    let dir := angQ (beAt d 76 4)
    let s : State := { s with fus := { s.fus with
        refLvl := byteAt d 1, posSet := set, hdgSet := set, hdg0 := beAt d 24 4, levelSince := beAt d 8 4
        hostD4 := byteAt d 1 = 4 && byteAt d 3 = 9, hdgD4 := byteAt d 1 = 4 && byteAt d 3 != 9
        posCoast := back (flags.testBit 1) 12, hdgCoast := back (flags.testBit 2) 14
        att := [sAt d 64, sAt d 68, sAt d 72], wind := (rnd (-(spd * cosQ dir)), rnd (-(spd * sinQ dir))), windFade := none }
                              alc := { s.alc with level := byteAt d 2 } }
    let s := s.wr Reg.FUS_STATUS (s.rd Reg.FUS_STATUS / 2 ^ 16 * 2 ^ 16 + flags)
    let s := (s.each (List.range 18) trackFromPage).obsFromPages d
    let tw : List Word := if set then (s.windNow (angQ (beAt d 24 4))).map w32 else [0, 0, 0]
    { s with loop := { s.loop with tauWind := tw } }

/-- The integral with which slot k of 0 to 2 outputs `u` on the present law error and feed-forward (R184, R352): u =
G (c + I) + f, its sections at zero. -/
def integralFor (s : State) (k : Nat) (u : Int) : Int :=
  let r := s.slotReg k
  let (c, _, _, _) := cascade r.secs [] 0 (sat32 (s.lawError k))
  let g : Rat := (coefMul 1 r.g.1 r.g.2 : Int) / ((2 ^ 46 : Nat) : Rat)
  if g = 0 then 0 else sat32 (rnd (((u - s.lawFeed k : Int) : Rat) / g) - c)

/-- Guidance from the guidance page, and slots 0 to 2 with I such that u equals its TAU (R352, R176). -/
def guidanceFromPage (s : State) : State :=
  let d := (aGetD s.ring.pages 0x33 ⟨0, []⟩).data
  if d.isEmpty then s else
    let h := angNano (sAt d 32)
    let s : State := { s with loop := { s.loop with
        spN := sAt d 0, spE := sAt d 4, spH := beAt d 8 4, speed := beAt d 12 4, turn := beAt d 16 4, accel := beAt d 20 4
        refN := sAt d 24 * 1000000, refE := sAt d 28 * 1000000, refH := h
        tgtH := h + angNano (turnAngle (byteAt d 100) (beAt d 32 4) (beAt d 8 4))
        vN := sAt d 36, vE := sAt d 40, vH := sAt d 44
        originLat := beAt d 88 4, originLon := beAt d 92 4, originHgt := beAt d 96 4, dir := byteAt d 100
        tau := [sAt d 72, sAt d 76, sAt d 80] } }
    let s := s.put Fl.LOOP_STATUS_ORIGIN (byteAt d 87)
    s.each (List.range 3) (fun s k =>
      let u := sAt d (72 + 4 * k)
      let s := s.setSlot k { s.slotSt k with secs := [], i := s.integralFor k u, u := u, u1 := u }
      (s.wr (Reg.LOOP_SLOT_OUT k) (uInt u)).wr (Reg.LOOP_TAU k) (uInt u))

/-- RING_TAKEOVER (R352), when its conditions hold. -/
def ringTakeover (s : State) : State :=
  let since := s.ring.lastSyncNow.getD s.red.waitFrom
  let wait := s.get Fl.RED_CFG_TAKE_WAIT * 1000000
  if s.inRun && s.role == 2 && s.is Fl.RED_STATUS_RING_STANDBY && decide (since + wait ≤ s.now) &&
      (!s.hasPartner || s.bothSilent) then
    let s := (s.observerFromPages).guidanceFromPage
    let s : State := { s with hzn := { s.hzn with cold := true, force := none, next := none, best := none, run := false }
                              red := { s.red with heldCmds := s.ring.lastCmds } }
    let s := (s.wr Reg.LOOP_BLEND_W 0).put Fl.HZN_BLEND_W 0
    let lvl := s.alc.level
    let s : State := { s with alc := { level := lvl, changedAt := s.now } }
    s.takeSegment (s.ring.highEpoch + 1) 4
  else s

/-! ### Silence (R335) -/

/-- PATH_SILENCE (R335). -/
def pathSilence (s : State) (causeway : Bool) : State :=
  let at_ := if causeway then s.red.cwAt else s.red.hbAt
  let other := if causeway then s.red.hbAt else s.red.cwAt
  let flagged := s.is (if causeway then Fl.RED_STATUS_CW_SILENT else Fl.RED_STATUS_HB_SILENT)
  if flagged || !s.hasPartner || !s.pathQuiet at_ then s else
    let s := if causeway then (s.flag Fl.RED_STATUS_CW_SILENT true).put Fl.RED_STATUS_PARTNER_ROLE 7
      else s.flag Fl.RED_STATUS_HB_SILENT true
    if at_.isNone then s
    else if !s.pathQuiet other then
      let s : State := if causeway then { s with red := { s.red with cwFault := true } }
        else { s with red := { s.red with hbFault := true } }
      ((s.logEv Ev.PATH_FAULT (if causeway then 0 else 1)).irq 10).count Reg.RED_PATH_FAULTS
    else
      let s := s.judgeCurrent
      if s.inRun && s.role == 2 && s.is Fl.RED_STATUS_CURRENT then s.takeover 1
      else if s.role == 3 then s.logEv Ev.PARTNER_LOST
      else if s.inRun && s.role == 1 && s.red.resyncFrom.isSome then
        ({ s with red := { s.red with resyncFrom := none, resync := none } } : State).ringStandby
      else s

/-- PATH_RESTORED (R335): alive for 10 ms without a break after a path fault. -/
def pathRestored (s : State) (causeway : Bool) : State :=
  if causeway then
    if s.red.cwFault && !s.pathQuiet s.red.cwAt && decide (s.red.cwSince + 10000000 ≤ s.now) then
      ({ s with red := { s.red with cwFault := false } } : State).logEv Ev.PATH_RESTORED 0 else s
  else
    if s.red.hbFault && !s.pathQuiet s.red.hbAt && decide (s.red.hbSince + 10000000 ≤ s.now) then
      ({ s with red := { s.red with hbFault := false } } : State).logEv Ev.PATH_RESTORED 1 else s

/-! ### Heartbeats (R333) -/

/-- IMAGE and LAYOUT as the registers hold them. -/
def imageId (s : State) : Nat := s.rd Reg.RED_IMAGE_HI * 2 ^ 32 + s.rd Reg.RED_IMAGE_LO
def layoutId (s : State) : Nat := s.rd Reg.RED_LAYOUT_HI * 2 ^ 32 + s.rd Reg.RED_LAYOUT_LO

/-- A multiple of 125 µs of the cycle timer from the last ring-cycle boundary (R333). -/
def hbDue (s : State) : Bool := decide ((s.now - s.ring.boundAt) % 125000 < 4)

/-- HEARTBEAT_SEND (R333): in READY, RUN and HARBOUR, not while FAULTED. An exchange asked for starts here, with X three
paces ahead (R350). -/
def heartbeatSend (s : State) : State :=
  if !(s.power == 2 || s.power == 3 || s.power == 4) || s.role == 4 || !s.hasPartner || !s.red.cwLink || !s.hbDue then s else
    let s : State := match s.red.exchAsked with
      | some _ => { s with red := { s.red with exchAsked := none, exch := some ((s.cyc.pace + 3) % 2 ^ 32), partnerReady := 0 } }
      | none => s
    let x := s.red.exch.getD 0
    let flags := (if s.is Fl.RED_STATUS_CURRENT then 1 else 0) + (if s.hbInOk then 2 else 0) +
      (if s.role == 1 && s.red.resyncFrom.isSome then 4 else 0) +
      (if s.role == 3 && s.red.exch.isSome then 8 else 0) + (if s.role == 2 && s.red.exch.isSome then 16 else 0)
    let body := [s.role, flags, s.get Fl.FUS_DETOUR_LEVEL, s.red.hbIndex % 8] ++ toBE 4 (s.rd Reg.RED_EPOCH) ++
      toBE 2 (s.rd Reg.RED_OWNER) ++ [0, 0] ++ toBE 4 s.cyc.pace ++ toBE 4 (s.rd Reg.RED_MS_FAST) ++
      toBE 4 (s.rd Reg.RED_MS_FULL) ++ toBE 8 s.imageId ++ toBE 8 s.layoutId ++ stampBytes s.clk ++ toBE 4 x
    { s with red := { s.red with sent := [(0x10, s.cwFrame 0x10 body)], hbIndex := (s.red.hbIndex + 1) % 8 } }

/-- A SYNCING or standby device and its owner's heartbeat (R331, R347): the partner owns the segment. -/
def ownerHeard (s : State) : State :=
  if s.role != 1 then s else
    let s : State := if s.red.heardOwner then s
      else { s with red := { s.red with heardOwner := true, resyncFrom := some s.now } }
    if s.red.resyncFrom.isSome && s.red.partnerLayout != s.layoutId then
      ({ s with red := { s.red with resyncFrom := none, resync := none } } : State).ringStandby.logEv Ev.RESYNC_REFUSED
    else s

/-- HEARTBEAT_RECEIVED (R333, R335, R342 to R344, R347, R350). -/
def heartbeat (s : State) (f : Bytes) (fcsOk : Bool) : State :=
  if !fcsOk || !s.hasPartner || !s.red.cwLink || byteAt f 0 != 1 || byteAt f 1 != 0x10 || beAt f 2 2 != s.partner || f.length < 70 then s else
    let s := s.evidence true
    let role := byteAt f 16
    let flags := byteAt f 17
    let s : State := { s with red := { s.red with
      partnerRole := role, partnerCurrent := flags.testBit 0, partnerLayout := beAt f 48 8, partnerReqs := flags.testBit 2 } }
    let s := s.put Fl.RED_STATUS_PARTNER_ROLE role
    let s : State := if flags.testBit 4 && s.role == 3 then
      { s with red := { s.red with partnerReady := beAt f 66 4 + 1 } } else s
    let s := if role == 3 then (s.hearPair (beAt f 20 4) (beAt f 24 2)).2
      else { s with ring := { s.ring with highEpoch := if after32 (beAt f 20 4) s.ring.highEpoch then beAt f 20 4 else s.ring.highEpoch } }
    let s := if role == 3 && s.inRun then s.ownerHeard else s
    let s : State := if s.role == 3 then
        { s with red := { s.red with granted := flags.testBit 2 && beAt f 48 8 == s.layoutId } } else s
    let s := s.judgeCurrent
    if s.role == 2 && role == 3 then
      let x := if flags.testBit 3 && s.is Fl.RED_STATUS_CURRENT then some (beAt f 66 4) else none
      { s with red := { s.red with exch := x } }
    else s

/-! ### Milestones at the standby (R339, R347) -/

/-- A frame from the partner that carries Milestone data. -/
def fromPartner (s : State) (f : Bytes) (fcsOk : Bool) (ty : Nat) : Bool :=
  fcsOk && s.hasPartner && s.red.cwLink && byteAt f 0 == 1 && byteAt f 1 == ty && beAt f 2 2 == s.partner && decide (32 ≤ f.length)

/-- MILESTONE_FRAME_RECEIVED (R339, R350): fragments gather; in an exchange the fast Milestone of X − 1, once complete, is
applied and the segment taken. -/
def milestoneFrame (s : State) (f : Bytes) (fcsOk : Bool) : State :=
  if !s.fromPartner f fcsOk 0x11 || !s.inRun || !(s.role == 1 || s.role == 2) then s
  else if byteAt f 16 = 0 then
    let s : State := { s with red := { s.red with fast := some (takeFrag s.red.fast f) } }
    match s.red.exch, msDone s.red.fast with
    | some x, some (p, _) =>
      if s.role == 2 && s.is Fl.RED_STATUS_CURRENT && (p + 1) % 2 ^ 32 == x then (s.takeover 2).logEv Ev.ROLE_EXCHANGE else s
    | _, _ => s
  else if byteAt f 16 = 1 then
    let m := takeFrag s.red.full f
    match msDone (some m) with
    | some e => { s with red := { s.red with full := none, fullDone := (s.red.fullDone ++ [e]).drop (s.red.fullDone.length + 1 - 16) } }
    | none => { s with red := { s.red with full := some m } }
  else s

/-- RESYNC_FRAME_RECEIVED (R347): fragments gather in order; a lost one starts the process again. -/
def resyncFrame (s : State) (f : Bytes) (fcsOk : Bool) : State :=
  if !s.fromPartner f fcsOk 0x12 || !s.inRun || s.role != 1 || s.red.resyncFrom.isNone then s
  else
    let i := beAt f 18 2
    let have_ := match s.red.resync with | some (p, _, l) => if p = beAt f 24 4 then l.length else 0 | none => 0
    if i = 0 then { s with red := { s.red with resync := some (takeFrag none f) } }
    else if i = have_ then { s with red := { s.red with resync := some (takeFrag s.red.resync f) } }
    else { s with red := { s.red with resync := none } }

/-- A fast Milestone that is not applied at its mark is discarded and counted (R339). -/
def fastLost (s : State) (counts : Bool) : State :=
  let s : State := { s with red := { s.red with fast := none } }
  s.when counts (fun s => s.count Reg.RED_MS_LOST)

/-- A new resynchronisation (R339, R347). -/
def resyncAgain (s : State) : State :=
  let s : State := { s with red := { s.red with resyncFrom := some s.now, resync := none, loaded := false, full := none
                                                fullDone := [], fastApplied := none } }
  ((s.setRole 1).flag Fl.RED_STATUS_CURRENT false).flag Fl.RED_STATUS_RING_STANDBY false

/-- RESYNC_DONE (R347, items 3 and 4): resync set, queued full Milestones in order, newest fast Milestone, STANDBY. -/
def resyncDone (s : State) (rp : Nat) (rd : Bytes) (fp : Nat) (fd : Bytes) : State :=
  let s := s.applyResync rp rd
  let s := s.each s.red.fullDone (fun s e => if after32 e.1 (s.rd Reg.RED_MS_FULL) then s.applyFull e.1 e.2 else s)
  let s := s.applyFast fp fd
  let ph := s.phasesAfter fd
  let t := s.red.resyncFrom.getD s.now
  let s : State := { s with red := { s.red with fast := none, fullDone := [], resync := none, resyncFrom := none, loaded := true } }
  let s := s.adoptPace ((fp + 1) % 2 ^ 32) ph.1 ph.2
  let s := (s.setRole 2).judgeCurrent
  (s.logEv Ev.RESYNC_DONE).wr Reg.RED_RESYNC_T (min 0xFFFF ((s.now - t) / 100000))

/-- The standby's full Milestone at pace 4 of the following leg (R339): applied, or lost, which starts a new
resynchronisation. Answers whether the device is still standby. -/
def applyDueFull (s : State) : Bool × State :=
  let due := (s.cyc.legPace + 2 ^ 32 - s.legPaces) % 2 ^ 32
  if s.cyc.leg != 4 || s.rd Reg.RED_MS_FULL == due then (true, s)
  else match s.red.fullDone.find? (fun e => e.1 == due) with
    | some (p, d) =>
      let s := s.applyFull p d
      (true, { s with red := { s.red with fullDone := s.red.fullDone.filter (fun e => after32 e.1 due) } })
    | none =>
      if s.red.partnerRole == 3 then (false, (s.count Reg.RED_MS_LOST).resyncAgain) else (true, s)

/-- MILESTONE_APPLY_MARK (R339, R347, R470): once in a pace, 400 µs after its boundary. -/
def applyMark (s : State) : State :=
  if !s.inRun || s.cyc.voided || !s.hasPartner || s.cyc.marks.contains 13 || s.now < s.cyc.boundaryAt + 400000 then s
  else
  let s : State := { s with cyc := { s.cyc with marks := s.cyc.marks ++ [13] } }
  if s.role == 1 then
    match msDone s.red.resync, msDone s.red.fast with
    | some (rp, rd), some (fp, fd) => s.resyncDone rp rd fp fd
    | _, _ => s.fastLost (s.red.fast.isSome && (msDone s.red.fast).isNone)
  else if s.role == 2 && s.red.loaded then
    let (on, s) := s.applyDueFull
    if !on then s else
      let want := (s.cyc.pace + 2 ^ 32 - 1) % 2 ^ 32
      let s := match msDone s.red.fast with
        | some (p, d) => if p = want then
            ({ s.applyFast p d with red := { (s.applyFast p d).red with fast := none } } : State)
          else s.fastLost true
        | none => s.fastLost (s.red.fast.isSome || s.red.partnerRole == 3)
      s.judgeCurrent
  else { s with red := { s.red with fast := none } }

/-! ### Role exchange and ASSUME (R349 to R351) -/

/-- EXCHANGE (R349). -/
def exchange (s : State) : State :=
  let refuse := if s.red.exch.isSome || s.red.exchAsked.isSome then 7
    else if s.role != 3 || s.get Fl.RED_STATUS_PARTNER_ROLE != 2 || !s.red.partnerCurrent then 2
    else if s.red.cwFault || s.red.hbFault || s.bothSilent then 3
    else if s.red.partnerLayout != s.layoutId then 4 else 0
  if refuse = 0 then ({ s with red := { s.red with exchAsked := some 0 } } : State).put Fl.RED_STATUS_EXCH_RESULT 0
  else s.put Fl.RED_STATUS_EXCH_RESULT refuse

/-- ASSUME (R351). -/
def assume (s : State) : State :=
  let p := s.get Fl.RED_STATUS_PARTNER_ROLE
  if s.inRun && s.role == 2 && p != 3 && p != 7 then s.takeover 3 else s.put Fl.RED_STATUS_EXCH_RESULT 5

/-- A host write of RED_CMD. -/
def redCmd (s : State) (w : Nat) : State :=
  (s.when (w.testBit 0) exchange).when (w.testBit 1) assume

/-- The active's end mark of pace X − 1 without EXCH_READY for X: NOT_READY (R349). -/
def exchangeEnd (s : State) : State :=
  match s.red.exch with
  | some x => if s.role == 3 && (s.cyc.pace + 1) % 2 ^ 32 == x && s.red.partnerReady != x + 1 then
      ({ s with red := { s.red with exch := none } } : State).put Fl.RED_STATUS_EXCH_RESULT 5 else s
  | none => s

/-- EXCHANGE_BOUNDARY (R350), the pace number already that of the boundary: at X the active stops, its commands of X − 1
kept; at X + 1, still ACTIVE, it sends them again and the result is TIMEOUT. -/
def exchangeBoundary (s : State) : State :=
  match s.red.exch with
  | none => s
  | some x =>
    if s.role != 3 then s
    else if s.cyc.pace = x then
      let ls := s.lanesOn.filter (fun n => s.laneState n != 0)
      let s0 : State := { s with cyc := { s.cyc with pace := (x + 2 ^ 32 - 1) % 2 ^ 32 } }
      let cmds := match s.ring.cmdOut with | some b => b | none => s0.commandBlocks ls
      { s with red := { s.red with exchStopped := true, heldCmds := cmds }
               ring := { s.ring with cmdOut := none, trainOn := s.ring.trainOn }
               cyc := { s.cyc with voided := true } }
    else if s.cyc.pace = (x + 1) % 2 ^ 32 ∧ s.red.exchStopped then
      let s : State := { s with red := { s.red with exchStopped := false, exch := none, sendNow := true }
                                ring := { s.ring with trainOn := true }
                                cyc := { s.cyc with voided := true } }
      s.put Fl.RED_STATUS_EXCH_RESULT 6
    else s

/-! ### Entry into RUN (R331) -/

/-- ROLE_WAIT_EXPIRY (R331, items 2 and 3): ACTIVE with the next epoch; a working epoch and its first train
begin at the next pace boundary (R32, R300). -/
def roleWaitExpiry (s : State) : State :=
  let extra := if s.is Fl.RED_CFG_ROLE_SEL then 2000000000 else 0
  if s.inRun && s.role == 1 && !s.red.heardOwner && decide (64 ≤ s.red.waitCycles) &&
      decide (s.red.waitFrom + 64 * s.cycleNs + extra ≤ s.now) then
    let base := if after32 s.ring.highEpoch s.red.epochMram then s.ring.highEpoch else s.red.epochMram
    let s := s.takeActive ((base + 1) % 2 ^ 32) 0
    { s with cyc := { s.cyc with epochDue := true, active := false } }
  else s

end State

end Sys2Proof.Machine
end

