-- ==== Sys2Proof/Machine/WriteOps.lean ====
section
/-! DEFINITION. Machine/WriteOps.lean: what a written value does: parking (R431), the RW registers at once, and the RWS
registers at their natural boundary (R190, R417). -/

namespace Sys2Proof.Machine

/-- The index of an address in its register array. -/
def Row.idx (r : Row) (a : Nat) : Nat := if r.stride = 0 then 0 else (a - r.base) / r.stride

/-- A thing's bit in PWR_PARK; none where the register has none. -/
def parkBit : Uid → Option Nat
  | .unit u => if u = 10 then some 0 else none
  | .ring r => if r < 2 then some (1 + r) else none
  | .eng n => if n < 16 then some (16 + n) else none

/-- The unit number of a thing, for UNIT_PARK records (R443). -/
def uidUnit : Uid → Nat
  | .unit u => u
  | .eng _ => 2
  | .ring _ => 16

/-- Everything PWR_PARK names (R431). -/
def parkable : List Uid := [.unit 10, .ring 0, .ring 1] ++ (List.range 16).map .eng

namespace State

/-! ### Parking (R431) -/

/-- PWR_PARK's bit of a thing. -/
def parkAsked (s : State) (u : Uid) : Bool := (parkBit u).any (fun b => s.is ⟨Reg.PWR_PARK, b, b⟩)

/-- A change that R431 refuses: `w` is the value written. -/
def parkRefused (s : State) (w : Nat) (u : Uid) : Bool :=
  let p := s.power
  let on := (parkBit u).any (fun b => w.testBit b)
  if on == s.parkAsked u then false
  else match u with
    | .unit _ => !(p == 2 || p == 3 || p == 4)
    | .ring r => !(p == 2 || p == 3 || p == 4) || (on && p == 3 && (s.ringState (1 - r) != 3 || w.testBit (2 - r) ||
        (s.is Fl.RING_CFG_JUNCTION && r == 0)))
    | .eng n => p == 1 || (on && ((s.engOpen n && s.get (Fl.ENG_STATUS_STATE n) != 3) ||
        s.hlt.swap.any (fun x => x.engine == n)))

/-- A park takes effect at the write (R136, R431). -/
def park (s : State) (u : Uid) : State :=
  let s := match u with
    | .unit _ => s.gnssRetain
    | .ring r => s.ringOut r
    | .eng _ => s
  ((s.closeUid u).markParked u true).logEv Ev.UNIT_PARK (uidUnit u) (d8 1)

/-- A park of a thing that is closed and waits to reopen: it no longer waits (R431). One that is closed for another cause stays as
it is. -/
def parkWaiting (s : State) (u : Uid) : State :=
  if !s.units.ready.contains u then s
  else
    let s : State := { s with units := { s.units with ready := s.units.ready.filter (· != u) } }
    (s.markParked u true).logEv Ev.UNIT_PARK (uidUnit u) (d8 1)

/-- An unpark makes the thing ready to reopen, unless the power state keeps it parked (R426, R431). -/
def unpark (s : State) (u : Uid) : State :=
  let s := s.logEv Ev.UNIT_PARK (uidUnit u) 0
  if stateParks s.power u then s else s.readyUp u

/-- A write of PWR_PARK: as a whole, or not at all. -/
def parkWrite (s : State) (w : Nat) : State :=
  if parkable.any (s.parkRefused w) then s.badWrite Reg.PWR_PARK
  else
    let turned := parkable.filter (fun u => (parkBit u).any (fun b => w.testBit b) != s.parkAsked u)
    let s := s.wr Reg.PWR_PARK (w &&& Rw.PWR_PARK.mask)
    s.each turned (fun s u =>
      if s.parkAsked u then (if s.uidOpen u then s.park u else s.parkWaiting u)
      else if s.uidOpen u then s else s.unpark u)

/-! ### RW registers: at once -/

/-- A plain write of a register: implemented, writable bits only (R18, R418). -/
def plainWrite (s : State) (r : Row) (addr w : Nat) : State := s.wr addr (mergeWrite r (s.rd addr) w)

/-- The effect of a write to a RW or RWP register. -/
def writeImm (s : State) (r : Row) (addr w : Nat) : State :=
  let i := r.idx addr
  let b := r.base
  if b = Reg.PWR_PARK then s.parkWrite w
  else if Reg.LOOP_ORIGIN_LAT ≤ b ∧ b ≤ Reg.LOOP_ORIGIN_CTL then (if s.inRun then s.badWrite addr else s.plainWrite r addr w)
  else if b = Reg.LOOP_TEST_CTL then s.testCtl w
  else if b = Reg.LOOP_CAP_CTL 0 then s.capCtl i w
  else if b = Reg.FIR_COEF 0 then s.coefWrite i w
  else if b = Reg.FIR_CH_GD_INACT 0 then s.gdWrite i w
  else if b = Reg.GNS_FE_CMD then s.feCmd w
  else if b = Reg.TIM_UTC then s.utcWrite w
  else if b = Reg.FB_CMP 0 then s.compareWrite i w
  else if b = Reg.FB_CMP_CTL 0 then s.compareCtl i w
  else if b = Reg.KRB_SO_EN then (s.plainWrite r addr w).kerbUpdate
  else if b = Reg.RING_CTL then s.ringCtl w
  else if b = Reg.RING_MGMT_TX_CTL then s.mgmtSend w
  else if b = Reg.LOG_RD_INDEX then s.latchRecord (w % 2 ^ 15)
  else if b = Reg.SEC_JTAG_CTL then s.jtagCtl w
  else if b = Reg.HLT_MARGIN_SEL then (s.plainWrite r addr w).marginSelect s.legPaces
  else s.plainWrite r addr w

/-! ### RWS registers: held, then applied -/

/-- The slot that owns a section; none where the section belongs to no slot. -/
def sectionSlot (s : State) (j : Nat) : Option Nat :=
  (List.range 96).find? (fun k =>
    let f := s.get (Fl.LOOP_SLOT_CFG_FIRST_SEC k)
    f ≤ j && decide (j < f + s.get (Fl.LOOP_SLOT_CFG_N_SEC k)))

/-- A section register. -/
def isSection (b : Nat) : Bool := Reg.LOOP_SEC_B0 0 ≤ b && b ≤ Reg.LOOP_SEC_SH 0

/-- The natural boundary of a staged register: 0 pace, 1 leg, 2 stage; a slot's by its RATE (R190). -/
def boundaryOf (s : State) (addr : Nat) : Nat :=
  match findRow addr with
  | none => 0
  | some r =>
    let slot (k : Nat) : Nat := if s.slotRate k = 2 then 1 else 0
    match r.cls with
    | .atLeg => 1
    | .atStage => 2
    | .atSlot => if isSection r.base then ((s.sectionSlot (r.idx addr)).map slot).getD 0 else slot (r.idx addr)
    | _ => 0

/-- The sample port's settings take effect; a change ends the frame in progress and restarts its streams; boundaries are counted
from the one that enables it (R87). -/
def applySmpCfg (s : State) (w : Nat) : State :=
  let old := s.rd Reg.SNS_SMP_CFG
  let was := s.is Fl.SNS_SMP_CFG_EN
  let s := s.wr Reg.SNS_SMP_CFG (w &&& Rw.SNS_SMP_CFG.mask)
  if old = s.rd Reg.SNS_SMP_CFG then s
  else
    let s := s.sampleRestart
    if was then s else { s with sns := { s.sns with bnd := 0 } }

/-- The value of a trigger register that a write would leave in force or held. -/
def trigAfter (s : State) (t : Nat) (addr w : Nat) : Nat × Nat × Nat :=
  let v (a : Nat) : Nat := if a = addr then w else s.shown a
  (v (Reg.SNS_TRIG_PERIOD t) % 2 ^ 20, v (Reg.SNS_TRIG_PHASE t) % 2 ^ 20, v (Reg.SNS_TRIG_CTL t))

/-- A host write of an RWS register, at the write. -/
def writeStaged (s : State) (r : Row) (addr w : Nat) : State :=
  let i := r.idx addr
  let b := r.base
  if b = Reg.LANE_CTL 0 then s.laneCtl i w
  else if b = Reg.LANE_AZ_SET 0 then s.azSet i w
  else if b = Reg.LOOP_SLOT_CTL 0 then s.slotCtl i w
  else if b = Reg.FIR_CH_FADE 0 then s.fadeRequest i w
  else if b = Reg.LOOP_JOY_X ∨ b = Reg.LOOP_JOY_Y ∨ b = Reg.LOOP_JOY_N then (s.stage addr w).joyWritten
  else if b = Reg.SNS_TRIG_PERIOD 0 ∨ b = Reg.SNS_TRIG_PHASE 0 ∨ (b = Reg.SNS_TRIG_CTL 0 ∧ w.testBit 17) then
    (let (p, h, c) := s.trigAfter i addr w
     if trigLegal p h c then s.stage addr (w &&& r.mask) else s.badWrite addr)
  else if isSection b && (s.sectionSlot i).isNone then s
  else s.stage addr (mergeWrite r (s.rd addr) w)

/-- An RWS value takes effect (R417), or is refused at its boundary (R226); no other register is written so. -/
def applyReg (s : State) (addr w : Nat) : State :=
  match findRow addr with
  | none => s
  | some r =>
    let i := r.idx addr
    let b := r.base
    if r.acc ≠ .rws then s
    else if b = Reg.LOOP_SLOT_CTL 0 then s.applySlotCtl i w
    else if b = Reg.LANE_CTL 0 then s.applyLaneCtl i w
    else if b = Reg.LANE_AZ_SET 0 then s.applyAzSet i w
    else if b = Reg.FIR_CH_FADE 0 then s.applyFade i w
    else if b = Reg.SNS_SMP_CFG then s.applySmpCfg w
    else if b = Reg.SNS_PORT_CFG 0 then s.applyPortCfg i w
    else if b = Reg.SNS_STR_LAT 0 then s.applyLat i w
    else if b = Reg.GNS_CTL then s.applyGnsCtl w
    else if b = Reg.GNS_BASE_X ∨ b = Reg.GNS_BASE_Y ∨ b = Reg.GNS_BASE_Z ∨ b = Reg.GNS_BASE_TOL then (s.plainWrite r addr w).baseChanged
    else if b = Reg.HZN_HORIZON then
      (if !s.horizonOk w then s.badWrite addr
       else if s.rd addr = w &&& r.mask then s
       else { s.plainWrite r addr w with hzn := { (s.plainWrite r addr w).hzn with cold := true } })
    else if b = Reg.TIM_SRC then (s.plainWrite r addr w).timReselect
    else if b = Reg.FBK_PDIV_CFG 0 then s.applyPdiv i w
    else if b = Reg.FB_CFG 0 then s.applyFbCfg i w
    else if isSection b && (s.sectionSlot i).isNone then s
    else s.plainWrite r addr w

/-- STAGED_WRITE_APPLY (R190, R417): the writes held for this kind of boundary, crossing limits refused first, a slot's CTL
after its other registers. -/
def applyStaged (s : State) (kind : Nat) : State :=
  let s := s.refuseLimits ((List.range 96).filter (fun k => (if s.slotRate k = 2 then 1 else 0) == kind))
  let due := s.staged.filter (fun e => s.boundaryOf e.1 == kind)
  let ctl (a : Nat) : Bool := (findRow a).any (fun r => r.base == Reg.LOOP_SLOT_CTL 0)
  let s : State := { s with staged := s.staged.filter (fun e => s.boundaryOf e.1 != kind) }
  let s := s.each (due.filter (fun e => !ctl e.1)) (fun s e => s.applyReg e.1 e.2.toNat)
  s.each (due.filter (fun e => ctl e.1)) (fun s e => s.applyReg e.1 e.2.toNat)

end State

end Sys2Proof.Machine
end

