-- ==== Sys2Proof/Machine/ConfigOps.lean ====
section
/-! DEFINITION. Machine/ConfigOps.lean: how the working configuration (the image with the Tollgate values committed)
becomes the state of the units: at boot, after a unit reset and on leaving HARBOUR and QUIET (R73, R355, R361 to R370,
R427, R433). -/

namespace Sys2Proof.Machine

namespace State

/-! ### Sections into registers -/

/-- LANES and LOOP_SLOTS (R361). -/
def configLanes (s : State) : State :=
  let b := sectionOf s 2
  let c := sectionOf s 0x0D
  let w (n i : Nat) : Nat := beAt b (40 * n + 4 * i) 4
  let s := if b.isEmpty then s else s.each (List.range 64) (fun s n =>
    let s := ((s.wr (Reg.LANE_BIND n) (w n 0 &&& Rw.LANE_BIND.mask)).wr (Reg.LANE_CMD_DEST n) (w n 1 &&& Rw.LANE_CMD_DEST.mask)).wr
      (Reg.LANE_FB_REMOTE n) (w n 2 &&& Rw.LANE_FB_REMOTE.mask)
    let s := ((s.wr (Reg.LANE_SAFE n) (w n 3 &&& Rw.LANE_SAFE.mask)).wr (Reg.LANE_CPR n) (w n 4 &&& Rw.LANE_CPR.mask)).wr
      (Reg.LANE_HOME n) (w n 5 &&& Rw.LANE_HOME.mask)
    ((s.wr (Reg.LANE_THRUST_K n) (w n 6)).wr (Reg.LANE_FOLLOW n) (w n 7)).wr (Reg.LANE_RAMP n) (w n 8 &&& Rw.LANE_RAMP.mask))
  if c.isEmpty then s else s.each (List.range 96) (fun s k =>
    s.wr (Reg.LOOP_SLOT_CFG k) (beAt c (4 * k) 4 &&& Rw.LOOP_SLOT_CFG.mask))

/-- RING_TIME: RING_CFG, RING_ETYPE, RED_CFG and TIM_SRC (R367); the layout and image identities (R332, R333). -/
def configRing (s : State) : State :=
  let b := sectionOf s 8
  if b.isEmpty then s else
    let fl := byteAt b 3
    let s := ((s.put Fl.RING_CFG_ADDRESS (beAt b 0 2)).put Fl.RING_CFG_CYCLE (byteAt b 2)).flag Fl.RING_CFG_JUNCTION (fl.testBit 1)
    let s := (s.flag Fl.RING_CFG_AN_EN (fl.testBit 0)).wr Reg.RING_ETYPE (beAt b 4 2)
    let s := ((s.put Fl.RED_CFG_PARTNER (beAt b 6 2)).put Fl.RED_CFG_TAKE_WAIT (byteAt b 12)).flag Fl.RED_CFG_CAUSEWAY (fl.testBit 2)
    let s := (s.flag Fl.RED_CFG_ROLE_SEL s.pins.roleSel).wr Reg.TIM_SRC (beAt b 18 2 &&& Rw.TIM_SRC.mask)
    let s := (s.wr Reg.RED_IMAGE_HI (beAt s.ldr.digest 0 4)).wr Reg.RED_IMAGE_LO (beAt s.ldr.digest 4 4)
    (s.wr Reg.RED_LAYOUT_HI (s.ldr.layout / 2 ^ 32)).wr Reg.RED_LAYOUT_LO s.ldr.layout

/-- GNSS and SECURITY_POLICY (R368, R370). -/
def configGnss (s : State) : State :=
  let g := sectionOf s 0x0B
  let s := if g.isEmpty then s else
    ((s.wr Reg.GNS_HOLD_U0 (beAt g 4 4)).wr Reg.GNS_HOLD_F (beAt g 8 4)).wr Reg.GNS_HOLD_A (beAt g 12 4)
  let p := sectionOf s 9
  if p.isEmpty then s else
    s.wr Reg.SEC_POLICY ((List.range 7).foldl (fun a c => a + byteAt p c % 4 * 4 ^ c) 0)

end State

/-! ### Placement (R73) -/

/-- The leg and the stage of the RING_TIME section in µs (R31). -/
def legUsOf (b : Bytes) : Nat := byteAt b 13 * 1000
def stageUsOf (b : Bytes) : Nat := byteAt b 13 * byteAt b 14 * 1000

/-- The period of a rate in µs, of the machine's configuration: 0 pace, 1 leg, 2 stage. -/
def rateUs (t : State) (rate : Nat) : Nat :=
  let b := sectionOf t 8
  match rate with | 0 => 1000 | 1 => legUsOf b | _ => stageUsOf b

/-- The rate at which a mark comes: marks 0 to 4 in every pace, 9 and 10 in every stage, the others in every leg (R69). -/
def markRate (code : Nat) : Nat := if code ≤ 4 then 0 else if code = 9 ∨ code = 10 then 2 else 1

/-- The instant of a mark in µs after the boundary of its own period (R34, R38, R41). -/
def markUs (t : State) : Nat → Nat
  | 1 => 15
  | 2 => deadlineUs t
  | 3 => deadlineUs t + 100
  | 4 => 950
  | 6 => 2500
  | 7 => 3000
  | 8 => 3500
  | 9 => rateUs t 2 - 2000
  | 11 => 200
  | _ => 0

/-- The length in µs of a graph's window: from its START_MARK, the first of the period of its rate, to the first END_MARK after
it. None where the period holds no such marks (R74). -/
def windowUs (t : State) (g : Bytes) : Option Nat :=
  let a := markUs t (gStart g)
  let e := markUs t (gEnd g)
  let per := rateUs t (markRate (gEnd g))
  let e := if a < e then e else e + per * ((a - e) / max 1 per + 1)
  if markRate (gStart g) ≤ gRate g ∧ markRate (gEnd g) ≤ gRate g ∧ e ≤ rateUs t (gRate g) then some (e - a) else none

/-- Bytes a graph takes of an engine's SRAM (R73): its table and 4 bytes for each signal element. -/
def graphBytes (g : Bytes) : Nat := g.length + 4 * ((List.range (gSigs g)).map (sigCount g)).foldl (· + ·) 0

/-- The engines of a group (R67). -/
def groupEngines (c : Nat) : List Nat := (List.range 16).filter (fun n => groupOf n == c)

/-- The load of an engine as placement compares it: operations per µs of window, summed (DESIGN CHOICE, log entry 71). -/
def placedLoad (t : State) (placed : List (Nat × Bytes)) (n : Nat) : Rat :=
  (placed.filter (fun e => e.1 == n)).foldl (fun a e =>
    a + ((graphCost t.stateCount e.2 : Nat) : Rat) / ((max 1 ((windowUs t e.2).getD 1) : Nat) : Rat)) 0

/-- Placement of the graphs in table order: an ENGINE index within the group, or the engine of the group with the lowest
load, the lowest number among equals (R73). -/
def placeGraphs (t : State) : List Bytes → List (Nat × Bytes) → List (Nat × Bytes)
  | [], done => done
  | g :: gs, done =>
    let es := groupEngines (gGroup g)
    let n := if byteAt g 3 = 0xFF then
        es.foldl (fun b e => if placedLoad t done e < placedLoad t done b then e else b) (es.headD 0)
      else es.getD (byteAt g 3) 16
    placeGraphs t gs (done ++ [(n, g)])

/-- Cost of an engine's pace-rate graphs. -/
def paceCost (t : State) (gs : List Bytes) : Nat :=
  ((gs.filter (fun g => gRate g == 0)).map (graphCost t.stateCount)).foldl (· + ·) 0

/-- The runs of a graph whose windows overlap a window [a, e) of the same or a coarser rate (R73). -/
def runsWithin (t : State) (rate a e : Nat) (g : Bytes) : Nat :=
  let per := rateUs t (gRate g)
  let b := markUs t (gStart g)
  let w := (windowUs t g).getD 1
  ((List.range (rateUs t rate / max 1 per)).filter (fun k => decide (b + k * per < e) && decide (a < b + k * per + w))).length

/-- The windows of a rate on one engine with their costs: every run in the window of a graph of the rate or, in a stage window,
of the leg rate, and the pace-rate graphs once per pace boundary inside (R73, item 1). A run that overlaps the window counts
whole, and a boundary at the window's start or end is not inside it (DESIGN CHOICE, log entry 71). -/
def windowLoads (t : State) (rate : Nat) (gs : List Bytes) : List (Nat × Nat) :=
  let cost := graphCost t.stateCount
  (gs.filter (fun g => gRate g == rate)).map (fun g =>
    let w := (windowUs t g).getD 1
    let a := markUs t (gStart g)
    let runs := gs.filter (fun h => if rate = 0 then gRate h == 0 else 1 ≤ gRate h && gRate h ≤ rate)
    let paces := if rate = 0 then 0 else (a + w - 1) / 1000 - a / 1000
    ((runs.map (fun h => runsWithin t rate a (a + w) h * cost h)).foldl (· + ·) 0 + paceCost t gs * paces, w))

namespace State

/-- ENG[n]_LOAD, _STAGE_LOAD, _GRAPHS and _SRAM as the loader sets them at placement. -/
def configEngine (s : State) (n : Nat) : State :=
  let gs := (graphsOf s).filter (fun g => s.engineOf g == n)
  let load (rate : Nat) : Nat := (windowLoads s rate gs).foldl (fun m w =>
    max m (min 1023 (w.1 * 1024 / max 1 (w.2 * 720)))) 0
  let s := s.wr (Reg.ENG_LOAD n) (load 1 * 2 ^ 16 + min 1023 (paceCost s gs * 1024 / 720000))
  let s := s.wr (Reg.ENG_STAGE_LOAD n) (load 2)
  let s := s.wr (Reg.ENG_GRAPHS n) (((gs.map gInsts).foldl (· + ·) 0) % 2 ^ 13 * 2 ^ 16 + gs.length % 2 ^ 7)
  s.wr (Reg.ENG_SRAM n) (((gs.map graphBytes).foldl (· + ·) 0) % 2 ^ 18)

/-- REGISTER_INIT: the records in order, each at once (R369). -/
def registerInit (s : State) : State :=
  let b := sectionOf s 0x0C
  s.each (List.range (b.length / 8)) (fun s i =>
    let a := beAt b (8 * i) 4 % 2 ^ 24
    let w := beAt b (8 * i + 4) 4
    match findRow a with
    | none => s
    | some r => match r.acc with
      | .rws => s.applyReg a w
      | .rw | .rwp => s.writeImm r a w
      | _ => s)

/-- Every unit's registers from the sections. -/
def configSections (s : State) : State :=
  let s := ((s.configLanes.configSensors).configPlanner).configRing
  s.configGnss.each (List.range 16) configEngine

/-- Every unit's registers from the working configuration. -/
def configAll (s : State) : State := s.configSections.registerInit

/-! ### A unit's cold start (R427, R433) -/

/-- Registers of a unit that a cold start leaves alone: what the Verge map holds (R432), the PPS settings held by the
timebase (R131), link and ring states, the role and the ownership pair (R430, R432), the observer's published state (it
lives on the engines and in the ring image), the origin and the demand in force (R171, R183), what the loader reports of
the boot and the NOR, and what the security unit has latched (R383). -/
def keepsReg (u a : Nat) : Bool :=
  match u with
  | 3 => a == Reg.SLV_VERGE
  | 6 => a == Reg.LOOP_STATUS || (Reg.LOOP_TAU 0 ≤ a && a ≤ Reg.LOOP_TAU 2) || (Reg.LOOP_ORIGIN_LAT ≤ a && a ≤ Reg.LOOP_ORIGIN_CTL)
  | 9 => (findRow a).any (fun r => r.acc == .ro)
  | 10 => a == Reg.GNS_VERGE || a == Reg.GNS_PPS_CTL || a == Reg.GNS_PPS_OFFSET
  | 16 => a == Reg.RING_STATUS || (findRow a).any (fun r => r.base == Reg.RING_PORT_STATUS 0)
  | 17 => a == Reg.RED_STATUS || a == Reg.RED_EPOCH || a == Reg.RED_OWNER
  | 19 | 20 => true
  | _ => false

/-- A unit's registers from the working configuration. -/
def coldRegs (s : State) (u : Nat) : State :=
  let s : State := { s with regs := s.regs.filter (fun e => unitOfAddr e.1 != u || keepsReg u e.1) }
  let t := s.configAll
  let s := s.each (t.regs.filter (fun e => unitOfAddr e.1 == u && !keepsReg u e.1)) (fun s e => s.wr e.1 e.2.toNat)
  if u = 7 then { s with sns := { s.sns with fir := t.sns.fir } } else s

/-- A unit's run state cleared. `service` tells a unit reset from the cold start on leaving HARBOUR or QUIET. -/
def coldUnit (s : State) (u : Nat) (service : Bool) : State :=
  -- a test that the closing aborted keeps its cause in LOOP_TEST_STATUS (R195)
  let test := if s.get Fl.LOOP_TEST_STATUS_STATE = 3 && s.get Fl.LOOP_TEST_STATUS_CAUSE = 4 then some (s.rd Reg.LOOP_TEST_STATUS) else none
  let s := s.coldRegs u
  let s := if u = 6 then (match test with | some w => s.wr Reg.LOOP_TEST_STATUS w | none => s) else s
  match u with
  | 3 => ({ s with eng := { s.eng with jobs := [] } } : State).solverClosed.hznReopened
  | 4 => ({ s with alc := {} } : State).slvBusy
  | 5 => ({ s with hzn := {} } : State).hznReopened
  | 6 => s.loopReopened
  | 7 => { s with sns := { s.sns with fir := s.sns.fir.map (fun e => (e.1, { e.2 with hist := [], cnt := 0, fade := none })) } }
  | 8 => { s with sns := { s.sns with ports := [], edges := [], skip := [], frame := none } }
  | 9 => { s with fus := { s.fus with inbox := [], inputs := [], parts := [], gated := [], marks := [], cmds := [], voted := [] } }
  | 10 => { s with gns := { s.gns with ch := [], vecRun := 0, clean := 0, hdgFixed := false, rtkFixed := false, base := none,
                                        baseAt := none, fifo := [], quiet := [] } }
  | 11 => { s with gns := { s.gns with timeHeld := false }, tim := {}, clock := { s.clock with inc := 0 } }
  | 12 => ({ s with fbk := s.fbStart } : State).lanesFbReset
  | 14 | 15 => { s with krb := {} }
  | 13 => if service then s else { s with lanes := {} }
  | 16 => { s with ring := { s.ring with
      a := {}, b := {}, slots := [], ins := [], fbIn := [], fbFrozen := [], got := [], misses := [], absent := [], dirty := [], rotor := 0
      lastSent := [], sent := [], cmdOut := none, lastCmds := [], trainOn := false, mail := [], txq := [], noSync := 3 } }
  | 17 => { s with red := { epochMram := s.red.epochMram } }
  | _ => s

/-- An engine's state from the working configuration: its counters and flags, and what its graphs kept (R61, R433). -/
def coldEngine (s : State) (n : Nat) : State :=
  let s := (((s.wr (Reg.ENG_INVALID n) 0).wr (Reg.ENG_SAT n) 0).wr (Reg.ENG_FLAGS n) 0).flag (Fl.ENG_STATUS_LATE n) false
  s.configEngine n |>.graphsLost n

/-- What a unit does as it reopens (R63): see each unit's own chapter. `service` as for `coldUnit`. -/
def reopenHook (s : State) (u : Uid) (service : Bool) : State :=
  match u with
  | .unit 3 | .unit 5 => s.hznReopened
  | .unit 6 => s.loopReopened
  | .unit 7 | .unit 8 => s.filterReopened
  | .unit 10 => s.gnssStart
  | .unit 13 => s.startLanes service
  | .unit 14 | .unit 15 => if s.isOpen 14 && s.isOpen 15 then s.kerbStart else s
  | .unit 20 => s.secReopened
  | .eng 10 | .eng 11 => s.hznLost
  | _ => s

end State

end Sys2Proof.Machine
end

