-- ==== Sys2Proof/Machine/ImageCheck.lean ====
section
/-! DEFINITION. Machine/ImageCheck.lean: what the loader checks of an image (R353, R354, R357 to R371) and the rule codes it
reports. An image under examination stands in a state's working configuration, so every rule reads it as its unit would. -/

namespace Sys2Proof.Machine

/-! ### Header, table, trailer (R357 to R360) -/

/-- A byte of the NOR: erased where nothing was programmed. -/
def norByte (l : Loader) (a : Nat) : Nat := match aGet l.nor a with | some b => b.toNat | none => 0xFF

/-- Bytes of the NOR. -/
def norRead (l : Loader) (a n : Nat) : Bytes := (List.range n).map (fun i => norByte l (a + i))

/-- A quarter of the array in bytes (R353). -/
def quarterOf (l : Loader) : Nat := 2 ^ l.density / 32

/-- The header's code: 0 for a candidate (R354, R357). -/
def headerCode (h : Bytes) (quarter : Nat) : Nat :=
  let len := beAt h 12 4
  if beAt h 0 4 ≠ 0x4A51494D ∨ beAt h 4 2 ≠ 1 ∨ beAt h 60 4 ≠ crc32c (h.take 60) ∨ quarter < len ∨ len % 4 ≠ 0 ∨
      len < 64 + 16 * byteAt h 9 + 128 then 0x0101
  else if beAt h 6 2 ≠ 0x6400 ∨ 0xB0 < byteAt h 8 then 0x0102
  else 0

/-- A section-table entry (R358). -/
structure SectEntry where
  ty : Nat
  optional : Bool
  off : Nat
  len : Nat
  crc : Nat
  deriving DecidableEq, Repr

/-- The section table of an image (R357, R358). -/
def sectTable (img : Bytes) : List SectEntry :=
  (List.range (byteAt img 9)).map (fun i =>
    let o := 64 + 16 * i
    ⟨beAt img o 2, (byteAt img (o + 2)).testBit 0, beAt img (o + 4) 4, beAt img (o + 8) 4, beAt img (o + 12) 4⟩)

/-- Overlap, bounds, alignment, duplicate or unknown TYPE (R358, R359). -/
def sectTableOk (img : Bytes) : Bool :=
  let l := sectTable img
  let n := byteAt img 9
  1 ≤ n && n ≤ 32 &&
  l.all (fun e => e.off % 4 == 0 && decide (64 + 16 * n ≤ e.off) && decide (e.off + e.len + 128 ≤ img.length) &&
    ((1 ≤ e.ty && e.ty ≤ 13) || e.optional)) &&
  (List.range l.length).all (fun i => (List.range i).all (fun j =>
    let a := l.getD i ⟨0, false, 0, 0, 0⟩
    let b := l.getD j ⟨0, false, 0, 0, 0⟩
    a.ty != b.ty && (decide (a.off + a.len ≤ b.off) || decide (b.off + b.len ≤ a.off))))

/-- The sections the loader knows, with their bodies. -/
def imageSections (img : Bytes) : List (Nat × Bytes) :=
  ((sectTable img).filter (fun e => 1 ≤ e.ty && e.ty ≤ 13)).map (fun e => (e.ty, (img.drop e.off).take e.len))

/-- The reserved fields that R357 gives as zero, and the section table's FLAGS above bit 0 (R358). -/
def headZero (img : Bytes) : Bool :=
  let z (o n : Nat) : Bool := ((img.drop o).take n).all (· == 0)
  z 10 2 && z 38 22 && (List.range (byteAt img 9)).all (fun i => byteAt img (66 + 16 * i) ≤ 1)

/-- Required sections are present (R359). -/
def sectsPresent (l : List (Nat × Bytes)) : Bool :=
  let h (t : Nat) : Bool := l.any (fun e => e.1 == t)
  [1, 2, 5, 6, 7, 8, 9, 13].all h && (!h 3 || h 4)

/-- Every section's CRC (R358). -/
def sectCrcs (img : Bytes) : Bool := (sectTable img).all (fun e => e.crc == crc32c ((img.drop e.off).take e.len))

/-- The digest that is signed and whose first bytes are IMAGE (R333, R360). -/
def imageDigest (img : Bytes) : Bytes := sha256 (img.take (img.length - 64))

/-- The key hash, then the signature (R360). -/
def trailerCode (img : Bytes) : Nat :=
  let n := img.length
  let key := (img.drop (n - 128)).take 64
  let sig := img.drop (n - 64)
  if beNat (sha256 key) ≠ Config.vkh then 0x0106
  else if ecdsaVerify (beAt key 0 32) (beAt key 32 32) (beAt sig 0 32) (beAt sig 32 32) (beNat (imageDigest img)) then 0
  else 0x0107

/-- LAYOUT (R333): over the bodies of the route-graph, lane, sensor, filter-bank, allocation-geometry and ring-and-time
sections, in section-table order. -/
def imageLayout (img : Bytes) : Nat :=
  beAt (sha256 (((imageSections img).filter (fun e => [1, 2, 3, 4, 6, 8].contains e.1)).flatMap (·.2))) 0 8

/-! ### The loader rules (R371), on a state whose working configuration is the image -/

/-- A binary32 word is finite; the sign bit clear where `pos`. -/
def f32Ok (pos : Bool) (v : Nat) : Bool := v / 2 ^ 23 % 256 != 255 && (!pos || v < 2 ^ 31)

/-- No two elements alike. -/
def noRepeat : List Nat → Bool
  | [] => true
  | a :: l => !l.contains a && noRepeat l

/-- Lanes whose descriptor is in use, as the LANES section has them. -/
def imageLanes (t : State) : List Nat := (List.range 64).filter (fun n => (beAt (sectionOf t 2) (40 * n) 4).testBit 7)

/-- Word i of a lane's descriptor (R361). -/
def laneWord (t : State) (n i : Nat) : Nat := beAt (sectionOf t 2) (40 * n + 4 * i) 4

/-- LANES (R255). -/
def lanesInRange (t : State) : Bool :=
  (sectionOf t 2).length == 2560 && (imageLanes t).all (fun n =>
    let b := laneWord t n 0
    let slot (v : Nat) : Bool := v ≤ 95 || v == 127
    let sf := laneWord t n 3
    let cpr := laneWord t n 4 % 2 ^ 24
    let g := sf / 256 % 16
    let r := laneWord t n 8 % 65536
    slot (b / 256 % 128) && slot (b / 65536 % 128) && (g ≤ 3 || g == 15) && 1 ≤ sf / 65536 % 256 && 1 ≤ cpr &&
      laneWord t n 5 % 2 ^ 24 < cpr && f32Ok true (laneWord t n 6) && 100 ≤ r && r ≤ 60000)

/-- Bytes [off, off + n) are zero. -/
def zeroAt (b : Bytes) (off n : Nat) : Bool := ((b.drop off).take n).all (· == 0)

/-- A framing descriptor's ranges (R85). -/
def framingOk (d : Bytes) : Bool :=
  let n := beAt d 2 2
  let k := byteAt d 13
  1 ≤ byteAt d 0 && byteAt d 0 ≤ 4 && byteAt d 1 ≤ 4 && (n == 0 || (4 ≤ n && n ≤ 512)) &&
    zeroAt d (4 + byteAt d 0) (4 - byteAt d 0) && (n != 0 || byteAt d 9 == 1 || byteAt d 9 == 2) && byteAt d 12 ≤ 1 &&
    1 ≤ k && k ≤ 16 && zeroAt d 14 2 && zeroAt d (16 + 12 * k) (192 - 12 * k) &&
    (List.range k).all (fun i =>
      let r := (d.drop (16 + 12 * i)).take 12
      1 ≤ byteAt r 2 && byteAt r 2 ≤ 4 && byteAt r 3 ≤ 3 && byteAt r 4 ≤ 47 && zeroAt r 5 3 && f32Ok false (beAt r 8 4))

/-- SENSORS and FILTER_BANKS (R79, R85, R362, R363). -/
def sensorsInRange (t : State) : Bool :=
  let b := sectionOf t 3
  let f := sectionOf t 4
  if b.isEmpty then true else
    let cs := State.chRecs (f.drop 4) (byteAt f 0)
    let rs := strRecs t
    byteAt b 0 ≤ 48 && byteAt b 1 ≤ 16 && b.length == 64 + 32 * byteAt b 0 + 208 * byteAt b 1 &&
    (List.range 5).all (fun p => Rw.SNS_PORT_CFG.legalOk (beAt b (4 + 4 * p) 4)) &&
    (List.range 2).all (fun i => State.trigLegal (beAt b (28 + 12 * i) 4 % 2 ^ 20) (beAt b (32 + 12 * i) 4 % 2 ^ 20) (beAt b (36 + 12 * i) 4)) &&
    noRepeat (rs.map (fun r => byteAt r 0)) && noRepeat (rs.map (fun r => byteAt r 21)) &&
    rs.all (fun r => byteAt r 0 ≤ 47 && 1 ≤ byteAt r 1 && byteAt r 1 ≤ 7 && byteAt r 2 ≤ 31 && byteAt r 3 ≤ 1 &&
      250 ≤ beAt r 12 4 && beAt r 12 4 ≤ 10000000 && beAt r 16 4 ≤ 1048575 && byteAt r 20 ≤ 2 && byteAt r 21 ≤ 47 &&
      2 ≤ byteAt r 22 && byteAt r 24 ≤ 6 && zeroAt r 25 3 && f32Ok true (beAt r 28 4) && (byteAt r 1 == 6 || byteAt r 2 == 0) &&
      (byteAt r 1 == 7 || beAt r 4 2 == 0) && (byteAt r 3 != 1 || byteAt r 11 ≤ 15)) &&
    (List.range (byteAt b 1)).all (fun i => framingOk (framingOf t i)) &&
    byteAt f 0 ≤ 48 && noRepeat (cs.map (fun r => byteAt r 0)) &&
    cs.all (fun r => byteAt r 0 ≤ 47 && 1 ≤ byteAt r 2 && byteAt r 2 ≤ 64 && 1 ≤ beAt r 4 2 && beAt r 4 2 ≤ 768 && beAt r 6 2 ≤ 768 &&
      r.length == 20 + 4 * (beAt r 4 2 + beAt r 6 2))

/-- MODEL (R141, R364). -/
def modelInRange (t : State) : Bool :=
  let b := sectionOf t 5
  b.length == 1192 && (List.range 154).all (fun i => f32Ok false (beAt b (4 * i) 4)) &&
    (List.range 18).all (fun k =>
      let r := (b.drop (616 + 32 * k)).take 32
      byteAt r 0 ≤ 4 && f32Ok true (beAt r 16 4) && f32Ok true (beAt r 20 4))

/-- The ranges of a lane's geometry record (R205). N_GON and T_NEG = 0 belong to an AZIMUTH lane, RATE_A to an azimuth or a
rudder; the rest is every kind's, AUX included. -/
def allocLaneOk (g : Bytes) : Bool :=
  let k := byteAt g 0
  k ≤ 4 && (k != 0 || ([8, 16, 32].contains (byteAt g 1) && beAt g 20 4 == 0)) && (byteAt g 2 ≤ 7 || byteAt g 2 == 0xFF) &&
    byteAt g 3 ≤ 4 && beAt g 16 4 ≤ 10000000 && beAt g 20 4 ≤ 10000000 && 1 ≤ beAt g 24 4 && beAt g 24 4 ≤ 10000000 &&
    ((k != 0 && k != 3) || (1 ≤ beAt g 28 4 && beAt g 28 4 ≤ 2000000)) && f32Ok false (beAt g 36 4) &&
    f32Ok false (beAt g 40 4) && decide (0 < f32Q (beAt g 40 4)) && f32Ok false (beAt g 44 4) && decide (0 ≤ f32Q (beAt g 44 4)) &&
    f32Ok false (beAt g 48 4) && zeroAt g 54 2 && zeroAt g (56 + 8 * byteAt g 3) (32 - 8 * byteAt g 3)

/-- D_A in µs (R34). -/
def deadlineInRange (t : State) : Bool :=
  let d := beAt (sectionOf t 6) 0 2
  200 ≤ d && d ≤ 800 && d % 25 == 0

/-- ALLOC_GEOMETRY of the lanes in use (R34, R205, R365). -/
def allocInRange (t : State) : Bool :=
  let b := sectionOf t 6
  b.length == 16 + 64 * 88 && deadlineInRange t && (byteAt b 2 == 16 || byteAt b 2 == 32) &&
    (imageLanes t).all (fun n => allocLaneOk (geomOf t n))

/-- Bytes of entry i of a set, by the set's place in the directory (R366). -/
def kerbEntryBytes (t : State) (d i : Nat) : Bytes :=
  ((sectionOf t 7).drop (beAt (sectionOf t 7) (8 + 8 * d) 4 + 64 * i)).take 64

/-- Places of the directory with the number of their entries. -/
def kerbDir (t : State) : List (Nat × Nat) := (List.range (nSets t)).map (fun d => (d, byteAt (sectionOf t 7) (5 + 8 * d)))

/-- KERB_ENVELOPE (R266, R280, R366). -/
def kerbInRange (t : State) : Bool :=
  let b := sectionOf t 7
  let w := beAt b 2 2
  byteAt b 1 ≤ 64 && 50 ≤ w && w ≤ 300 && decide (connTable t + 1024 + 2 * byteAt b 1 ≤ b.length) &&
    noRepeat ((kerbDir t).map (fun d => byteAt b (4 + 8 * d.1))) &&
    (kerbDir t).all (fun d => 1 ≤ d.2 && d.2 ≤ 64 && decide (beAt b (8 + 8 * d.1) 4 + 64 * d.2 ≤ b.length) &&
      (List.range d.2).all (fun i =>
        let e := kerbEntryBytes t d.1 i
        let thr (o : Nat) : Bool := beAt e o 4 ≤ 10000000 || (o == 48 && beAt e o 4 == 0x7FFFFFFF)
        beAt e 0 4 ≤ 2000000 && byteAt e 4 ≤ 4 && byteAt e 5 ≤ 4 && 1 ≤ byteAt e 6 && byteAt e 6 ≤ 16 && 1 ≤ byteAt e 7 &&
          byteAt e 7 ≤ 8 && thr 40 && thr 48))

/-- RING_TIME (R31, R352, R367). -/
def ringInRange (t : State) : Bool :=
  let b := sectionOf t 8
  let n := byteAt b 13
  byteAt b 2 ≤ 2 && 2 ≤ byteAt b 12 && byteAt b 12 ≤ 8 && [5, 10, 20].contains n && 50 ≤ n * byteAt b 14 &&
    n * byteAt b 14 ≤ 400 && Rw.TIM_SRC.legalOk (beAt b 18 2) && decide (20 + 4 * beAt b 16 2 + (byteAt b 15 + 3) / 4 * 4 ≤ b.length) && byteAt b 3 ≤ 7 &&
    (slotList t).all (fun x => 12 ≤ x.2 && x.2 ≤ 512 && x.2 % 4 == 0)

/-- LOOP_SLOTS, GNSS, SECURITY_POLICY and PUBLIC_KEYS (R361, R368, R370, R381). -/
def othersInRange (t : State) : Bool :=
  let l := sectionOf t 13
  let g := sectionOf t 11
  let p := sectionOf t 9
  let k := sectionOf t 10
  l.length == 384 && (List.range 96).all (fun i =>
    let w := beAt l (4 * i) 4
    w % 4 ≤ 2 && w / 256 % 16 ≤ 8 && w / 4096 % 1024 ≤ 767) &&
  (g.isEmpty || (byteAt g 0 ≤ 64 && decide (64 + 16 * byteAt g 0 ≤ g.length))) &&
  p.length == 16 && (List.range 16).all (fun i => if i < 7 then byteAt p i ≤ 3 else byteAt p i == 0) &&
  k.length % 72 == 0 && (List.range (k.length / 72)).all (fun i => byteAt k (72 * i) == 1 && byteAt k (72 * i + 1) ≤ 3)

/-- The sizes that the catalogue limits (R77, R102, R186), and the ring image's extent (R314). -/
def blockSizes (g x : Bytes) : Bool :=
  let n := inCount g x 0
  let o := outCount g x 0
  let p := instParam g x
  let ring (words : Nat) : Bool := words ≤ 64 && p 0 % 4 == 0 && decide (p 0 + 4 * words ≤ 65536)
  match byteAt x 0 with
  | 0x07 => o ≤ 16 && n ≤ 16
  | 0x0A => 2 ≤ p 0 && p 0 ≤ 64
  | 0x11 => decide (((instIns x).map (sigCount g)).sum ≤ 16)
  | 0x12 => n ≤ 6
  | 0x14 => o == 16 || o == 32
  | 0x15 => n ≤ 12
  | 0x16 => o ≤ 192
  | 0x18 => p 0 ≤ 95
  | 0x1A => ring o
  | 0x1B => ring n
  | _ => true

/-- A graph's signal records (R75). -/
def sigsOk (g : Bytes) : Bool :=
  (List.range (gSigs g)).all (fun k =>
    let c := sigCount g k
    1 ≤ c && c ≤ 256 && sigType g k ≤ 3 && sigQty g k ≤ 5 && (sigType g k == 1 || sigQty g k == 0))

/-- A graph's instance records (R76): a block of the catalogue, parameters inside the parameter area, reserved fields zero. -/
def instsOk (g : Bytes) : Bool :=
  (List.range (gInsts g)).all (fun i =>
    let x := instAt g i
    1 ≤ byteAt x 0 && byteAt x 0 ≤ 0x1E && byteAt x 1 ≤ 1 && zeroAt x 20 4 &&
      decide (beAt g 24 4 + 4 * (beAt x 4 4 + beAt x 2 2) ≤ g.length) && blockSizes g x)

/-- A graph's header, with its tables and parameter area inside its length (R74 to R76). -/
def graphInRange (g : Bytes) : Bool :=
  gGroup g ≤ 6 && (byteAt g 3 == 0xFF || byteAt g 3 < (groupEngines (gGroup g)).length) && gRate g ≤ 2 && gStart g ≤ 11 && gEnd g ≤ 11 &&
    gFlags g ≤ 1 && 1 ≤ gSigs g && gSigs g ≤ 1024 && 1 ≤ gInsts g && gInsts g ≤ 1024 &&
    beAt g 28 4 == g.length && g.length % 4 == 0 && 32 ≤ beAt g 16 4 && decide (beAt g 16 4 + 4 * gSigs g ≤ g.length) &&
    32 ≤ beAt g 20 4 && decide (beAt g 20 4 + 24 * gInsts g ≤ g.length) && 32 ≤ beAt g 24 4 && beAt g 24 4 ≤ g.length &&
    sigsOk g && instsOk g

/-- RANGE: every field within its stated range. -/
def rangeRule (t : State) : Bool :=
  lanesInRange t && sensorsInRange t && modelInRange t && allocInRange t && kerbInRange t && ringInRange t && othersInRange t &&
    (graphsOf t).length == beAt (sectionOf t 1) 0 2 && (graphsOf t).all graphInRange

/-- Lanes that the allocation serves: in use and not AUX (R215). -/
def allocated (t : State) : List Nat := (imageLanes t).filter (fun n => laneKind t n != 4)

/-- DEADLINE (R215). -/
def deadlineRule (t : State) : Bool := decide (15 + 100 + 5 * (allocated t).length ≤ beAt (sectionOf t 6) 0 2)

/-- R70 within a graph: an instance reads only what an earlier one has written, or a HOLD's output. -/
def readsOk (g : Bytes) : Bool :=
  let outs (i : Nat) : List Nat := instOuts (instAt g i)
  let holds := (List.range (gInsts g)).flatMap (fun i => if byteAt (instAt g i) 0 = 0x0F then outs i else [])
  (List.range (gInsts g)).all (fun i => (instIns (instAt g i)).all (fun k =>
    decide (k < gSigs g) && (holds.contains k || (List.range i).any (fun j => (outs j).contains k)))) &&
  (List.range (gInsts g)).all (fun i => (outs i).all (fun k => decide (k < gSigs g)))

/-- GRAPH (R70, R73, R74). -/
def graphRule (t : State) : Bool :=
  let gs := graphsOf t
  noRepeat (gs.map gId) && gs.all (fun g => gId g != 0 && gId g != 0xFFFF && readsOk g &&
    graphCost t.stateCount g == beAt g 12 4 && (windowUs t g).isSome)

/-- The ring-image ranges that a graph writes (R77, RING_WRITE). -/
def ringWrites (g : Bytes) : List (Nat × Nat) :=
  (List.range (gInsts g)).flatMap (fun i =>
    let x := instAt g i
    if byteAt x 0 = 0x1B then
      (match (instIns x)[0]? with | some k => [(instParam g x 0, 4 * sigCount g k)] | none => [])
    else [])

/-- Two ranges of bytes have one in common. -/
def rangesMeet (a b : Nat × Nat) : Bool := decide (a.1 < b.1 + b.2) && decide (b.1 < a.1 + a.2)

/-- A range of the ring image meets a page that a fixed unit writes: 0x00 to 0x0F and 0x20 to 0x33 (R314). -/
def unitPage (a : Nat × Nat) : Bool := rangesMeet a (0, 0x1000) || rangesMeet a (0x2000, 0x1400)

/-- Another graph or a fixed unit writes a ring-image field of a graph (R57). -/
def sharesField (t : State) (g : Bytes) : Bool :=
  (ringWrites g).any (fun a => unitPage a ||
    (graphsOf t).any (fun h => gId h != gId g && (ringWrites h).any (rangesMeet a)))

/-- WRITERS (R57): no ring-image field written by two graphs or by a graph and a fixed unit, no signal by two instances. -/
def writersRule (t : State) : Bool :=
  (graphsOf t).all (fun g => !sharesField t g && noRepeat ((List.range (gInsts g)).flatMap (fun i => instOuts (instAt g i))))

/-- PLACEMENT (R73, items 1 to 3). -/
def placementRule (t : State) : Bool :=
  let placed := placeGraphs t (graphsOf t) []
  (List.range 16).all (fun n =>
    let gs := (placed.filter (fun e => e.1 == n)).map (·.2)
    let sum (l : List Nat) : Nat := l.foldl (· + ·) 0
    (List.range 3).all (fun rate => (windowLoads t rate gs).all (fun w => 100 * w.1 ≤ 85 * w.2 * 720)) &&
      gs.length ≤ 64 && sum (gs.map gInsts) ≤ 4096 && sum (gs.map graphBytes) ≤ 229376) &&
  placed.all (fun e => decide (e.1 < 16))

/-- DEST (R140). -/
def destRule (t : State) : Bool := (strRecs t).all (fun r => byteAt r 23 ≤ 43)

/-- FIR_POOL (R102). -/
def firRule (t : State) : Bool :=
  let f := sectionOf t 4
  let cs := State.chRecs (f.drop 4) (byteAt f 0)
  let taps (c : Nat) : Nat := ((cs.filter (fun r => byteAt r 0 == c)).map (fun r => beAt r 4 2 + beAt r 6 2)).foldl (· + ·) 0
  decide ((cs.map (fun r => beAt r 4 2 + beAt r 6 2)).foldl (· + ·) 0 ≤ 12288) &&
    decide ((strRecs t).foldl (fun (a : Rat) r =>
      a + (1000000 : Rat) / ((strNom r : Nat) : Rat) * ((taps (byteAt r 21) : Nat) : Rat)) 0 ≤ 112500000)

/-- The words of LOOP_SLOTS. -/
def slotWord (t : State) (k : Nat) : Nat := beAt (sectionOf t 13) (4 * k) 4

/-- SLOTS (R189). -/
def slotsRule (t : State) : Bool :=
  let first (k : Nat) : Nat := slotWord t k / 4096 % 1024
  let n (k : Nat) : Nat := slotWord t k / 256 % 16
  (List.range 3).all (fun k => slotWord t k % 4 == 2) && (List.range 96).all (fun k => decide (first k + n k ≤ 768)) &&
    (List.range 96).all (fun k => (List.range k).all (fun j =>
      decide (first k + n k ≤ first j) || decide (first j + n j ≤ first k) || n k == 0 || n j == 0))

/-- LANE_BIND (R255). `cfg` is the configured machine, for the feedback channels' modes. -/
def bindRule (t cfg : State) : Bool :=
  let ls := imageLanes t
  let slots := ls.flatMap (fun n => [laneWord t n 0 / 256 % 128, laneWord t n 0 / 65536 % 128].filter (· ≤ 95))
  let src := ls.flatMap (fun n => [laneWord t n 0 % 8, laneWord t n 0 / 16 % 8])
  noRepeat slots && slots.all (fun k => slotWord t k % 4 == 1) &&
    ls.all (fun n =>
      let k := laneKind t n
      ((k != 0 && k != 3) || laneWord t n 0 % 8 != 7) && (k == 4 || laneWord t n 0 / 16 % 8 != 7)) &&
    noRepeat (ls.map (fun n => laneWord t n 1 / 65536 * 16 + laneWord t n 1 % 16)) &&
    src.all (fun c => decide (6 ≤ c) || cfg.get (Fl.FB_CFG_MODE c) != 0)

/-- Sectors as (START, END): none overlap, none spans more than 180°. -/
def sectorsApart (l : List (Nat × Nat)) : Bool :=
  let span (x : Nat × Nat) : Nat := (x.2 + 2 ^ 32 - x.1) % 2 ^ 32
  l.all (fun x => span x ≤ 2 ^ 31) && (List.range l.length).all (fun i => (List.range i).all (fun j =>
    let a := l.getD i (0, 0)
    let b := l.getD j (0, 0)
    !decide ((b.1 + 2 ^ 32 - a.1) % 2 ^ 32 < span a) && !decide ((a.1 + 2 ^ 32 - b.1) % 2 ^ 32 < span b)))

/-- Wedges that the arcs between sectors give (R201). -/
def wedgeCount (l : List (Nat × Nat)) : Nat :=
  if l.isEmpty then 2
  else (l.map (fun x =>
    let arc := (l.map (fun y => (y.1 + 2 ^ 32 - x.2) % 2 ^ 32)).foldl min (2 ^ 32)
    (arc + 2 ^ 31 - 1) / 2 ^ 31)).foldl (· + ·) 0

/-- A sector lies inside another. -/
def sectorInside (x y : Nat × Nat) : Bool :=
  decide ((x.1 + 2 ^ 32 - y.1) % 2 ^ 32 + (x.2 + 2 ^ 32 - x.1) % 2 ^ 32 ≤ (y.2 + 2 ^ 32 - y.1) % 2 ^ 32)

/-- A lane's allocation sectors, and its Kerb sectors in a set by its place in the directory. -/
def laneSectors (t : State) (n : Nat) : List (Nat × Nat) := sectorsAt (geomOf t n) 56 (byteAt (geomOf t n) 3)
def kerbSectors (t : State) (n d : Nat) : List (Nat × Nat) :=
  let e := kerbEntryBytes t d (laneWord t n 3 % 64)
  sectorsAt e 8 (byteAt e 4)

/-- Places of the sets that have an entry for the lane. -/
def laneSets (t : State) (n : Nat) : List Nat := ((kerbDir t).filter (fun d => laneWord t n 3 % 64 < d.2)).map (·.1)

/-- A lane's allocation sectors by themselves (R201). -/
def sectorShape (t : State) (n : Nat) : Bool :=
  let l := laneSectors t n
  laneKind t n != 0 || (sectorsApart l && l.all (fun x => decide (2 ^ 32 ≤ (x.2 + 2 ^ 32 - x.1) % 2 ^ 32 * 720)) && decide (wedgeCount l ≤ 4))

/-- A lane's Kerb sectors lie inside its allocation sectors, in every set that has an entry for it (R201). -/
def sectorHolds (t : State) (n : Nat) : Bool :=
  laneKind t n != 0 || (laneSets t n).all (fun d => (kerbSectors t n d).all (fun x => (laneSectors t n).any (sectorInside x)))

/-- ALLOC_SECTOR (R201). -/
def sectorRule (t : State) : Bool := (imageLanes t).all (fun n => sectorShape t n && sectorHolds t n)

/-- ENVELOPE (R266). -/
def envelopeRule (t : State) : Bool :=
  (kerbDir t).all (fun d => (List.range d.2).all (fun i =>
    let e := kerbEntryBytes t d.1 i
    sectorsApart (sectorsAt e 8 (byteAt e 4)) && decide (beAt e 52 4 ≤ beAt e 48 4))) &&
  (imageLanes t).all (fun n =>
    let local_ := laneWord t n 0 / 16 % 8 < 6
    let remote := laneWord t n 0 % 8 == 6 || laneWord t n 0 / 16 % 8 == 6
    let used (c : Nat) : Bool := byteAt (sectionOf t 7) (connTable t + 4 * c + 2) != 0
    (laneSets t n).all (fun d => !(local_ && 3 ≤ byteAt (kerbEntryBytes t d (laneWord t n 3 % 64)) 5)) &&
      (!remote || (used (2 * n) && used (2 * n + 1))))

/-- CONNECTION (R283). -/
def connectionRule (t : State) : Bool :=
  let b := sectionOf t 7
  let cyc := 125 * 2 ^ byteAt (sectionOf t 8) 2
  let used := (List.range 256).filter (fun c => byteAt b (connTable t + 4 * c + 2) != 0)
  noRepeat (used.map (fun c => beAt b (connTable t + 4 * c) 2)) &&
    (used.filter (fun c => 128 ≤ c)).all (fun c => decide (1000 ≤ byteAt b (connTable t + 4 * c + 2) * cyc)) &&
    ((imageLanes t).filter (fun n => laneWord t n 3 / 256 % 16 == 15)).all (fun n =>
      (stopNodes t).contains (laneWord t n 1 / 65536))

/-- T_train and the end of the last COLLECT frame in ns (R304). -/
def trainNs (t : State) : Nat × Nat :=
  let wire (n : Nat) : Nat := (max 64 (n + 34) + 20) * 8
  let nodes := ((imageLanes t).map (fun n => laneWord t n 1 / 65536)).eraseDups
  let command := 4 * nodes.length + 24 * (imageLanes t).length
  let collect := (State.packSlots ((slotList t).map (fun x => List.replicate x.2 0)) []).foldl (fun a b => a + wire b.length) 0
  let pages := match byteAt (sectionOf t 8) 2 with | 0 => 20 | 1 => 40 | _ => 64
  let head := wire 72 + wire command + collect
  (head + pages * wire 264, head)

/-- RING_BUDGET (R299, R304). -/
def ringRule (t : State) : Bool :=
  let b := sectionOf t 8
  let code := byteAt b 2
  let cyc := 125000 * 2 ^ code
  let n := beAt b 16 2
  let (train, collect) := trainNs t
  decide (n ≤ (match code with | 0 => 64 | 1 => 128 | _ => 254)) && decide (10 * train ≤ 8 * cyc) &&
    decide (collect + (n - 1) * 800 + beAt b 8 4 + 20000 ≤ cyc)

/-- IMAGE_PAGE (R314). -/
def pageRule (t : State) : Bool := (graphsOf t).all (fun g => (ringWrites g).all (fun w => decide (0x4000 ≤ w.1)))

/-- MILESTONE (R337, R338): the data that the active would send, its head included; the content's encoding is open (log entry
40). -/
def milestoneRule (cfg : State) : Bool :=
  decide (4 + msSize (MsItem.fastItems cfg [6, 7, 8]) ≤ 24576) && decide (4 + msSize (MsItem.fullItems cfg) ≤ 98304)

/-- REG_INIT (R369): each record on the machine as the records before it leave it. -/
def regInitRule (cfg : State) : Nat → Bytes → Bool
  | 0, _ => true
  | n + 1, b =>
    if b.isEmpty then true else
      let a := beAt b 0 4 % 2 ^ 24
      let w := beAt b 4 4
      match findRow a with
      | none => false
      | some r =>
        let cfg := cfg.flag Fl.HIF_STATUS_BAD_WRITE false
        if !(r.acc == .rw || r.acc == .rwp || r.acc == .rws) || !r.legalOk w then false
        else
          let x := if r.acc == .rws then cfg.writeStaged r a w else cfg.writeImm r a w
          if x.is Fl.HIF_STATUS_BAD_WRITE then false
          else
            let y := if r.acc == .rws then cfg.applyReg a w else x
            if y.is Fl.HIF_STATUS_BAD_WRITE then false else regInitRule y n (b.drop 8)

/-- HORIZON (R226), on the configured machine. -/
def horizonRule (cfg : State) : Bool := cfg.horizonOk (cfg.rd Reg.HZN_HORIZON)

/-- The machine as an image's sections would configure it from reset. -/
def configured (t : State) : State := ({ t with regs := [], staged := [] } : State).configSections

/-- The first loader rule broken, in the order of R371; 0 where none is. -/
def ruleCode (t : State) : Nat :=
  let pre := configured t
  let b := sectionOf t 0x0C
  let cfg := pre.registerInit
  if !rangeRule t then 0x0201
  else if !deadlineRule t then 0x0202
  else if !graphRule t then 0x0203
  else if !writersRule t then 0x0204
  else if !placementRule t then 0x0205
  else if !destRule t then 0x0206
  else if !firRule t then 0x0207
  else if !slotsRule t then 0x0208
  else if !bindRule t cfg then 0x0209
  else if !sectorRule t then 0x020A
  else if !envelopeRule t then 0x020B
  else if !connectionRule t then 0x020C
  else if !horizonRule cfg then 0x020D
  else if !ringRule t then 0x020E
  else if !pageRule t then 0x020F
  else if !milestoneRule cfg then 0x0210
  else if b.length % 8 ≠ 0 || !regInitRule pre (b.length / 8) b then 0x0211
  else 0

/-- A state whose working configuration is the image: its sections and where its graphs are placed (R73). -/
def withImage (s : State) (secs : List (Nat × Bytes)) : State :=
  let t : State := { s with ldr := { s.ldr with sections := secs } }
  let placed := placeGraphs t (graphsOf t) []
  let at_ := placed.foldl (fun l e => aSet l (gId e.2) e.1) []
  { t with ldr := { t.ldr with graphsAt := at_ } }

/-- The code of an image (R371): header, table, sections, trailer, loader rules. -/
def imageCode (s : State) (img : Bytes) : Nat :=
  let h := headerCode img (quarterOf s.ldr)
  if h ≠ 0 then h
  else if !sectTableOk img then 0x0103
  else if !sectsPresent (imageSections img) then 0x0104
  else if !sectCrcs img then 0x0105
  else
    let c := trailerCode img
    if c ≠ 0 then c else if !headZero img then 0x0201 else ruleCode (withImage s (imageSections img))

/-- The image of a slot: 0 factory, 1 A, 2 B (R353). -/
def slotImage (l : Loader) (slot : Nat) : Bytes :=
  let base := slot * quarterOf l
  norRead l base (min (beAt (norRead l base 64) 12 4) (quarterOf l))

/-- The code of a slot, whose header may not even give a length. -/
def slotCode (s : State) (slot : Nat) : Nat :=
  let h := headerCode (norRead s.ldr (slot * quarterOf s.ldr) 64) (quarterOf s.ldr)
  if h ≠ 0 then h else imageCode s (slotImage s.ldr slot)

end Sys2Proof.Machine
end

