-- ==== Sys2Proof/Machine/TollgateOps.lean ====
section
/-! DEFINITION. Machine/TollgateOps.lean: the Tollgate (R375 to R379). -/

namespace Sys2Proof.Machine

/-! ### What may be staged (R375) -/

/-- Whether a block's parameter word sets a signal size or a cost term (R77). -/
def sizeParam (block k : Nat) : Bool :=
  match block with
  | 0x07 | 0x12 => k ≤ 1
  | 0x0A | 0x14 | 0x15 | 0x16 => k == 0
  | 0x11 | 0x1A | 0x1B => k == 1
  | _ => false

/-- Word j of a graph's parameter area is a stageable one. -/
def paramStageable (g : Bytes) (j : Nat) : Bool :=
  let users := ((List.range (gInsts g)).map (instAt g)).filter (fun x =>
    decide (beAt x 4 4 ≤ j) && decide (j < beAt x 4 4 + beAt x 2 2))
  !users.isEmpty && users.all (fun x => !sizeParam (byteAt x 0) (j - beAt x 4 4))

/-- The graphs with their offsets in ROUTE_GRAPHS. -/
def graphSpans : List Bytes → Nat → List (Nat × Bytes)
  | [], _ => []
  | g :: l, off => (off, g) :: graphSpans l (off + g.length)

/-- The graph that holds an offset of ROUTE_GRAPHS, with its own offset. -/
def graphAt (s : State) (off : Nat) : Option (Nat × Bytes) :=
  (graphSpans (graphsOf s) 4).find? (fun e => decide (e.1 ≤ off) && decide (off < e.1 + e.2.length))

/-- A byte of an image field that may be staged. -/
def byteStageable (ty i : Nat) : Bool :=
  match ty with
  | 6 => i < 2 || (16 ≤ i && (let j := (i - 16) % 88; 2 ≤ j && j != 54 && j != 55))
  | 5 => (496 ≤ i && i < 536) || (616 ≤ i && i < 1192 && (let j := (i - 616) % 32; 16 ≤ j && j < 24))
  | _ => false

/-- An entry's section type and byte offset, and its register address. -/
def tgType (a : Nat) : Nat := a / 2 ^ 24 % 128
def tgOff (a : Nat) : Nat := a % 2 ^ 24
def tgImage (a : Nat) : Bool := a.testBit 31

/-- An entry names a target that is stageable: of a word only the bytes of stageable fields may change. -/
def stageable (s : State) (e : Nat × Word) : Bool :=
  let a := e.1
  if !tgImage a then (findRow a).any (fun r => r.acc == .rws)
  else
    let b := sectionOf s (tgType a)
    let off := tgOff a
    off % 4 == 0 && decide (off + 4 ≤ b.length) &&
    (if tgType a = 1 then
      (match graphAt s off with
        | none => false
        | some (o, g) =>
          let p := o + beAt g 24 4
          decide (p ≤ off) && (off - p) % 4 == 0 && paramStageable g ((off - p) / 4))
    else (List.range 4).any (fun i => byteStageable (tgType a) (off + i)) &&
      (List.range 4).all (fun i => byteStageable (tgType a) (off + i) ||
        byteAt b (off + i) == (toBE 4 e.2.toNat).getD i 0))

/-- The unit that an entry names: of an image field, the unit that reads it (log entry 47). -/
def tgUnit (s : State) (a : Nat) : Uid :=
  if !tgImage a then .unit (unitOfAddr a)
  else match tgType a with
    | 6 => .unit 4
    | 5 => .unit 9
    | _ => .eng (((graphAt s (tgOff a)).map (fun e => s.engineOf e.2)).getD 16)

/-- The value that the working configuration keeps of a register entry: requests that act once are not kept. -/
def tgKeeps (a w : Nat) : Option Nat :=
  match findRow a with
  | none => none
  | some r =>
    if r.base = Reg.FIR_CH_FADE 0 ∨ r.base = Reg.LANE_AZ_SET 0 then none
    else if r.base = Reg.LOOP_SLOT_CTL 0 then some (w % 2 ^ 30)
    else if r.base = Reg.LANE_CTL 0 then some (w % 2)
    else some w

namespace State

/-! ### Application -/

/-- One entry takes effect. A register's value is kept in the working configuration, which a unit's cold start reads (R427);
what a register accepts only in some states it still accepts only there. -/
def tgApplyOne (s : State) (e : Nat × Word) : State :=
  let a := e.1
  let w := e.2.toNat
  if tgImage a then
    let b := sectionOf s (tgType a)
    { s with ldr := { s.ldr with sections := aSet s.ldr.sections (tgType a) (spliceBytes b (tgOff a) (toBE 4 w)) } }
  else
    let s : State := match tgKeeps a w with
      | none => s
      | some v => { s with ldr := { s.ldr with
          sections := aSet s.ldr.sections 0x0C (sectionOf s 0x0C ++ toBE 4 a ++ toBE 4 v) } }
    match findRow a with
    | none => s
    | some r =>
      let i := r.idx a
      if r.base = Reg.LANE_AZ_SET 0 ∧ ¬(s.laneState i = 1 ∧ s.fbAz i < 6) then s.badWrite a
      else
        let s := s.applyReg a w
        if r.base = Reg.LOOP_JOY_X ∨ r.base = Reg.LOOP_JOY_Y ∨ r.base = Reg.LOOP_JOY_N then s.joyWritten else s

/-- Every entry takes effect, in order. -/
def tgApplyAll (s : State) : State := s.each s.tg.entries tgApplyOne

/-- TG_STATUS.COUNT and the state. -/
def tgState (s : State) (st : Nat) : State := (s.put Fl.TG_STATUS_STATE st).put Fl.TG_STATUS_COUNT s.tg.entries.length

/-- A failure: FAILED with its code, logged and counted (R378). A failure that no entry causes leaves ENTRY open (log
entry 48). -/
def tgFail (s : State) (entry : Option Nat) (code : Nat) : State :=
  let (x, s) := match entry with
    | some i => (i, s)
    | none => s.draw
  let s : State := { s with tg := { s.tg with armed := none } }
  let s := (((s.tgState 6).put Fl.TG_RESULT_ENTRY x).put Fl.TG_RESULT_CODE code).count Reg.TG_FAILS
  (s.logEv Ev.TG_FAIL).irq 14

/-- The boundary of an armed commit (R378): all of it or, with a unit named closed, none of it. -/
def tgApply (s : State) : State :=
  match (List.range s.tg.entries.length).find? (fun i =>
      !s.uidOpen (tgUnit s ((s.tg.entries.getD i (0, 0#32)).1))) with
  | some i => s.tgFail (some i) 0x0307
  | none =>
    let s := s.tgApplyAll
    let s : State := { s with tg := {} }
    (((s.tgState 5).count Reg.TG_COMMITS).logEv Ev.TG_COMMIT).irq 14

/-- An IMMEDIATE commit whose millisecond has come (R377; log entry 49). -/
def tgDue (s : State) : State :=
  match s.tg.armed with
  | some (0, m) => if m * 1000000 ≤ s.clk then s.tgApply else s
  | _ => s

/-- The pace boundary of an armed commit. -/
def tgBoundary (s : State) : State :=
  match s.tg.armed with
  | some (k, p) => if k ≠ 0 ∧ p = s.cyc.pace then s.tgApply else s
  | none => s

/-- A power-state change cancels an armed commit (R379). -/
def tgCancel (s : State) : State := if s.get Fl.TG_STATUS_STATE = 4 then s.tgFail none 0x0308 else s

end State

/-! ### The check (R376) -/

/-- The envelope rule for a lane: its entry in the set in force against its geometry after the commit. -/
def widens (s t : State) (n : Nat) : Bool :=
  match envEntry s s.kerbSet (s.get (Fl.LANE_SAFE_KERB_ENTRY n)) with
  | none => false
  | some e =>
    let g := geomOf t n
    (laneKind t n == 0 && e.sectors.any (fun x => !(laneSectors t n).any (sectorInside x))) ||
      (e.thrustMax != 0x7FFFFFFF && (decide (e.thrustMax < beAt g 16 4) || decide (e.thrustMax < beAt g 20 4)))

/-- The code of an image entry, against the machine `t` after the commit; 0 where every rule of its section holds. -/
def imageEntryCode (s t : State) (a : Nat) : Nat :=
  let off := tgOff a
  match tgType a with
  | 6 =>
    if off < 16 then (if !deadlineInRange t then 0x0201 else if !deadlineRule t then 0x0202 else 0)
    else
      let n := (off - 16) / 88
      if !(imageLanes t).contains n then 0
      else if !allocLaneOk (geomOf t n) then 0x0201
      else if !sectorShape t n then 0x020A
      else if widens s t n then 0x0302
      else if !sectorHolds t n then 0x020A
      else 0
  | 5 => if f32Ok (decide (616 ≤ off)) (beAt (sectionOf t 5) off 4) then 0 else 0x0201
  | _ =>
    match graphAt t off with
    | none => 0
    | some (_, g) =>
      if !graphInRange g then 0x0201
      else if sharesField t g then 0x0204
      else if (ringWrites g).any (fun w => decide (w.1 < 0x4000)) then 0x020F
      else 0

/-- The code of a register entry. -/
def regEntryCode (s t : State) (a w : Nat) : Nat :=
  match findRow a with
  | none => 0x0301
  | some r =>
    let i := r.idx a
    let b := r.base
    if !r.legalOk w then 0x0201
    else if b = Reg.HZN_HORIZON then (if s.horizonOk w then 0 else 0x020D)
    else if b = Reg.SNS_TRIG_PERIOD 0 ∨ b = Reg.SNS_TRIG_PHASE 0 ∨ (b = Reg.SNS_TRIG_CTL 0 ∧ w.testBit 17) then
      (if State.trigLegal (t.rd (Reg.SNS_TRIG_PERIOD i) % 2 ^ 20) (t.rd (Reg.SNS_TRIG_PHASE i) % 2 ^ 20) (t.rd (Reg.SNS_TRIG_CTL i)) then 0
       else 0x0201)
    else if b = Reg.FIR_CH_FADE 0 then
      (if w.testBit 31 && s.rd (Reg.FIR_CH_GD_INACT i) != s.rd (Reg.FIR_CH_GD_ACT i) then 0x0303 else 0)
    else if b = Reg.LOOP_SLOT_LIM_LO 0 ∨ b = Reg.LOOP_SLOT_LIM_HI 0 then
      (if sInt (t.rd (Reg.LOOP_SLOT_LIM_LO i)) > sInt (t.rd (Reg.LOOP_SLOT_LIM_HI i)) then 0x0304 else 0)
    else 0

/-- The first failing entry with its code, `t` being the machine after the commit. -/
def tgFirst (s t : State) : List (Nat × Word) → Nat → Option (Nat × Nat)
  | [], _ => none
  | e :: l, i =>
    let c := if !stageable s e then 0x0301
      else if tgImage e.1 then imageEntryCode s t e.1 else regEntryCode s t e.1 e.2.toNat
    if c ≠ 0 then some (i, c) else tgFirst s t l (i + 1)

namespace State

/-- The machine as the commit would leave it: entries whose target is not stageable change nothing. -/
def tgAfter (s : State) : State := s.each (s.tg.entries.filter (stageable s)) tgApplyOne

/-! ### Commands -/

/-- TG_DATA (R375). -/
def tgData (s : State) (w : Word) : State :=
  let st := s.get Fl.TG_STATUS_STATE
  if st = 2 ∨ st = 4 then s.badWrite Reg.TG_DATA
  else if 4096 ≤ s.tg.entries.length then s.flag Fl.TG_STATUS_OVERFLOW true
  else ({ s with tg := { s.tg with entries := s.tg.entries ++ [(s.rd Reg.TG_ADDR, w)] } } : State).tgState 1

/-- CLEAR (R375). -/
def tgClear (s : State) : State := (({ s with tg := {} } : State).tgState 0).flag Fl.TG_STATUS_OVERFLOW false

/-- CHECK (R376, R379). -/
def tgCheck (s : State) : State :=
  let st := s.get Fl.TG_STATUS_STATE
  if st = 2 ∨ st = 4 then s.badWrite Reg.TG_CMD else s.tgState 2

/-- TG_CHECK_DONE (R376). -/
def tgChecked (s : State) : State :=
  if s.get Fl.TG_STATUS_STATE ≠ 2 then s
  else
    let d := sha256 (s.tg.entries.flatMap (fun e => toBE 4 e.1 ++ toBE 4 e.2.toNat))
    let t := s.tgAfter
    let s := (s.wr Reg.TG_DIGEST_HI (beAt d 0 4)).wr Reg.TG_DIGEST_LO (beAt d 4 4)
    if s.is Fl.TG_STATUS_OVERFLOW then s.tgFail none 0x0305
    else match tgFirst s t s.tg.entries 0 with
      | some (i, c) => s.tgFail (some i) c
      | none => ((s.tgState 3).wr Reg.TG_RESULT 0).irq 14

/-- The pace that a commit names: `kind` 1 PACE, 2 LEG, 3 STAGE; none where R377 refuses it. Pace 0 stands for the next
boundary of the kind that is at least 2 paces ahead. -/
def tgPace (s : State) (kind w : Nat) : Option Nat :=
  let nl := s.legPaces
  let period := match kind with | 1 => 1 | 2 => nl | _ => nl * s.stageLegs
  let phase := match kind with | 1 => 0 | 2 => s.cyc.leg | _ => s.cyc.stage * nl + s.cyc.leg
  if w = 0 then
    let d := period - phase % period
    let d := if 2 ≤ d then d else if 2 ≤ d + period then d + period else d + 2 * period
    some ((s.cyc.pace + d) % 2 ^ 32)
  else
    let d := (w + 2 ^ 32 - s.cyc.pace % 2 ^ 32) % 2 ^ 32
    if 2 ≤ d ∧ d ≤ 2 ^ 20 ∧ (phase + d) % period = 0 then some w else none

/-- COMMIT (R377). -/
def tgCommit (s : State) (kind : Nat) : State :=
  let at_ : Option Nat :=
    if s.get Fl.TG_STATUS_STATE ≠ 3 then none
    else if kind = 0 then (if s.inRun then none else some (s.ms + 1))
    else if s.inRun then s.tgPace kind (s.rd Reg.TG_WHEN_PACE) else none
  match at_ with
  | none => s.tgFail none 0x0306
  | some p => ({ s with tg := { s.tg with armed := some (kind, p) } } : State).tgState 4

/-- ABORT (R379): a commit that is armed is cancelled, and the bank stays checked; at its boundary or after it, ABORT is
late. -/
def tgAbort (s : State) : State :=
  let st := s.get Fl.TG_STATUS_STATE
  if st = 4 then ({ s with tg := { s.tg with armed := none } } : State).tgState 3
  else if st = 5 ∨ (st = 6 ∧ s.get Fl.TG_RESULT_CODE = 0x0307) then s.flag Fl.TG_STATUS_ABORT_LATE true
  else s

/-- The effect of a write to TG_CMD, its bits taken from bit 0 up. -/
def tgCmd (s : State) (w : Nat) : State :=
  let s := ((s.when (w.testBit 0) tgClear).when (w.testBit 1) tgCheck).when (w.testBit 2) (fun s => s.tgCommit (w / 256 % 4))
  s.when (w.testBit 3) tgAbort

end State

end Sys2Proof.Machine
end

