-- ==== Sys2Proof/Machine/PowerOps.lean ====
section
/-! DEFINITION. Machine/PowerOps.lean: power states (R426 to R429), fatal faults (R430), unit resets (R433), reopening (R63)
and the device resets (R432, R434). -/

namespace Sys2Proof.Machine

/-- The transitions of R427. -/
def transListed (a b : Nat) : Bool :=
  [(2, 3), (3, 2), (2, 4), (4, 2), (2, 5), (5, 2)].contains (a, b)

/-- Everything a power state may park, the rings and engines last. -/
def stateParkable : List Uid :=
  (((List.range 23).filter (fun u => u != 0 && u != 2)).map Uid.unit) ++ [.ring 0, .ring 1] ++ (List.range 16).map Uid.eng

/-- Units with open ports throughout BOOT (R355). -/
def bootUnits : List Nat := [1, 18, 19, 20, 21, 22]

namespace State

/-! ### Changing the power state -/

/-- A transition completes: POWER_STATE logged and HEALTH raised (R427). It aborts a swap before its selector write (R441)
and cancels an armed commit (R379); PERMIT holds in READY only (R387). -/
def changeState (s : State) (p : Nat) : State :=
  let old := s.power
  let s := (s.swapEnd 3).tgDue.tgCancel
  let s : State := { s with pwr := { s.pwr with trans := none, quietWait := false } }
  let s := (((s.put Fl.PWR_STATUS_STATE p).put Fl.PWR_STATUS_RESULT 1).put Fl.PWR_STATUS_TARGET 0).flag Fl.PWR_STATUS_BUSY false
  let s := (s.flag Fl.PWR_STATUS_LEAVING false).when (p != 2) (fun s => s.flag Fl.SEC_JTAG_CTL_PERMIT false)
  (((s.logEv Ev.POWER_STATE old (d8 p)).irq 16).kerbUpdate).masterPublish

/-- A power state parks a thing (R426). A swap past its selector write completes (R441). -/
def statePark (s : State) (u : Uid) : State :=
  let s := match u with | .ring r => s.ringOut r | _ => s
  let s := if s.uidOpen u then (s.closeUid u).markParked u true
    else { s with units := { s.units with ready := s.units.ready.filter (· != u) } }
  match u with
  | .eng n => if s.hlt.swap.any (fun (x : SwapSt) => x.engine == n) then (s.swapEnd 3).swapDone else s
  | _ => s

/-- A closed thing takes its state from the working configuration and becomes ready, unless PWR_PARK holds it parked
(R427, R431). -/
def stateWake (s : State) (u : Uid) : State :=
  let s := match u with
    | .unit n => s.coldUnit n false
    | .eng n => s.coldEngine n
    | .ring _ => s
  if s.parkAsked u then s else s.readyUp u

/-- Entering RUN: the role is taken under R331 from here on; a device that waits counts no paces (R32). -/
def enterRun (s : State) : State :=
  let s := s.changeState 3
  let s : State := { s with
    red := { s.red with waitFrom := s.now, waitCycles := 0, heardOwner := false, loaded := false, fastApplied := none
                        fast := none, full := none, fullDone := [], resync := none, resyncFrom := none, exch := none
                        exchAsked := none, exchStopped := false, granted := false, detectAt := none, heldCmds := [] }
    cyc := { s.cyc with active := false, voided := false, epochDue := false, pace := 0 }
    ring := { s.ring with trainOn := false, cmdOut := none }
    krb := { s.krb with strobe := s.now } }
  (((s.setRole 1).wr Reg.GLB_PACE 0).flag Fl.RED_STATUS_CURRENT false).freshMargins

/-- READY_ENTRY (R428, step 2): role NONE, unless FAULTED; no train from now on (R300). -/
def enterReady (s : State) : State :=
  let s := s.changeState 2
  let s : State := { s with cyc := { s.cyc with active := false, epochDue := false, pace := 0 }
                            ring := { s.ring with trainOn := false, cmdOut := none }
                            red := { s.red with exch := none, exchAsked := none, exchStopped := false, granted := false
                                                heldCmds := [], sendNow := false, detectAt := none } }
  let s := ((s.flag Fl.RED_STATUS_CURRENT false).flag Fl.RED_STATUS_RING_STANDBY false).wr Reg.GLB_PACE 0
  ((if s.role = 4 then s else s.setRole 0).sealReady).masterPublish.freshMargins.dropAhead

/-- QUIET is reached: everything else is parked and the local clock stands (R429); output pins take their QUIET level
(R445). -/
def enterQuiet (s : State) : State :=
  let s := (s.statePark (.unit 19)).changeState 5
  { s with clock := { s.clock with running := false }
           pins := { s.pins with pdiv0 := false, pdiv1 := false, bypA := false, bypB := false } }

/-- A return from HARBOUR or QUIET completes when nothing that the state had parked still waits, and, from QUIET, the seal
bank has been read (R427, R429). -/
def wakeDone (s : State) : State :=
  let p := s.power
  if s.pwr.trans.any (fun t => t.target == 2) && (p == 4 || p == 5) && !s.units.ready.any (stateParks p) &&
      (p == 4 || s.krb.taken || s.krb.mismatch) then
    (s.changeState 2).sealReady
  else s

/-! ### PWR_CMD (R427) -/

/-- The cause that refuses a command; 0 where it is accepted. -/
def pwrRefuse (s : State) (t : Nat) : Nat :=
  if s.power = 1 then 2
  else if s.role = 4 ∧ t ≠ 2 then 5
  else if s.is Fl.PWR_STATUS_BUSY then 3
  else if !transListed s.power t then 2
  else if t = 3 ∧ s.is Fl.SEC_STATUS_JTAG_OPEN then 4
  else 0

/-- A transition begins. -/
def pwrBegin (s : State) (t : Nat) (atMs : Option Nat) : State :=
  ((({ s with pwr := { s.pwr with trans := some ⟨t, atMs⟩ } } : State).flag Fl.PWR_STATUS_BUSY true).put
    Fl.PWR_STATUS_TARGET t).put Fl.PWR_STATUS_RESULT 0

/-- READY → QUIET: the GNSS retention set, then the parks; the loader waits for a running NVW command (R427). -/
def goQuiet (s : State) : State :=
  let s := s.pwrBegin 5 none
  let s := if s.isOpen 10 then s.gnssRetain else s
  let s := s.each (stateParkable.filter (fun u => stateParks 5 u && u != .unit 19)) statePark
  if s.is Fl.TG_NVW_STATUS_BUSY then { s with pwr := { s.pwr with quietWait := true } } else s.enterQuiet

/-- The local clock resumes from the value it held; its quality is FREE (R429). -/
def clockResume (s : State) : State := { s with clock := { s.clock with running := true } }

/-- A return to READY from HARBOUR or QUIET begins: what the state had parked starts cold and waits for its reopening. -/
def wake (s : State) : State :=
  let p := s.power
  let s := s.pwrBegin 2 none
  let s := if p = 5 then s.clockResume else s
  (s.each (stateParkable.filter (stateParks p)) stateWake).wakeDone

/-- The effect of a write to PWR_CMD. -/
def pwrCmd (s : State) (w : Nat) : State :=
  if !w.testBit 31 then s
  else
    let t := w % 8
    let c := s.pwrRefuse t
    if c ≠ 0 then s.put Fl.PWR_STATUS_RESULT c
    else match s.power, t with
      | 2, 3 => s.pwrBegin 3 (some ((s.clk + 1000000 + 999999) / 1000000))
      | 2, 4 => (s.each (stateParkable.filter (stateParks 4)) statePark).changeState 4
      | 2, _ => s.goQuiet
      | 3, _ => s.pwrBegin 2 none
      | _, _ => s.wake

/-- RUN_ENTRY at the scheduled millisecond (R427). -/
def runEntry (s : State) : State :=
  match s.pwr.trans with
  | some ⟨3, some m⟩ => if m * 1000000 ≤ s.clk then s.enterRun else s
  | _ => s

/-- RUN → READY at a pace boundary (R428): LEAVING at the first, before the lanes' transitions. -/
def leaveStart (s : State) : State :=
  if s.inRun && s.pwr.trans.any (fun t => t.target == 2) && !s.is Fl.PWR_STATUS_LEAVING then
    (s.flag Fl.PWR_STATUS_LEAVING true).each (List.range 64) (fun s n => s.flag (Fl.LANE_CTL_EN n) false)
  else s

/-- READY_ENTRY at the first pace boundary from there on with every lane HELD, FAULT or OFF (R428, step 2). -/
def leaveEnd (s : State) : State :=
  if s.inRun && s.is Fl.PWR_STATUS_LEAVING && s.lanesOn.all (fun n => s.laneState n != 2 && s.laneState n != 3) then s.enterReady
  else s

/-! ### Fatal faults (R430) -/

/-- A health fatal fault's code. -/
def healthCode : HealthCause → Nat
  | .uncorr => 1
  | .fabric => 2
  | .map => 3

/-- A health fatal fault's cause holds: the fabric's by the tags themselves; the map is checked at boot only (R430). -/
def healthHolds (s : State) : HealthCause → Bool
  | .uncorr => true
  | .fabric => s.fabStuck
  | .map => s.power == 1

/-- HEALTH_FATAL. -/
def healthFatal (s : State) (c : HealthCause) : State :=
  if s.is Fl.HLT_STATUS_FATAL || !s.healthHolds c then s
  else
    let s : State := { s with hlt := { s.hlt with mapBad := c == .map } }
    let s := (s.flag Fl.HLT_STATUS_FATAL true).put Fl.HLT_STATUS_FATAL_CAUSE (healthCode c)
    ((s.logEv Ev.HEALTH_FATAL (healthCode c)).irq 16).roleFaulted

/-! ### Unit resets (R433) -/

/-- A unit reset is accepted. -/
def resetOk (s : State) (u : Nat) : Bool :=
  s.power != 1 && ([2, 3, 4, 5, 6, 7, 8, 9, 10, 12, 13].contains u || ([11, 16, 17].contains u && !s.inRun))

/-- A unit reset: closed, from the working configuration, counted and logged, and ready to reopen unless it was parked. -/
def unitReset (s : State) (unit engine : Nat) : State :=
  if !s.resetOk unit then s.badWrite Reg.PWR_UNIT_RESET
  else
    let u : Uid := if unit = 2 then .eng engine else .unit unit
    let s := if unit = 2 ∧ s.hlt.swap.any (fun (x : SwapSt) => x.engine == engine) then s.swapEnd 1 else s
    let up := s.uidOpen u || s.units.ready.contains u
    let s := s.closeUid u
    let s := if unit = 2 then s.coldEngine engine else s.coldUnit unit true
    let s := (s.count Reg.PWR_UNIT_RESETS).logEv Ev.UNIT_RESET unit (d8 engine)
    if up then s.readyUp u else s

/-- The effect of a write to PWR_UNIT_RESET. -/
def unitResetCmd (s : State) (w : Nat) : State := if w.testBit 31 then s.unitReset (w % 32) (w / 256 % 16) else s

/-- UNIT_REOPEN (R63, R469), at its boundary: what the unit's own chapter says happens follows; a swap's engine comes back on its spare (R440), and a
return to READY may be complete. -/
def unitReopen (s : State) (u : Uid) : State :=
  if !s.reopensNow u then s
  else
    let service := s.power != 5
    let s := (s.reopenUid u).reopenHook u service
    let s := match u with
      | .eng n => if s.hlt.swap.any (fun (x : SwapSt) => x.engine == n) then s.swapDone else s
      | _ => s
    s.wakeDone

/-! ### Device resets (R432, R434) -/

/-- What the Verge map keeps of the register file (R432, R435). -/
def vergeReg (s : State) (a : Nat) : Option Nat :=
  if a = Reg.SLV_VERGE ∨ a = Reg.GNS_VERGE ∨ a = Reg.HLT_SPARES then some (s.rd a)
  else if Reg.HLT_MON_STATUS 0 ≤ a ∧ a ≤ Reg.HLT_MON_STATUS 65 ∧ (a - Reg.HLT_MON_STATUS 0) % 8 = 0 then
    (let v := s.rd a
     some (if v % 4 = 3 then v else v / 4 * 4))
  else none

/-- Base units' ports open at the start of a boot, each with a new incarnation number, and the host port is ready (R63, R355,
R413). -/
def bootOpen (s : State) : State :=
  let s := s.each bootUnits (fun s u => (s.wr (Reg.FAB_INCARN (u - 1)) 1).flag ⟨Reg.FAB_PORT_STATE, u, u⟩ true)
  { s with pins := { s.pins with hRdy := true } }

/-- A reset of class POWER_ON or PIN: what lives in NOR, MRAM, OTP and the keep-alive domain stays, everything else is as after
reset; the resumed operations are shown in PWR_RESET_CAUSE (R432, R434). -/
def deviceReset (s : State) (pin : Bool) : State :=
  let cut := s.hlt.swap.any (fun (x : SwapSt) => !x.switched) || s.log.sectorCopy.isSome
  let erase := s.is Fl.SEC_STATUS_ERASE_PENDING
  let l := s.log
  let l := if pin then l
    else if l.pcc = 0xFFFFFF then { l with pccStuck := true } else { l with pcc := l.pcc + 1 }
  let dik := (List.range 8).flatMap (fun i => [Reg.SEC_DIK_X i, Reg.SEC_DIK_Y i])
  let t : State := {
    pending := s.pending, now := s.now, free := s.free, regs := []
    pwr := { vcore := true, rstn := s.pwr.rstn, swapCut := cut, releasedAt := s.now }
    log := { l with last := [], seqs := [], sectorCopy := none, secAt := s.now }
    hlt := { selector := s.hlt.selector, ecc := s.hlt.ecc, remapped := s.hlt.remapped, retired := s.hlt.retired, physOf := s.hlt.physOf
             exhausted := s.hlt.exhausted }
    ldr := { nor := s.ldr.nor }
    sec := { kek := s.sec.kek, dik := s.sec.dik, rsk := s.sec.rsk, tamperUntil := s.sec.tamperUntil
             tamperLatch := s.sec.tamperLatch, hostErase := s.sec.hostErase }
    gns := { dead := s.gns.dead, retSram := if pin then s.gns.retSram else none
             retKeep := s.gns.retKeep }
    red := { epochMram := s.red.epochMram }
    fbk := s.fbStart
    pins := { roleSel := s.pins.roleSel } }
  let t := t.each (s.regs.map (·.1)) (fun t a =>
    match s.vergeReg a with | some v => t.wr a v | none => if dik.contains a then t.wr a (s.rd a) else t)
  let t := t.flag Fl.HLT_STATUS_DEGRADED (s.is Fl.HLT_STATUS_DEGRADED)
  let t := ((t.flag Fl.SEC_STATUS_KEK t.sec.kek.isSome).flag Fl.SEC_STATUS_DIK t.sec.dik.isSome).flag
    Fl.SEC_STATUS_RSK t.sec.rsk.isSome
  let t := (t.flag Fl.SEC_STATUS_ERASE_PENDING erase).flag Fl.LOG_STATUS_CLEARING t.log.clearPending
  let t := (t.flag Fl.PWR_RESET_CAUSE_CAUSE pin).flag Fl.PWR_RESET_CAUSE_SWAP_CUT cut
  let t := (t.flag Fl.PWR_RESET_CAUSE_CLEAR_RESUMED t.log.clearPending).flag Fl.PWR_RESET_CAUSE_ERASE_RESUMED erase
  t.engMapPublish.logPublish

/-- VCORE_POWER_ON: VCORE has risen into its range, or VCORE or VIO has dipped (R432, R459); boot begins unless RST_N is
low. -/
def powerOn (s : State) : State :=
  let s := s.deviceReset false
  if s.pwr.rstn then s.bootOpen else s

/-- RST_N_ASSERT: the device is held in reset (R318, R432). -/
def rstAssert (s : State) : State :=
  if !s.pwr.rstn then s
  else
    let s := s.deviceReset true
    { s with pwr := { s.pwr with rstn := false } }

/-- RST_N_RELEASE: ROLE_SEL is sampled and boot begins (R458). -/
def rstRelease (s : State) (roleSel : Bool) : State :=
  if s.pwr.rstn then s
  else
    let s : State := { s with pwr := { s.pwr with rstn := true, releasedAt := s.now }
                              log := { s.log with secAt := s.now }, pins := { s.pins with roleSel := roleSel } }
    s.bootOpen

end State

end Sys2Proof.Machine
end

