-- ==== Sys2Proof/Machine/BootOps.lean ====
section
/-! DEFINITION. Machine/BootOps.lean: the boot (R353 to R356) and the NVW window (R372). -/

namespace Sys2Proof.Machine

/-- SEQ of a slot's header (R357). -/
def slotSeq (l : Loader) (slot : Nat) : Nat := beAt (norRead l (slot * quarterOf l) 20) 16 4

/-- A slot is a candidate (R354). -/
def candidate (l : Loader) (slot : Nat) : Bool := headerCode (norRead l (slot * quarterOf l) 64) (quarterOf l) == 0

/-- The candidates in the order in which they are tried (R354). -/
def bootOrder (l : Loader) : List Nat :=
  ((if slotSeq l 1 < slotSeq l 2 then [2, 1] else [1, 2]) ++ [0]).filter (candidate l)

/-- A NOR byte written by the loader; an erased byte is not listed. -/
def norPut (l : List Host.Cell) (a : Nat) (b : Byte) : List Host.Cell := if b = 0xFF#8 then aDel l a else aSet l a b

namespace State

/-! ### Boot -/

/-- The code of a slot recorded at a boot (R354). -/
def slotRecord (s : State) (slot : Nat) (tried : Bool) (code : Nat) : State :=
  (s.flag (Fl.TG_SLOT_CODE_EXAMINED slot) tried).put (Fl.TG_SLOT_CODE_CODE slot) code

/-- No candidate boots: the device stays in BOOT (R356). -/
def bootFail (s : State) : State := s.flag Fl.TG_BOOT_FAILED true

/-- The headers of the slots (R354): SEQ of each candidate, the code of each other slot. -/
def bootHeaders (s : State) : State :=
  s.each [0, 1, 2] (fun s k =>
    if candidate s.ldr k then s.wr (Reg.TG_SLOT_SEQ k) (slotSeq s.ldr k)
    else s.slotRecord k false (headerCode (norRead s.ldr (k * quarterOf s.ldr) 64) (quarterOf s.ldr)))

/-- The slots tried in order, each with its code, up to the first that boots. -/
def bootTry (s : State) : List Nat → List (Nat × Nat)
  | [] => []
  | k :: l => let c := slotCode s k; (k, c) :: (if c = 0 then [] else bootTry s l)

/-- WIN_START and WIN_END in 10 ns (R304). -/
def configWindow (s : State) : State :=
  let a := ((trainNs s).1 + 9) / 10
  let b := (125000 * 2 ^ byteAt (sectionOf s 8) 2 - 5000) / 10
  { s with ring := { s.ring with ownWin := (a, b), win := (a, b) } }

/-- The front-end start script (R110): each transaction's bits sent, then received, stand in GNS_FE_DATA (R109); a mismatch is
FE_FAULT. -/
def feScript (s : State) (answers : List Word) : State :=
  let g := sectionOf s 0x0B
  let s := s.each (List.range (byteAt g 0)) (fun s i =>
    let n := byteAt g (64 + 16 * i + 2)
    let s := s.wr Reg.GNS_FE_DATA (beAt g (64 + 16 * i + 4) 4)
    if n = 0 then s else s.wr Reg.GNS_FE_DATA ((answers.getD i 0).toNat % 2 ^ n))
  let bad := (List.range (byteAt g 0)).any (fun i =>
    let o := 64 + 16 * i
    ((answers.getD i 0).toNat ^^^ beAt g (o + 8) 4) &&& beAt g (o + 12) 4 != 0)
  if bad then
    ({ s with ldr := { s.ldr with feErr := true } } : State).flag Fl.GNS_STATUS_FE_FAULT true |>.logEv Ev.FE_FAULT
  else s

/-- Every configured unit opens in one instant and the device is in READY (R355). -/
def bootReady (s : State) : State :=
  let us := (([11] ++ [3, 4, 5, 6, 7, 8, 9, 10, 12, 13, 14, 15, 16, 17]).map Uid.unit ++ (List.range 16).map Uid.eng).filter
    (fun u => !s.barred u)
  let s := (s.put Fl.PWR_STATUS_STATE 2).flag ⟨Reg.FAB_PORT_STATE, 11, 11⟩ true
  let s := s.each ((List.range 16).filter (fun n => s.barred (.eng n))) (fun s n => s.put (Fl.ENG_STATUS_STATE n) 1)
  let s := s.each us reopenUid
  ((s.each us (fun s u => s.reopenHook u false)).sealReady).masterPublish

/-- A slot is booted: its image becomes the working configuration and configures every unit (R355, R360, R333). -/
def bootSlot (s : State) (slot : Nat) (b : BootIn) : State :=
  let img := slotImage s.ldr slot
  let s := withImage s (imageSections img)
  let s : State := { s with ldr := { s.ldr with digest := imageDigest img, layout := imageLayout img } }
  (((s.configWindow).configAll).feScript b.fe).sealReading b.sealA.toNat b.sealB.toNat

/-- The keep-alive latch's TAMPER_N event is graded at the next boot (R383). -/
def bootTamper (s : State) : State :=
  if s.sec.tamperLatch then ({ s with sec := { s.sec with tamperLatch := false } } : State).secTrigger 0 else s

/-- The verification key hash read from OTP (R355, R380). -/
def otpRead (s : State) : State :=
  let h := toBE 32 Config.vkh
  s.each (List.range 8) (fun s i => s.wr (Reg.SEC_VKH i) (beAt h (4 * i) 4))

/-- The recorder seal key of a device that holds none, from the on-die generator (R380); complete blocks not yet sealed are sealed
before any record of this boot is accepted (R402). -/
def firstKey (s : State) : State :=
  if s.sec.rsk.isSome then s.sealLog.logPublish
  else
    let (k, s) := s.random 256
    let s : State := { s with sec := { s.sec with rsk := some (toBE 32 k) } }
    (s.flag Fl.SEC_STATUS_RSK true).sealLog.logPublish

/-- BOOT_COMPLETE (R353 to R356). A clear and an erase that a reset cut short have been repeated before any unit opens (R384,
R404). -/
def boot (s : State) (b : BootIn) : State :=
  if s.power != 1 || s.is Fl.TG_BOOT_FAILED then s
  else
    let s := s.otpRead.eraseAllDone.firstKey.cleared
    if s.role = 4 ∨ s.hlt.mapBad then s.bootTamper.bootFail
    else if !b.sfdpOk ∨ b.density < 25 ∨ 28 < b.density then
      ((s.each [0, 1, 2] (fun s k => s.slotRecord k false 0x0100)).bootTamper).bootFail
    else
      let s : State := { s with ldr := { s.ldr with density := b.density } }
      let s := ((s.put Fl.TG_NOR_INFO_DENSITY b.density).put Fl.TG_NOR_INFO_JEDEC_ID b.jedec).bootHeaders
      let tried := s.bootTry (bootOrder s.ldr)
      let s := s.each tried (fun s t => s.slotRecord t.1 true t.2)
      match tried.find? (fun t => t.2 == 0) with
      | none => s.bootTamper.bootFail
      | some (slot, _) =>
        let firstBad := ((tried.find? (fun t => t.2 != 0)).map (·.2)).getD 0
        let s := ((s.bootSlot slot b).bootTamper).bootReady
        let s := ((s.put Fl.TG_BOOT_BOOT_MS ((s.now - s.pwr.releasedAt) / 1000000)).put Fl.TG_BOOT_SLOT slot).flag Fl.TG_BOOT_FALLBACK (firstBad != 0)
        s.logEv Ev.BOOT_DONE slot firstBad

/-! ### NVW (R372) -/

/-- The NOR address of a byte of the window; the part decodes no address bit above its density (log entry 46). -/
def nvwAddr (s : State) (off : Nat) : Nat := (s.rd Reg.TG_NVW_PAGE % 512 * 65536 + off) % (2 ^ s.ldr.density / 8)

/-- A word of the window (R14, R372). -/
def nvwRead (s : State) (off : Nat) : Nat :=
  (List.range 4).foldl (fun a i => a + norByte s.ldr (s.nvwAddr (off % 65536 / 4 * 4 + i)) * 256 ^ i) 0

/-- A write of the window fills the program buffer. -/
def nvwWrite (s : State) (off w : Nat) : State :=
  let o := off % 65536 / 4 * 4
  let buf := (List.range 4).foldl (fun b i => aSet b (o % 256 + i) (BitVec.ofNat 8 (w / 256 ^ i))) s.ldr.buf
  { s with ldr := { s.ldr with buf := buf, bufRow := o / 256 } }

/-- Blocks that are never erased or programmed: those of the factory slot and of the booted slot. -/
def nvwProtected (s : State) : Bool :=
  let q := s.nvwAddr 0 / quarterOf s.ldr
  q == 0 || q == s.get Fl.TG_BOOT_SLOT

/-- A command begins, unless one runs or `bad`. -/
def nvwBegin (s : State) (bad : Bool) (kind target : Nat) : State :=
  if bad || s.is Fl.TG_NVW_STATUS_BUSY then s.badWrite Reg.TG_NVW_CMD
  else
    let s : State := { s with ldr := { s.ldr with cmd := some (kind, target), progBuf := if kind = 1 then s.ldr.buf else [] } }
    (s.flag Fl.TG_NVW_STATUS_BUSY true).when (kind == 3) (fun s => s.flag Fl.TG_NVW_STATUS_DONE false)

/-- PROGRAM, ERASE and VERIFY. -/
def nvwProgram (s : State) : State := s.nvwBegin s.nvwProtected 1 (s.nvwAddr (s.ldr.bufRow * 256))
def nvwErase (s : State) : State := s.nvwBegin s.nvwProtected 2 (s.nvwAddr 0)
def nvwVerify (s : State) (slot : Nat) : State := s.nvwBegin (slot != 1 && slot != 2) 3 slot

/-- The effect of a write to TG_NVW_CMD. -/
def nvwCmd (s : State) (w : Nat) : State :=
  ((s.when (w.testBit 0) nvwErase).when (w.testBit 1) nvwProgram).when (w.testBit 2) (fun s => s.nvwVerify (w / 256 % 4))

/-- One byte programmed: an erased byte takes the buffer's value; what a byte that is not erased becomes, and what the buffer
holds where nothing was written, is not stated (log entry 45). -/
def programByte (s : State) (a : Nat) (v : Option Byte) : State :=
  let (x, s) := match v with
    | some b => (b, s)
    | none => (BitVec.ofNat 8 s.draw.1, s.draw.2)
  let old := norByte s.ldr a
  let (x, s) := if old = 0xFF ∨ old = x.toNat then (x, s) else (BitVec.ofNat 8 s.draw.1, s.draw.2)
  { s with ldr := { s.ldr with nor := norPut s.ldr.nor a x } }

/-- NVW_COMMAND_DONE. A device on its way to QUIET was waiting for it (R427). -/
def nvwDone (s : State) : State :=
  match s.ldr.cmd with
  | none => s
  | some (kind, t) =>
    let s := match kind with
      | 1 => s.each (List.range 256) (fun s i => s.programByte (t + i) (aGet s.ldr.progBuf i))
      | 2 => { s with ldr := { s.ldr with nor := s.ldr.nor.filter (fun c => !(t ≤ c.1 && decide (c.1 < t + 65536))) } }
      | _ => (s.put Fl.TG_NVW_STATUS_CODE (slotCode s t)).flag Fl.TG_NVW_STATUS_DONE true
    let s : State := { s with ldr := { s.ldr with cmd := none, progBuf := [] } }
    let s := (s.flag Fl.TG_NVW_STATUS_BUSY false).irq 14
    if s.pwr.quietWait then s.enterQuiet else s

end State

/-- The NVW window as the host checks it (R372, R415): privileged words. -/
def nvwRow : Row := ⟨0x300000, 4, 0x4000, .rwp, .imm, 0, 0xFFFFFFFF, 0, 0, []⟩

end Sys2Proof.Machine
end

