-- ==== Sys2Proof/Machine/Boot.lean ====
section
/-! DEFINITION. Machine/Boot.lean: the commands of the boot and of the NVW window (R353 to R356, R372). -/

namespace Sys2Proof.Machine

/-- BOOT_COMPLETE (R355, R356). -/
def execBootComplete (dt : Nat) (b : BootIn) (s : State) : Host.Outcome State Fault Refusal := act dt (fun s => s.boot b) s

/-- NVW_WRITE (R372): a word of the window, at an offset within it. -/
def execNvwWrite (dt off : Nat) (w : Word) (priv : Bool) (s : State) : Host.Outcome State Fault Refusal :=
  act dt (fun s => s.hostCmd nvwRow (0x300000 + off % 65536) priv w.toNat (fun s => s.nvwWrite off w.toNat)) s

/-- PROGRAM (R372). -/
def execProgram (dt : Nat) (priv : Bool) (s : State) : Host.Outcome State Fault Refusal :=
  act dt (fun s => s.hostCmd Rw.TG_NVW_CMD Reg.TG_NVW_CMD priv 2 State.nvwProgram) s

/-- ERASE (R372). -/
def execErase (dt : Nat) (priv : Bool) (s : State) : Host.Outcome State Fault Refusal :=
  act dt (fun s => s.hostCmd Rw.TG_NVW_CMD Reg.TG_NVW_CMD priv 1 State.nvwErase) s

/-- VERIFY (R372). -/
def execVerify (dt slot : Nat) (priv : Bool) (s : State) : Host.Outcome State Fault Refusal :=
  act dt (fun s => s.hostCmd Rw.TG_NVW_CMD Reg.TG_NVW_CMD priv (slot % 4 * 256 + 4) (fun s => s.nvwVerify (slot % 4))) s

/-- NVW_COMMAND_DONE (R372). -/
def execNvwCommandDone (dt : Nat) (s : State) : Host.Outcome State Fault Refusal := act dt State.nvwDone s

end Sys2Proof.Machine
end

