-- ==== Sys2Proof/Machine/CounterOps.lean ====
section
/-! DEFINITION. Machine/CounterOps.lean: the host's clears of counters and their OVF bits (R22, R24). -/

namespace Sys2Proof.Machine

namespace State

/-- The counters named by the set bits of a word are cleared, bit i naming the i-th. -/
def clearBits (s : State) (w : Nat) (l : List Nat) : State :=
  s.each ((List.range l.length).zip l) (fun s (i, a) => s.when (w.testBit i) (fun s => s.clearCount a))

/-- FAB_CNT_CLR: PEAK follows IN_USE, and the discard counter's LAST_UNIT goes with it. -/
def fabClr (s : State) (w : Nat) : State :=
  let s := s.clearBits w [Reg.FAB_TAG_STALL, Reg.FAB_STALE_DISCARD, Reg.FAB_CLOSED_CNT, Reg.FAB_WITHDRAWN, Reg.FAB_PROV_REDIRECT]
  let s := s.when (w.testBit 1) (fun s => s.put Fl.FAB_STALE_DISCARD_LAST_UNIT 0)
  s.when (w.testBit 5) (fun s => s.put Fl.FAB_TAGS_PEAK (s.get Fl.FAB_TAGS_IN_USE))

/-- ENG_CNT_CLR. -/
def engClr (s : State) (w : Nat) : State :=
  (s.clearBits w ((List.range 16).map Reg.ENG_INVALID)).clearBits (w / 65536) ((List.range 16).map Reg.ENG_SAT)

/-- SNS_CNT_CLR: the counters of one stream and of one port. -/
def snsClr (s : State) (w : Nat) : State :=
  let n := w % 64
  let p := w / 256 % 8
  let s := s.when (w.testBit 6) (fun s => s.clearBits 7 [Reg.SNS_STR_SLIP n, Reg.SNS_STR_GAP n, Reg.SNS_STR_DISCARD n])
  s.when (w.testBit 7) (fun s => s.clearBits 15
    [Reg.SNS_PORT_ERR_FRAME p, Reg.SNS_PORT_ERR_CHECK p, Reg.SNS_PORT_ERR_OVERRUN p, Reg.SNS_PORT_ERR_OTHER p])

/-- GNS_CNT_CLR. -/
def gnsClr (s : State) (w : Nat) : State := s.clearBits w [Reg.GNS_RTCM_ERR, Reg.GNS_RTCM_IGNORED]

/-- FUS_CNT_CLR: GATE_FAIL, VOTE_OUT and DISCARD of the tracks named. -/
def fusClr (s : State) (w : Nat) : State :=
  s.each ((List.range 18).filter (fun t => w.testBit t)) (fun s t =>
    let s := (s.clearCount (Reg.FUS_TRK_GATE_FAIL t)).clearCount (Reg.FUS_TRK_VOTE_OUT t)
    s.setTrk t { s.trkOf t with discard := 0, discOvf := false })

/-- ALC_CNT_CLR. -/
def alcClr (s : State) (w : Nat) : State := s.clearBits w [Reg.ALC_MISS]

/-- SLV_CNT_CLR. -/
def slvClr (s : State) (w : Nat) : State :=
  s.clearBits w [Reg.SLV_A_PIVOT_REG, Reg.SLV_A_PIVOT_ZERO, Reg.SLV_A_OVF, Reg.SLV_H_PIVOT_REG, Reg.SLV_H_PIVOT_ZERO,
    Reg.SLV_H_OVF, Reg.SLV_PREEMPT]

/-- HZN_CNT_CLR. -/
def hznClr (s : State) (w : Nat) : State := s.clearBits w [Reg.HZN_TRUNCATED, Reg.HZN_NO_ITERATE, Reg.HZN_INELIG]

/-- FBK_CNT_CLR. -/
def fbkClr (s : State) (w : Nat) : State :=
  (s.clearBits w ((List.range 6).map Reg.FB_ILLEGAL)).clearBits (w / 256) ((List.range 6).map Reg.FB_CMP_FIRES)

/-- LANE[n]_CNT_CLR. -/
def laneClr (s : State) (n w : Nat) : State := s.clearBits w [Reg.LANE_FAULTS n]

/-- KRB_CNT_CLR. -/
def krbClr (s : State) (w : Nat) : State :=
  s.clearBits w [Reg.KRB_TRIPS, Reg.KRB_CMD_VIOL, Reg.KRB_PREALARM_WITHDRAWN, Reg.KRB_TEST_DISCARD, Reg.KRB_SEAL_UNSTABLE]

/-- RING_CNT_CLR: the five counters of a port; a PORT bit also clears the nodes' MISSES. -/
def ringClr (s : State) (w : Nat) : State :=
  let s := s.each ((List.range 4).filter (fun q => w.testBit q)) (fun s q => s.clearBits 31
    [Reg.RING_PORT_FCS_ERR q, Reg.RING_PORT_FOREIGN q, Reg.RING_PORT_HOPS_EXPIRED q, Reg.RING_PORT_BAD_STAMP q, Reg.RING_PORT_LATE q])
  let s := s.when (w % 16 != 0) (fun s => s.each (List.range 256) (fun s n =>
    (s.put (Fl.RING_NODE_STATUS_MISSES n) 0).put (Fl.RING_NODE_STATUS_OVF n) 0))
  s.clearBits (w / 256) [Reg.RING_BREAKS, Reg.RING_MGMT_LOST]

/-- TIM_CNT_CLR. -/
def timClr (s : State) (w : Nat) : State := s.clearBits w [Reg.TIM_JUMPS]

/-- RED_CNT_CLR. -/
def redClr (s : State) (w : Nat) : State := s.clearBits w [Reg.RED_TAKEOVERS, Reg.RED_DEMOTIONS, Reg.RED_PATH_FAULTS, Reg.RED_MS_LOST]

/-- TG_CNT_CLR. -/
def tgClr (s : State) (w : Nat) : State := s.clearBits w [Reg.TG_COMMITS, Reg.TG_FAILS]

/-- SEC_CNT_CLR: the run count of R386 stays. -/
def secClr (s : State) (w : Nat) : State := s.clearBits w [Reg.SEC_UNPRIV, Reg.SEC_TAG_FAIL]

/-- LOG_CNT_CLR. -/
def logClr (s : State) (w : Nat) : State := s.clearBits w [Reg.LOG_DROPPED]

/-- HIF_CNT_CLR. -/
def hifClr (s : State) (w : Nat) : State :=
  (s.clearBits w [Reg.HIF_FRAMES, Reg.HIF_FRAME_ERRS]).when (w.testBit 2) (fun s => s.put ⟨Reg.HIF_STALL_MAX, 15, 0⟩ 0)

/-- PWR_CNT_CLR. -/
def pwrClr (s : State) (w : Nat) : State := s.clearBits w [Reg.PWR_UNIT_RESETS]

/-- HLT_CNT_CLR: LAST_MARK goes too. -/
def hltClr (s : State) (w : Nat) : State :=
  (s.clearBits w [Reg.HLT_LEG_OVERRUN]).when (w.testBit 0) (fun s => s.put Fl.HLT_LEG_OVERRUN_LAST_MARK 0)

end State

end Sys2Proof.Machine
end

