-- ==== Sys2Proof/Machine/Counters.lean ====
section
/-! DEFINITION. Machine/Counters.lean: the CNT_CLR commands (R24), each a host write of its register. -/

namespace Sys2Proof.Machine

/-- FAB_CNT_CLR (R24). -/
def execFabCntClr (dt : Nat) (w : Word) (s : State) : Host.Outcome State Fault Refusal :=
  act dt (fun s => s.hostCmd Rw.FAB_CNT_CLR Reg.FAB_CNT_CLR false w.toNat (fun s => s.fabClr w.toNat)) s

/-- ENG_CNT_CLR (R24). -/
def execEngCntClr (dt : Nat) (w : Word) (s : State) : Host.Outcome State Fault Refusal :=
  act dt (fun s => s.hostCmd Rw.ENG_CNT_CLR Reg.ENG_CNT_CLR false w.toNat (fun s => s.engClr w.toNat)) s

/-- SNS_CNT_CLR (R24). -/
def execSnsCntClr (dt : Nat) (w : Word) (s : State) : Host.Outcome State Fault Refusal :=
  act dt (fun s => s.hostCmd Rw.SNS_CNT_CLR Reg.SNS_CNT_CLR false w.toNat (fun s => s.snsClr w.toNat)) s

/-- GNS_CNT_CLR (R24). -/
def execGnsCntClr (dt : Nat) (w : Word) (s : State) : Host.Outcome State Fault Refusal :=
  act dt (fun s => s.hostCmd Rw.GNS_CNT_CLR Reg.GNS_CNT_CLR false w.toNat (fun s => s.gnsClr w.toNat)) s

/-- FUS_CNT_CLR (R24). -/
def execFusCntClr (dt : Nat) (w : Word) (s : State) : Host.Outcome State Fault Refusal :=
  act dt (fun s => s.hostCmd Rw.FUS_CNT_CLR Reg.FUS_CNT_CLR false w.toNat (fun s => s.fusClr w.toNat)) s

/-- ALC_CNT_CLR (R24). -/
def execAlcCntClr (dt : Nat) (w : Word) (s : State) : Host.Outcome State Fault Refusal :=
  act dt (fun s => s.hostCmd Rw.ALC_CNT_CLR Reg.ALC_CNT_CLR false w.toNat (fun s => s.alcClr w.toNat)) s

/-- SLV_CNT_CLR (R24). -/
def execSlvCntClr (dt : Nat) (w : Word) (s : State) : Host.Outcome State Fault Refusal :=
  act dt (fun s => s.hostCmd Rw.SLV_CNT_CLR Reg.SLV_CNT_CLR false w.toNat (fun s => s.slvClr w.toNat)) s

/-- HZN_CNT_CLR (R24). -/
def execHznCntClr (dt : Nat) (w : Word) (s : State) : Host.Outcome State Fault Refusal :=
  act dt (fun s => s.hostCmd Rw.HZN_CNT_CLR Reg.HZN_CNT_CLR false w.toNat (fun s => s.hznClr w.toNat)) s

/-- FBK_CNT_CLR (R24). -/
def execFbkCntClr (dt : Nat) (w : Word) (s : State) : Host.Outcome State Fault Refusal :=
  act dt (fun s => s.hostCmd Rw.FBK_CNT_CLR Reg.FBK_CNT_CLR false w.toNat (fun s => s.fbkClr w.toNat)) s

/-- KRB_CNT_CLR (R24). -/
def execKrbCntClr (dt : Nat) (w : Word) (s : State) : Host.Outcome State Fault Refusal :=
  act dt (fun s => s.hostCmd Rw.KRB_CNT_CLR Reg.KRB_CNT_CLR false w.toNat (fun s => s.krbClr w.toNat)) s

/-- RING_CNT_CLR (R24). -/
def execRingCntClr (dt : Nat) (w : Word) (s : State) : Host.Outcome State Fault Refusal :=
  act dt (fun s => s.hostCmd Rw.RING_CNT_CLR Reg.RING_CNT_CLR false w.toNat (fun s => s.ringClr w.toNat)) s

/-- TIM_CNT_CLR (R24). -/
def execTimCntClr (dt : Nat) (w : Word) (s : State) : Host.Outcome State Fault Refusal :=
  act dt (fun s => s.hostCmd Rw.TIM_CNT_CLR Reg.TIM_CNT_CLR false w.toNat (fun s => s.timClr w.toNat)) s

/-- RED_CNT_CLR (R24). -/
def execRedCntClr (dt : Nat) (w : Word) (s : State) : Host.Outcome State Fault Refusal :=
  act dt (fun s => s.hostCmd Rw.RED_CNT_CLR Reg.RED_CNT_CLR false w.toNat (fun s => s.redClr w.toNat)) s

/-- TG_CNT_CLR (R24). -/
def execTgCntClr (dt : Nat) (w : Word) (s : State) : Host.Outcome State Fault Refusal :=
  act dt (fun s => s.hostCmd Rw.TG_CNT_CLR Reg.TG_CNT_CLR false w.toNat (fun s => s.tgClr w.toNat)) s

/-- LOG_CNT_CLR (R24). -/
def execLogCntClr (dt : Nat) (w : Word) (s : State) : Host.Outcome State Fault Refusal :=
  act dt (fun s => s.hostCmd Rw.LOG_CNT_CLR Reg.LOG_CNT_CLR false w.toNat (fun s => s.logClr w.toNat)) s

/-- HIF_CNT_CLR (R24). -/
def execHifCntClr (dt : Nat) (w : Word) (s : State) : Host.Outcome State Fault Refusal :=
  act dt (fun s => s.hostCmd Rw.HIF_CNT_CLR Reg.HIF_CNT_CLR false w.toNat (fun s => s.hifClr w.toNat)) s

/-- PWR_CNT_CLR (R24). -/
def execPwrCntClr (dt : Nat) (w : Word) (s : State) : Host.Outcome State Fault Refusal :=
  act dt (fun s => s.hostCmd Rw.PWR_CNT_CLR Reg.PWR_CNT_CLR false w.toNat (fun s => s.pwrClr w.toNat)) s

/-- HLT_CNT_CLR (R24). -/
def execHltCntClr (dt : Nat) (w : Word) (s : State) : Host.Outcome State Fault Refusal :=
  act dt (fun s => s.hostCmd Rw.HLT_CNT_CLR Reg.HLT_CNT_CLR false w.toNat (fun s => s.hltClr w.toNat)) s

/-- LANE_CNT_CLR of a lane (R24). -/
def execLaneCntClr (dt n : Nat) (w : Word) (s : State) : Host.Outcome State Fault Refusal :=
  act dt (fun s => if n < 64 then
    s.hostCmd Rw.LANE_CNT_CLR (Reg.LANE_CNT_CLR n) false w.toNat (fun s => s.laneClr n w.toNat) else s) s

/-- SEC_CNT_CLR (R24): a privileged register. -/
def execSecCntClr (dt : Nat) (w : Word) (priv : Bool) (s : State) : Host.Outcome State Fault Refusal :=
  act dt (fun s => s.hostCmd Rw.SEC_CNT_CLR Reg.SEC_CNT_CLR priv w.toNat (fun s => s.secClr w.toNat)) s

end Sys2Proof.Machine
end

