-- ==== Sys2Proof/Machine/Gnss.lean ====
section
/-! DEFINITION. Machine/Gnss.lean: the commands of the satellite navigation baseband (R105 to R138). -/

namespace Sys2Proof.Machine

/-- GCLK_LOST (R108). -/
def execGclkLost (dt : Nat) (s : State) : Host.Outcome State Fault Refusal := actUnit 10 dt State.gclkLost s

/-- FE_TRANSACTION (R109). -/
def execFeTransaction (dt : Nat) (w : Word) (priv : Bool) (s : State) : Host.Outcome State Fault Refusal :=
  act dt (fun s => s.hostCmd Rw.GNS_FE_CMD Reg.GNS_FE_CMD priv w.toNat (fun s => s.feCmd w.toNat)) s

/-- FE_TRANSACTION_DONE (R109). -/
def execFeTransactionDone (dt : Nat) (inBits : Word) (s : State) : Host.Outcome State Fault Refusal :=
  actUnit 10 dt (fun s => s.feDone inBits.toNat) s

/-- PVT_EPOCH (R116): of a closed baseband the timebase sees an epoch without a time solution (R133). -/
def execPvtEpoch (dt : Nat) (e : PvtIn) (s : State) : Host.Outcome State Fault Refusal :=
  act dt (fun s => if s.isOpen 10 then s.pvtEpoch e else s.gnssTime none) s

/-- HOLDOVER_LIMIT (R134). -/
def execHoldoverLimit (dt : Nat) (s : State) : Host.Outcome State Fault Refusal := actUnit 11 dt State.holdLimit s

/-- GNS_RTCM_DATA (R124). -/
def execGnsRtcmData (dt : Nat) (w : Word) (s : State) : Host.Outcome State Fault Refusal :=
  act dt (fun s => s.hostCmd Rw.GNS_RTCM_DATA Reg.GNS_RTCM_DATA false w.toNat (fun s =>
    if s.get Fl.GNS_CTL_RTK_SRC = 1 then s.rtcmByte (w.toNat % 256) else s.count Reg.GNS_RTCM_IGNORED)) s

/-- RTCM_FRAME_RECEIVED (R125). -/
def execRtcmFrameReceived (dt : Nat) (bytes : List Byte) (s : State) : Host.Outcome State Fault Refusal :=
  actUnit 10 dt (fun s => s.rtcmFrame (bytesNat bytes)) s

/-- NOTCH_SPECTRUM_UPDATE (R130). -/
def execNotchSpectrumUpdate (dt : Nat) (lines : List SpecLine) (s : State) : Host.Outcome State Fault Refusal :=
  actUnit 10 dt (fun s => s.notchUpdate lines) s

/-- PPS_EDGE (R131). -/
def execPpsEdge (dt : Nat) (s : State) : Host.Outcome State Fault Refusal := actUnit 11 dt State.ppsEdge s

/-- ACQUISITION_DONE (R114). -/
def execAcquisitionDone (dt ch : Nat) (acq : Acq) (s : State) : Host.Outcome State Fault Refusal :=
  actUnit 10 dt (fun s => s.acquired ch acq) s

/-- SIGNAL_LOST (R115). -/
def execSignalLost (dt ch : Nat) (s : State) : Host.Outcome State Fault Refusal := actUnit 10 dt (fun s => s.signalLost ch) s

/-- VKEEP_LOSS (R137, R382): the keep-alive domain loses its part of the retention set and a tamper event it held. -/
def execVkeepLoss (dt : Nat) (s : State) : Host.Outcome State Fault Refusal :=
  actAlways dt (fun s => { s with gns := { s.gns with retKeep := none }, sec := { s.sec with tamperLatch := false } }) s

end Sys2Proof.Machine
end

