-- ==== Sys2Proof/Machine/StepHooks.lean ====
section
/-! DEFINITION. Machine/StepHooks.lean: what other units do when the clock is stepped (R328): trigger schedules and
stream estimators (R90, R91, R93) and the observer's history (R152). -/
namespace Sys2Proof.Machine

/-- The sensor ports and the fusion unit follow a step of the clock by `off` (R328). -/
def State.afterStep (s : State) (off : Int) : State :=
  let s := if s.isOpen 8 then s.sensorsStepped off else s
  s.fusionStepped off

end Sys2Proof.Machine
end

