-- ==== Sys2Proof/Machine/Time.lean ====
section
/-! DEFINITION. Machine/Time.lean: the commands of the timebase (R323 to R329). -/

namespace Sys2Proof.Machine

/-- The SOURCE code of the 1588 source on a port (R324). -/
def ptpSource (port : Nat) : Nat := if port < 2 then 2 else if port < 4 then 3 else 4

/-- One data set is better than another under the BMCA: smaller in comparison order. -/
def bmcaBetter : List Nat → List Nat → Bool
  | [], _ => false
  | _ :: _, [] => true
  | a :: l, b :: m => a < b || (a == b && bmcaBetter l m)

/-- The smallest clockAccuracy of IEEE 1588-2019 that covers u ns (PRESUMED: the standard's table; log entry 101). -/
def accuracyOf (u : Nat) : Nat :=
  if u ≤ 1 then 0x1D else if u ≤ 2 then 0x1E else if u ≤ 10 then 0x1F else if u ≤ 25 then 0x20 else if u ≤ 100 then 0x21 else if u ≤ 250 then 0x22 else if u ≤ 1000 then 0x23
  else if u ≤ 2500 then 0x24 else if u ≤ 10000 then 0x25 else if u ≤ 25000 then 0x26 else if u ≤ 100000 then 0x27
  else if u ≤ 250000 then 0x28 else if u ≤ 1000000 then 0x29 else if u ≤ 2500000 then 0x2A
  else if u ≤ 10000000 then 0x2B else if u ≤ 25000000 then 0x2C else if u ≤ 100000000 then 0x2D
  else if u ≤ 250000000 then 0x2E else if u ≤ 1000000000 then 0x2F else if u ≤ 10000000000 then 0x30 else 0x31

namespace State

/-- clockClass offered (R325). -/
def clockClass (s : State) : Nat :=
  if !s.is Fl.TIM_PTP_CFG_GM_EN then 255
  else match s.get Fl.TIM_STATUS_QUALITY with | 1 => 6 | 2 => 7 | 3 => 52 | _ => 248

/-- clockAccuracy offered (R325). -/
def clockAccuracy (s : State) : Nat :=
  match s.get Fl.TIM_STATUS_QUALITY with | 1 => 0x21 | 2 => accuracyOf (s.rd Reg.GNS_HOLD_U) | _ => 0xFE

/-- timeSource offered (R325): of the source in use, or last in use. -/
def timeSource (s : State) : Nat :=
  let c := s.get Fl.TIM_STATUS_SOURCE
  if s.get Fl.TIM_STATUS_QUALITY = 0 then 0xA0 else if (if c = 0 then s.tim.lastSrc else c) = 1 then 0x20 else 0x40

/-- The device's own data set in BMCA order. -/
def ownDataset (s : State) : List Nat :=
  [s.get Fl.TIM_PTP_CFG_PRIORITY1, s.clockClass, s.clockAccuracy, 0xFFFF, s.get Fl.TIM_PTP_CFG_PRIORITY2, Config.dieId]

/-- The device is grandmaster on the network of a 1588 source under the BMCA; a Junction does not offer itself on ring B (R325). -/
def gmOn (s : State) (c : Nat) : Bool :=
  s.is Fl.TIM_PTP_CFG_GM_EN && !(s.is Fl.RING_CFG_JUNCTION && c == 3) &&
    ((s.timSrc c).best.isEmpty || bmcaBetter s.ownDataset (s.timSrc c).best)

/-- TIM_STATUS.GM: grandmaster on at least one ring (R325). -/
def gmPublish (s : State) : State := s.flag Fl.TIM_STATUS_GM (s.gmOn 2 || s.gmOn 3)

/-- A log₂ interval of TIM_PTP_INTV, a signed 4-bit field, in ns (R325). -/
def ptpInterval (s : State) (f : Fld) : Nat :=
  let v := s.get f
  10 ^ 9 * 2 ^ ((v + 8) % 16) / 256

/-- The destination address of a 1588 message (R325). -/
def ptpDest (pdelay : Bool) : Nat := if pdelay then 0x0180C200000E else 0x011B19000000

/-- An Announce: a better data set, or the present master's own, is held; with a new identity the master before it is lost, the
count starts again and the tenth offset enters the policy (R324, R327). UTC comes from the source in use (R329). -/
def ptpAnnounce (s : State) (m : PtpMsg) : State :=
  let c := ptpSource m.port
  let t := s.timSrc c
  let same := t.best.getLastD 0 == m.clockId
  let s := if t.best.isEmpty || same || bmcaBetter m.dataset t.best then
      let s := if same || t.best.isEmpty then s else s.timLost c
      let s : State := { s with tim := { s.tim with
        src := aSet s.tim.src c { s.timSrc c with best := m.dataset ++ [m.clockId] }, annAt := aSet s.tim.annAt c s.now } }
      if s.get Fl.TIM_STATUS_SOURCE = c then
        (s.wr Reg.TIM_PTP_GM_LO m.clockId).wr Reg.TIM_PTP_GM_HI (m.clockId / 2 ^ 32)
      else s
    else s
  let s := if s.get Fl.TIM_STATUS_SOURCE = c then
      (match m.utc with | some u => s.timUtc 2 u m.leap | none => s) else s
  s.gmPublish

/-- A forwarded Sync of a peer-to-peer transparent clock: link delay and residence are added to correctionField; the
residence time is free, at most 800 ns (R326, R311). -/
def ptpForward (s : State) (m : PtpMsg) : State :=
  if m.port < 4 && s.is Fl.TIM_PTP_CFG_TC_EN then
    let (r, s) := s.draw
    let d : Int := s.linkDelay m.port
    { s with tim := { s.tim with txLast := some ⟨0, ptpDest false, m.port ^^^ 1, m.seq, 0, 0, 0, 0, 0, m.domain, m.clockId, m.origin,
      m.corr + d + (r % 801 : Nat)⟩ } }
  else s

/-- A Sync: forwarded by the transparent clock; as an ordinary clock the first of each sequenceId of the best master
gives an offset (R326, R324). -/
def ptpSync (s : State) (m : PtpMsg) : State :=
  let s := s.ptpForward m
  let c := ptpSource m.port
  let t := s.timSrc c
  if !s.ptpUsable c || t.best.isEmpty || t.best.getLastD 0 != m.clockId || aGet s.tim.seqSeen c == some m.seq then s
  else
    let raw : Int := (s.clk : Int) - m.origin - m.corr
    let s : State := { s with tim := { s.tim with
      seqSeen := aSet s.tim.seqSeen c m.seq, msOffset := raw, syncAt := aSet s.tim.syncAt c s.now } }
    s.timOffset c (raw - (if m.port < 4 then (s.linkDelay m.port : Int) else s.tim.pathDelay))

/-- A peer-delay answer measures the port's mean link delay, whatever the role (R326). -/
def ptpPdelayResp (s : State) (m : PtpMsg) : State :=
  match aGet s.tim.reqT1 m.port with
  | none => s
  | some t1 =>
    let d : Int := ((s.clk : Int) - t1 - m.turn - m.corr) / 2
    let s : State := { s with tim := { s.tim with reqT1 := aDel s.tim.reqT1 m.port } }
    if m.port < 4 then s.put (Fl.RING_PORT_STATUS_PDELAY m.port) (min 0xFFFE d.toNat) else s

/-- An end-to-end answer on the Causeway gives the mean path delay (R326). -/
def ptpDelayResp (s : State) (m : PtpMsg) : State :=
  match aGet s.tim.reqT1 4 with
  | none => s
  | some t1 =>
    let back : Int := (m.origin : Int) - t1 - m.corr
    { s with tim := { s.tim with reqT1 := aDel s.tim.reqT1 4, pathDelay := (s.tim.msOffset + back) / 2 } }

/-- A message the device answers: the answer carries the turn-around in one step; its residence is free (R325, R326). -/
def ptpAnswer (s : State) (m : PtpMsg) (kind : Nat) : State :=
  let (r, s) := s.draw
  { s with tim := { s.tim with txLast := some ⟨kind, ptpDest (kind == 4), m.port, m.seq, 0, 0, 0, 0, 0, m.domain, Config.dieId, s.clk,
    m.corr + (r % 1000000 : Nat)⟩ } }

/-- An IEEE 1588 message is used by its kind (R326). -/
def ptpReceive (s : State) (m : PtpMsg) : State :=
  if m.domain != s.get Fl.TIM_PTP_CFG_DOMAIN || !(if m.port = 4 then s.is Fl.TIM_PTP_CFG_E2E_CW && s.red.cwLink else s.carries m.port) then s
  else match m.kind with
    | .sync => s.ptpSync m
    | .announce => s.ptpAnnounce m
    | .pdelayReq => s.ptpAnswer m 4
    | .pdelayResp => s.ptpPdelayResp m
    | .delayReq => s.ptpAnswer m 5
    | .delayResp => s.ptpDelayResp m

/-- The interval of a message the device sends (R325). -/
def ptpEvery (s : State) : PtpKind → Nat
  | .sync => s.ptpInterval Fl.TIM_PTP_INTV_LOG_SYNC
  | .announce => s.ptpInterval Fl.TIM_PTP_INTV_LOG_ANNOUNCE
  | .pdelayReq => s.ptpInterval Fl.TIM_PTP_INTV_LOG_PDELAY
  | .delayReq => s.ptpInterval Fl.TIM_PTP_INTV_LOG_DELAY

/-- The code of a message and the bytes of it after the EtherType, as IEEE 1588 gives them (PRESUMED, log entry 101). -/
def ptpCode : PtpKind → Nat × Nat
  | .sync => (0, 44) | .announce => (1, 64) | .pdelayReq => (2, 54) | .delayReq => (3, 44)

/-- A message may be sent (R325, R326): Sync and Announce where the device is grandmaster, Pdelay_Req on ring ports whatever the
role, Delay_Req on the Causeway; its interval has passed, and on a ring it fits the window (R311). -/
def ptpMay (s : State) (k : PtpKind) (port : Nat) : Bool :=
  let (code, len) := ptpCode k
  (match k with
    | .sync | .announce => s.gmOn (ptpSource port) && (decide (port < 4) || s.is Fl.TIM_PTP_CFG_E2E_CW)
    | .pdelayReq => decide (port < 4)
    | .delayReq => port == 4 && s.is Fl.TIM_PTP_CFG_OC_EN && s.is Fl.TIM_PTP_CFG_E2E_CW) &&
  (match aGet s.tim.txAt (code * 8 + port) with | none => true | some t => decide (t + s.ptpEvery k ≤ s.now)) &&
  (if port = 4 then s.red.cwLink else s.inWindow len)

/-- A message sent at its interval (R325, R326). -/
def ptpSend (s : State) (k : PtpKind) (port : Nat) : State :=
  let kind := (ptpCode k).1
  if !s.ptpMay k port then s else
    let s := s.gmPublish
    let q := aGetD s.tim.seqTx (kind * 8 + port) 0
    { s with tim := { s.tim with
        seqTx := aSet s.tim.seqTx (kind * 8 + port) ((q + 1) % 2 ^ 16)
        txAt := aSet s.tim.txAt (kind * 8 + port) s.now
        reqT1 := if kind = 2 ∨ kind = 3 then aSet s.tim.reqT1 port s.clk else s.tim.reqT1
        txLast := some ⟨kind, ptpDest (kind == 2), port, q, s.clockClass, s.clockAccuracy, s.timeSource,
          s.get Fl.TIM_PTP_CFG_PRIORITY1, s.get Fl.TIM_PTP_CFG_PRIORITY2, s.get Fl.TIM_PTP_CFG_DOMAIN, Config.dieId, s.clk, 0⟩ } }

/-- A 1588 source is lost at the announceReceiptTimeout, or after three Sync intervals without a Sync (R324); at any other instant the
command does nothing. -/
def ptpSilent (s : State) (c : Nat) : State :=
  let ann := s.get Fl.TIM_PTP_INTV_ANN_TMO * s.ptpInterval Fl.TIM_PTP_INTV_LOG_ANNOUNCE
  let a := aGetD s.tim.annAt c 0
  let y := max a (aGetD s.tim.syncAt c 0)
  if 2 ≤ c ∧ c ≤ 4 ∧ (a + ann ≤ s.now ∨ y + 3 * s.ptpInterval Fl.TIM_PTP_INTV_LOG_SYNC ≤ s.now) then (s.timLost c).gmPublish else s

/-- ACCEPT: the pending step is placed at the next second boundary (R327). -/
def acceptJump (s : State) : State :=
  if !s.is Fl.TIM_STATUS_JUMP_PENDING then s
  else
    let c := s.timSrc (s.get Fl.TIM_STATUS_SOURCE)
    { s with tim := { s.tim with step := some c.offset, stepSec := s.clk / 10 ^ 9, accepted := true } }

/-- The step due at the next second boundary of the local clock, strictly after the instant that asked for it (R469), is
applied; quality becomes LOCKED; an accepted one is logged (R327, R328). -/
def timeStep (s : State) : State :=
  match s.tim.step with
  | none => s
  | some off =>
    if !(s.clkAt (10 ^ 9) && decide (s.tim.stepSec < s.clk / 10 ^ 9)) then s else
    let acc := s.tim.accepted
    let s := (s.stepClock off).slewStop
    let s : State := { s with tim := { s.tim with step := none, accepted := false } }
    let s := ((s.flag Fl.TIM_STATUS_JUMP_PENDING false).put Fl.TIM_STATUS_QUALITY 1).afterStep off
    s.when acc (fun s => s.logEv Ev.TIME_STEP)

/-- Reading TIM_NOW_NS latches the seconds of the same instant (R323). -/
def readNow (s : State) : State :=
  let ns := s.clk % 10 ^ 9
  let sec := s.clk / 10 ^ 9
  (((s.wr Reg.TIM_NOW_NS ns).wr Reg.TIM_NOW_SEC_LO sec).wr Reg.TIM_NOW_SEC_HI (sec / 2 ^ 32 % 2 ^ 16)).reply ns

end State

/-- PTP_MESSAGE_RECEIVED (R325, R326). -/
def execPtpMessageReceived (dt : Nat) (m : PtpMsg) (s : State) : Host.Outcome State Fault Refusal :=
  actUnit 11 dt (fun s => s.ptpReceive m) s

/-- PTP_SOURCE_LOST (R324): announce timeout or three Sync intervals without a Sync. -/
def execPtpSourceLost (dt src : Nat) (s : State) : Host.Outcome State Fault Refusal :=
  actUnit 11 dt (fun s => s.ptpSilent src) s

/-- PTP_MESSAGE_TRANSMIT (R325). -/
def execPtpMessageTransmit (dt : Nat) (kind : PtpKind) (port : Nat) (s : State) : Host.Outcome State Fault Refusal :=
  actUnit 11 dt (fun s => s.ptpSend kind port) s

/-- ACCEPT (R327). -/
def execAccept (dt : Nat) (priv : Bool) (s : State) : Host.Outcome State Fault Refusal :=
  act dt (fun s => s.hostCmd Rw.TIM_JUMP_CTL Reg.TIM_JUMP_CTL priv 1 State.acceptJump) s

/-- TIME_STEP (R327, R328). -/
def execTimeStep (dt : Nat) (s : State) : Host.Outcome State Fault Refusal := actUnit 11 dt State.timeStep s

/-- TIM_NOW_NS_READ (R323, R415). -/
def execTimNowNsRead (dt : Nat) (s : State) : Host.Outcome State Fault Refusal :=
  act dt (fun s => if s.hostClosed Reg.TIM_NOW_NS then (s.closedAccess Reg.TIM_NOW_NS).reply 0 else s.readNow) s

/-- SLEW_COMPLETE (R327). -/
def execSlewComplete (dt : Nat) (s : State) : Host.Outcome State Fault Refusal := actUnit 11 dt State.slewEnd s

end Sys2Proof.Machine
end

