-- ==== Sys2Proof/Machine/HostOps.lean ====
section
/-! DEFINITION. Machine/HostOps.lean: host accesses of single words, and SPI frames (R406 to R422). -/

namespace Sys2Proof.Machine

/-- The row that a host address meets: a register, or a word of the NVW window. -/
def hostRow (a : Nat) : Option Row := if a / 0x10000 = 0x30 then some nvwRow else findRow a

/-- A location is privileged (R17). -/
def hostPriv (a : Nat) : Bool := (hostRow a).any Row.priv

namespace State

/-! ### Freezes outside RUN (R422) -/

/-- Outside RUN the boundaries of a freeze are whole milliseconds of the local clock. -/
def snapMs (s : State) : State :=
  match s.freeze with
  | none => s
  | some n =>
    if s.inRun then s
    else
      let d := s.ms - s.frozenMs
      if d = 0 then s
      else if n ≤ d then s.snapExpire
      else ({ s with freeze := some (n - d), frozenMs := s.ms } : State).snapPublish

/-- A read of GLB_SNAP_EPOCH (R45, R422). -/
def snapRead (s : State) : State :=
  let s := if s.freeze.isSome then s else { s with frozenMs := s.ms }
  (s.snapFreeze).reply s.snapFreeze.pace.visEpoch

/-- What a host access finds done by the local clock's milliseconds. -/
def hostStart (s : State) : State := s.tgDue.snapMs

/-! ### Words (R15 to R21, R415) -/

/-- A word of the ring-image replica (R420). -/
def imgWord (s : State) (off : Nat) : Nat :=
  let p := (aGet s.ring.pages (off / 256 % 256)).map (·.data) |>.getD []
  (List.range 4).foldl (fun a i => a + p.getD (off % 256 / 4 * 4 + i) 0 * 256 ^ i) 0

/-- A read of one word that has passed the privilege check, answered on H_MISO, with its side effect (R20, R45, R415). -/
def readWord (s : State) (a : Nat) : State :=
  if s.hostClosed a then (s.closedAccess a).reply 0
  else if a / 0x10000 = 0x20 then s.reply (s.imgWord (a % 65536))
  else if a / 0x10000 = 0x30 then s.reply (s.nvwRead (a % 65536))
  else match findRow a with
    | none => s.reply 0
    | some r =>
      let i := r.idx a
      let b := r.base
      if b = Reg.GLB_SNAP_EPOCH then s.snapRead
      else if b = Reg.GLB_SNAP_LEG then s.reply s.legB.visEpoch
      else if b = Reg.GLB_DIE_LO then
        ({ s with shadows := aSet s.shadows a (BitVec.ofNat 32 (Config.dieId / 2 ^ 32)) } : State).reply (Config.dieId % 2 ^ 32)
      else if b = Reg.SNS_PORT_STATUS 0 then s.portStatusRead i
      else if b = Reg.LOOP_CAP_RDDATA 0 then (s.capRead i).2.reply (s.capRead i).1
      else if b = Reg.LOG_RD_DATA 0 ∧ i = 7 then s.logReadLast
      else if b = Reg.SEC_EXPORT_DATA then s.exportRead
      else if b = Reg.TIM_NOW_NS then s.readNow
      else if b = Reg.FIR_COEF 0 then s.reply (s.coefRead i)
      else if isSection b && (s.sectionSlot i).isNone then s.reply 0
      else (s.rosLatch a).reply (s.shown a)

/-- The effect of a write to a write-only register. -/
def writeCmd (s : State) (r : Row) (a w : Nat) : State :=
  let i := r.idx a
  let b := r.base
  if b = Reg.GLB_SNAP_RELEASE then s.snapRelease
  else if b = Reg.PWR_CMD then s.pwrCmd w
  else if b = Reg.PWR_UNIT_RESET then s.unitResetCmd w
  else if b = Reg.PWR_CNT_CLR then s.pwrClr w
  else if b = Reg.TG_CMD then s.tgCmd w
  else if b = Reg.TG_DATA then s.tgData (BitVec.ofNat 32 w)
  else if b = Reg.TG_CNT_CLR then s.tgClr w
  else if b = Reg.TG_NVW_CMD then s.nvwCmd w
  else if b = Reg.FAB_CNT_CLR then s.fabClr w
  else if b = Reg.ENG_CNT_CLR then s.engClr w
  else if b = Reg.SLV_CNT_CLR then s.slvClr w
  else if b = Reg.ALC_CNT_CLR then s.alcClr w
  else if b = Reg.HZN_CNT_CLR then s.hznClr w
  else if b = Reg.HZN_ID_CMD then (s.when (w.testBit 0) hznRestore).when (w.testBit 1) hznResetEst
  else if b = Reg.LOOP_SP_GO then s.spGo w
  else if b = Reg.SNS_CNT_CLR then s.snsClr w
  else if b = Reg.SNS_PORT_TXDATA 0 then s.txWrite i w
  else if b = Reg.FUS_CMD then s.fusCmd (w / 2 ^ 28) (w % 32)
  else if b = Reg.FUS_CNT_CLR then s.fusClr w
  else if b = Reg.GNS_RTCM_DATA then
    (if s.get Fl.GNS_CTL_RTK_SRC = 1 then s.rtcmByte (w % 256) else s.count Reg.GNS_RTCM_IGNORED)
  else if b = Reg.GNS_CNT_CLR then s.gnsClr w
  else if b = Reg.TIM_JUMP_CTL then s.when (w.testBit 0) acceptJump
  else if b = Reg.TIM_CNT_CLR then s.timClr w
  else if b = Reg.FBK_CNT_CLR then s.fbkClr w
  else if b = Reg.LANE_CNT_CLR 0 then s.laneClr i w
  else if b = Reg.KRB_ACK then s.kerbAckWrite w
  else if b = Reg.KRB_CNT_CLR then s.krbClr w
  else if b = Reg.KRB_CONN_CLR then s.when (w.testBit 8) (fun s => (s.connClear (w % 256)).kerbUpdate)
  else if b = Reg.RING_CNT_CLR then s.ringClr w
  else if b = Reg.RING_MGMT_RX_POP then s.when (w.testBit 0) mailPop
  else if b = Reg.RED_CMD then s.redCmd w
  else if b = Reg.RED_CNT_CLR then s.redClr w
  else if b = Reg.LOG_CNT_CLR then s.logClr w
  else if b = Reg.LOG_CMD then s.logCmd w
  else if b = Reg.SEC_ALARM_CLR then s.alarmClr w
  else if b = Reg.SEC_CMD then s.secCmdWrite w
  else if b = Reg.SEC_KEK 0 then { s with sec := { s.sec with kekBuf := aSet s.sec.kekBuf i (BitVec.ofNat 32 w) } }
  else if b = Reg.SEC_SKEY_BUF 0 then { s with sec := { s.sec with skeyBuf := aSet s.sec.skeyBuf i (BitVec.ofNat 32 w) } }
  else if b = Reg.SEC_NONCE 0 then { s with sec := { s.sec with nonce := aSet s.sec.nonce i (BitVec.ofNat 32 w) } }
  else if b = Reg.SEC_CNT_CLR then s.secClr w
  else if b = Reg.HLT_CNT_CLR then s.hltClr w
  else if b = Reg.HLT_VERGE_CMD then s.vergeCmd w
  else if b = Reg.HIF_CNT_CLR then s.hifClr w
  else s

/-- The effect of a legal write to a register (R16, R418). -/
def writeReg (s : State) (r : Row) (a w : Nat) : State :=
  let s := s.w1c r a w
  match r.acc with
  | .wo | .wop => s.writeCmd r a w
  | .rw | .rwp => s.writeImm r a w
  | .rws => s.writeStaged r a w
  | .ro | .rop | .ros | .w1c => s

/-- A write of one word that has passed the privilege check. -/
def writeWord (s : State) (a w : Nat) : State :=
  match hostRow a with
  | none => if s.hostClosed a then s.closedAccess a else s
  | some r => s.hostWrite r a w (fun s => if a / 0x10000 = 0x30 then s.nvwWrite (a % 65536) w else s.writeReg r a w)

/-- Register writes that the fabric performed are taken by their units as writes of those registers (R55, R57; DESIGN CHOICE,
log entry 70). -/
def fabDrain (s : State) : State :=
  let l := s.fab.due
  ({ s with fab := { s.fab with due := [] } } : State).each l (fun s c => s.writeWord c.1 c.2.toNat)

/-- A change of the state, and where the fabric performed register writes in it, their units take them. -/
def draining (f : State → State) (s : State) : State :=
  let t := f s
  if t.fab.due = s.fab.due then t else t.fabDrain

/-- One word as a transaction of its own: the privilege check, then the access (R62, R386, R416). -/
def hostOne (s : State) (a : Nat) (priv : Bool) (refused : State → State) (f : State → State) : State :=
  if hostPriv a && !priv then refused (s.privRefused a) else f (if hostPriv a then s.privUsed else s)

/-! ### Frames (R407 to R412) -/

/-- The status byte (R411). -/
def statusByte (s : State) : Nat :=
  (if (s.rd Reg.HIF_IRQ_STATUS &&& s.rd Reg.HIF_IRQ_EN) = 0 then 0 else 128) + s.get Fl.HIF_STATUS_FRAME_ERR * 64 +
    s.get Fl.HIF_STATUS_CLOSED_UNIT * 32 + s.get Fl.HIF_STATUS_BAD_WRITE * 16 + (if s.freeze.isSome then 8 else 0) + s.role % 8

/-- The longest stall of R414. -/
def stallSeen (s : State) (n : Nat) : State :=
  s.put ⟨Reg.HIF_STALL_MAX, 15, 0⟩ (max (s.get ⟨Reg.HIF_STALL_MAX, 15, 0⟩) (min n 0xFFFF))

/-- ADDR of a frame; bytes that were not clocked are open (log entry 50). -/
def frameAddr (s : State) (b : List Nat) : Nat × State :=
  if b.length < 4 then
    (let (x, s) := s.draw
     (beAt (b.drop 1 ++ toBE 3 x) 0 3, s))
  else (beAt b 1 3, s)

/-- A frame that breaks the format (R412). -/
def frameErr (s : State) (b : List Nat) : State :=
  let (a, s) := s.frameAddr b
  ((s.flag Fl.HIF_STATUS_FRAME_ERR true).count Reg.HIF_FRAME_ERRS).lastErr 4 a

/-- The bytes answered on H_MISO. -/
def answer (s : State) (b : List Nat) : State := { s with hif := { s.hif with miso := b.map (BitVec.ofNat 8) } }

/-- What a frame's privileged words leave (R386, R416): refused ones as one transaction, or the run ended. -/
def framePriv (s : State) (addrs : List Nat) (priv : Bool) : State :=
  match addrs.find? hostPriv with
  | none => s
  | some a => if priv then s.privUsed else s.privRefused a

/-- The words of a READ in order, with the bytes they gave. -/
def readWords (priv : Bool) : List Nat → State → List Nat → State × List Nat
  | [], s, out => (s, out)
  | a :: l, s, out =>
    if hostPriv a && !priv then readWords priv l s (out ++ [0, 0, 0, 0])
    else
      let s := s.readWord a
      readWords priv l s (out ++ s.hif.miso.map (·.toNat))

/-- The words of a WRITE in order. -/
def writeWords (priv : Bool) : List (Nat × Nat) → State → State
  | [], s => s
  | (a, w) :: l, s => writeWords priv l (if hostPriv a && !priv then s else s.writeWord a w)

end State

/-- Fields of a frame's header (R407). -/
def frameOp (b : List Nat) : Nat := b.getD 0 0 / 64
def frameWords (b : List Nat) : Nat := b.getD 4 0 + 1
def frameAddrs (b : List Nat) : List Nat :=
  (List.range (frameWords b)).map (fun i => beAt b 1 3 + (if (b.getD 0 0).testBit 5 then 0 else 4 * i))

/-- The header is well formed for an operation (R407, R412). -/
def frameHeadOk (b : List Nat) (op : Nat) : Bool :=
  decide (5 ≤ b.length) && frameOp b == op && b.getD 0 0 % 32 == 0 && beAt b 1 3 % 4 == 0 &&
    ((b.getD 0 0).testBit 5 || decide (beAt b 1 3 + 4 * (frameWords b - 1) ≤ 0xFFFFFC))

namespace State

/-- A WRITE frame at the rising edge of H_CS_N (R408, R412). -/
def writeFrame (s : State) (f : SpiIn) : State :=
  let b := bytesNat f.mosi
  let st := s.statusByte
  if !(f.rdy && s.pins.hRdy) then s.frameErr b
  else
    let s := (s.hostStart.stallSeen f.stall).answer (st :: [0, 0, 0, 0])
    let n := frameWords b
    let body := b.take (5 + 4 * n)
    if !frameHeadOk b 2 || decide (b.length < 7 + 4 * n) || beAt b (5 + 4 * n) 2 != crc16 body then s.frameErr b
    else
      let addrs := frameAddrs b
      let words := (List.range n).map (fun i => (addrs.getD i 0,
        (List.range 4).foldl (fun a j => a + b.getD (5 + 4 * i + j) 0 * 256 ^ j) 0))
      ((writeWords f.priv words s).framePriv addrs f.priv).count Reg.HIF_FRAMES

/-- A READ frame (R409, R412, R415): all of it, or, ended early, the words already begun; a freeze that the fetch of a word
not begun has started is released again. -/
def readFrame (s : State) (f : SpiIn) : State :=
  let b := bytesNat f.mosi
  let head := s.statusByte :: [0, 0, 0, 0, 0, 0]
  if !(f.rdy && s.pins.hRdy) then s.frameErr b
  else
    let s := s.hostStart.stallSeen f.stall
    let n := frameWords b
    if !frameHeadOk b 1 || decide (b.length < 7) then (s.answer head).frameErr b
    else if beAt b 5 2 ≠ crc16 (b.take 5) then
      let z := List.replicate (4 * n) 0
      (s.answer (head ++ z ++ toBE 2 (crc16 z ^^^ 0xFFFF))).frameErr b
    else
      let addrs := frameAddrs b
      let k := if f.whole then n else min f.begun n
      let (s, out) := readWords f.priv (addrs.take k) s []
      let s := s.framePriv (addrs.take k) f.priv
      if f.whole then (s.answer (head ++ out ++ toBE 2 (crc16 out))).count Reg.HIF_FRAMES
      else
        let fetched := decide (7 + 4 * k ≤ b.length) && decide (k < n) && addrs.getD k 0 == Reg.GLB_SNAP_EPOCH && s.freeze.isNone
        let s := if fetched then s.snapFreeze.snapRelease else s
        (s.answer (head ++ out.take (b.length - 7))).frameErr b

end State

end Sys2Proof.Machine
end

