-- ==== Sys2Proof/Machine/CycleOps.lean ====
section
/-! DEFINITION. Machine/CycleOps.lean: the station-keeping cycle (R30 to R50): what each boundary and mark commits. -/

namespace Sys2Proof.Machine

namespace State

/-! ### What runs (R32, R330, R426, R470) -/

/-- Pace boundaries and marks pass in READY, RUN and HARBOUR. -/
def cycling (s : State) : Bool := s.power == 2 || s.power == 3 || s.power == 4

/-- A mark that is met once in a pace, before its end mark, and not on a count that an adoption voided (R470). -/
def markOpen (s : State) (code : Nat) : Bool :=
  s.cycling && !s.cyc.voided && !s.cyc.marks.contains code && !s.cyc.marks.contains 4

/-- Pace work runs: in RUN, role ACTIVE, from its first full pace on (R32, R340). -/
def paceWork (s : State) : Bool := s.inRun && s.role == 3 && s.cyc.active && !s.cyc.voided

/-- Leg work of the observer and the route graphs runs: pace work's condition in RUN, always in READY and HARBOUR (R426). -/
def legWork (s : State) : Bool := s.cycling && !s.cyc.voided && (!s.inRun || s.paceWork)

/-- A mark is met. -/
def met (s : State) (code : Nat) : State :=
  ({ s with cyc := { s.cyc with marks := s.cyc.marks ++ [code] } } : State).markPassed

/-- A leg mark is met: the fast Milestone of this pace carries what it committed (R337). -/
def legMet (s : State) (code : Nat) : State :=
  ({ s with red := { s.red with legMarks := s.red.legMarks ++ [code] } } : State).met code

/-! ### Pages of the ring image (R47, R176, R314, R316, R345) -/

/-- A page written at an end mark; it stays dirty until it is sent (R315). -/
def putPage (s : State) (p : Nat) (b : Bytes) : State :=
  let pages := aSet s.ring.pages p ⟨s.cyc.pace, b⟩
  { s with ring := { s.ring with
      pages := pages, dirty := if s.ring.dirty.contains p then s.ring.dirty else s.ring.dirty ++ [p] } }

/-- Page 0x00 (R316). -/
def segmentPage (s : State) : Bytes :=
  [s.address / 256, s.get Fl.RING_CFG_CYCLE] ++ toBE 2 s.address ++ toBE 4 (s.rd Reg.RED_EPOCH) ++ toBE 4 s.cyc.pace ++
    stampBytes s.ring.startNs ++ [s.get Fl.TIM_STATUS_QUALITY, s.get Fl.TIM_STATUS_SOURCE] ++ toBE 2 (s.rd Reg.TIM_UTC) ++ [0, 0] ++
    nodeBits s.ring.a.filled ++ nodeBits s.ring.b.filled ++ List.replicate 164 0

/-- Page 0x01 (R345). -/
def ownerPage (s : State) : Bytes :=
  toBE 4 (s.rd Reg.RED_EPOCH) ++ toBE 2 s.address ++ toBE 2 (if s.hasPartner then s.partner else 0xFFFF) ++
    [s.get Fl.RED_STATUS_PARTNER_ROLE, s.get Fl.RED_STATUS_CW_SILENT + 2 * s.get Fl.RED_STATUS_HB_SILENT, 0, 0] ++
    toBE 4 s.red.takenPace ++ [s.red.how] ++ List.replicate 7 0 ++ toBE 8 s.imageId ++ toBE 8 s.layoutId ++ List.replicate 216 0

/-- Page 0x33 (R176). -/
def guidancePage (s : State) : Bytes :=
  let l := s.loop
  let i4 (v : Int) : Bytes := toBE 4 (uInt v)
  let mm (v : Int) : Int := divRound v 1000000
  let w (a : Nat) : Bytes := toBE 4 (s.rd a)
  i4 l.spN ++ i4 l.spE ++ toBE 4 l.spH ++ toBE 4 l.speed ++ toBE 4 l.turn ++ toBE 4 l.accel ++
    i4 (mm l.refN) ++ i4 (mm l.refE) ++ toBE 4 (nanoAng l.refH) ++ i4 l.vN ++ i4 l.vE ++ i4 l.vH ++
    (List.range 3).flatMap (fun k => w (Reg.LOOP_TAU_CL k)) ++ (List.range 3).flatMap (fun k => w (Reg.LOOP_TAU_PL k)) ++
    (List.range 3).flatMap (fun k => w (Reg.LOOP_TAU k)) ++ toBE 2 (s.rd Reg.LOOP_BLEND_W) ++
    [s.get Fl.LOOP_STATUS_MODE, s.get Fl.LOOP_STATUS_ORIGIN] ++ toBE 4 l.originLat ++ toBE 4 l.originLon ++ toBE 4 l.originHgt ++
    [l.dir] ++ List.replicate 155 0

/-- The words that route graphs wrote into the ring image since the last end mark, page by page (R78). -/
def graphPages (s : State) : State :=
  let out := s.eng.ringOut.filter (fun e => decide (e.1 / 64 < 0xF0))
  let ps := ((out.map (fun e => e.1 / 64)).eraseDups)
  let s := s.each ps (fun s p =>
    let old := aGetD s.ring.pages p ⟨0, List.replicate 256 0⟩
    let b := (out.filter (fun e => e.1 / 64 == p)).foldl (fun b e => spliceBytes b (e.1 % 64 * 4) (toBE 4 e.2)) old.data
    s.putPage p b)
  { s with eng := { s.eng with ringOut := [] } }

/-- The pace's committed state into the ring image (R42, R47), by its owner only. -/
def writePages (s : State) : State :=
  let s := ((s.putPage 0 s.segmentPage).putPage 1 s.ownerPage).putPage 0x33 s.guidancePage
  let s := if s.cyc.marks.contains 6 then s.each s.fusionPages (fun s p => s.putPage p.1 p.2) else s
  s.graphPages

/-! ### Pace boundary (R32, R34, R42) -/

/-- Pace number and phases at a boundary (R31, R32): a device that waits to learn whether there is an owner counts no paces. -/
def countPace (s : State) : State :=
  let waiting := !s.inRun || (s.role == 1 && !s.red.heardOwner)
  let c := s.cyc
  let leg := (c.leg + 1) % s.legPaces
  let stage := if leg = 0 then (c.stage + 1) % s.stageLegs else c.stage
  let c := if c.epochDue then { c with pace := 0, leg := 0, stage := 0 }
    else { c with pace := if waiting then 0 else (c.pace + 1) % 2 ^ 32, leg := leg, stage := stage }
  let c := if c.leg = 0 then { c with legPace := c.pace } else c
  let s : State := { s with cyc := { c with boundaryAt := s.now, voided := false, marks := [], sub := s.cyclesPerPace - 1 } }
  s.wr Reg.GLB_PACE c.pace

/-- The start of a working epoch (R32, R171, R300). -/
def epochStart (s : State) : State :=
  let s := (((s.originFix).alcEpoch).fusionEpoch).hznEpoch
  { s with cyc := { s.cyc with epochDue := false, active := true }
           red := { s.red with takenPace := 0 }
           krb := { s.krb with strobe := s.now }
           ring := { s.ring with trainOn := true, startNs := s.clk } }

/-- The first full pace after a takeover (R340): the leg marks that fell after the applied Milestone count as late. -/
def firstFullPace (s : State) : State :=
  let s : State := { s with cyc := { s.cyc with active := true } }
  match (if s.red.how = 4 then none else s.red.fastApplied) with
  | none => s
  | some n =>
    let gap := (s.cyc.pace + 2 ^ 32 - n) % 2 ^ 32
    let phases := (List.range (min gap 16 - 1)).map (fun i => (s.cyc.leg + 16 * s.legPaces - (i + 1)) % s.legPaces)
    s.each phases.reverse (fun s p =>
      if p = 2 then ({ s with cyc := { s.cyc with obsMet := false } } : State).legOverrun 6
      else if p = 3 then (s.legOverrun 7).legOverrun 8
      else s)

/-- The commands kept for a takeover or an exchange have done their work once pace work runs and the first train is out. -/
def dropHeld (s : State) : State :=
  if s.red.detectAt.isSome || s.red.exch.isSome || s.red.sendNow || s.role != 3 then s
  else { s with red := { s.red with heldCmds := [] } }

/-- A freeze at a pace boundary (R46, R422). -/
def freezeTick (s : State) : State :=
  if s.inRun then { s.snapTick with frozenMs := s.ms } else s.snapMs

/-- PACE_BOUNDARY (R34, R42): on a boundary of the cycle timer (R301). -/
def paceBoundary (s : State) : State :=
  if !(s.cycling && s.timerDue) then s
  else
    let due := s.cyc.epochDue
    let was := s.cyc.active
    let s := s.tgDue.countPace
    let s := if due then s.epochStart else if s.inRun && s.role == 3 && !was then s.firstFullPace else s
    let s : State := s.dropHeld
    let s : State := { s with red := { s.red with hbIndex := 0, legMarks := [] }
                              lanes := { s.lanes with withheld := [] }
                              ring := { s.ring with fbFrozen := s.commitInputs.ring.fbIn } }
    let s : State := { s.commitRecords with alc := { s.commitRecords.alc with solveT := none } }
    let s := ((s.markPassed.waymarks).applyStaged 0).measureLanes.kerbLatch.takeIndexes
    let s := (s.leaveStart.driveFaults).laneTransitions
    let s := if s.cyc.leg = 5 % s.legPaces then s.demandInForce else s
    let s := if s.paceWork && s.isOpen 4 then s.alcBoundary else s
    let s := s.flipPace.freezeTick
    let s := if s.cyc.leg = 0 then s else s.tgBoundary
    let s := (s.leaveEnd.exchangeBoundary).holdUpdate.frameMoved.judgeCurrent
    if s.legWork then s.graphMark 0 false else s

/-! ### Ring-cycle boundary (R301, R42) -/

/-- RING_CYCLE_BOUNDARY: a pace boundary at the same instant comes first (log entry 4). -/
def cycleBoundary (s : State) : State :=
  if !(s.cycling && s.timerDue) then s
  else
    let s := s.timerRestart.tgDue.commitRecords.ageLanes.connAges
    if s.isOpen 16 then s.ringCycleBoundary.driveFaults
    else { s with cyc := { s.cyc with sub := (s.cyc.sub + 1) % s.cyclesPerPace } }

/-! ### Marks of a pace -/

/-- COMMIT_MARK (R36, R37). -/
def commitMark (s : State) : State :=
  if !(s.paceWork && s.markOpen 1) then s
  else
    let s := draining (fun s => if s.isOpen 4 then s.alcCommitMark else s.dropAhead) s
    ((s.met 1).runPaceSlots).graphMark 1 false

/-- ALLOCATION_MARK (R219). -/
def allocationMark (s : State) : State :=
  if !(s.paceWork && s.markOpen 2) then s
  else ((draining (fun s => if s.isOpen 4 then s.allocMark.hznPace else s) s).met 2).graphMark 2 false

/-- KERB_CHECKS_END (R264): the Kerb runs whatever the role. -/
def kerbMark (s : State) : State := if s.markOpen 12 then s.kerbChecks.met 12 else s

/-- COMMAND_MARK (R259). -/
def cmdMark (s : State) : State :=
  if !(s.paceWork && s.markOpen 3) then s else (s.commandMark.met 3).graphMark 3 false

/-- The margins of a pace in 100 ns (R49): zero for a miss, and for a pace in which no allocation was committed. -/
def measureMargins (s : State) (workNs : Nat) : State :=
  let alloc := match s.alc.solveT with | some t => (deadlineUs s - 15) * 10 - t | none => 0
  s.paceMargins alloc ((950000 - workNs) / 100)

/-- END_MARK (R34, R42, R44, R47, R49). -/
def endMark (s : State) (workNs : Nat) : State :=
  if !s.markOpen 4 then s
  else
    let last := s.cyc.leg + 1 == s.legPaces
    let s := if s.legWork then s.graphMark 4 false else s
    let s := s.commitEvents
    let s := if s.paceWork then
        ((if s.cyc.marks.contains 2 then s.measureMargins workNs else s).exchangeEnd).writePages.cutMilestones last
      else s
    let s : State := { s with eng := { s.eng with
      regOut := s.eng.regPend.foldl (fun l e => aSet l e.1 e.2) s.eng.regOut, regPend := [] } }
    let s := s.swapCutover
    let s := if last && s.inRun then s.pushMargin else s
    let s := (s.met 4).completePace
    if last then s.completeLeg else s

/-! ### Marks of a leg (R38, R40) -/

/-- A leg mark of the leg's pace `idx`. -/
def legOpen (s : State) (code idx : Nat) : Bool := s.markOpen code && s.cyc.leg == idx

/-- LEG_BOUNDARY (R38, R42). -/
def legBoundary (s : State) (gclk : Option Int) (agree : List Nat) (vec : List VecSig) : State :=
  if !s.legOpen 5 0 then s
  else
    let s := (s.met 5).gnssLeg gclk agree vec s.legPaces
    let s : State := { s with cyc := { s.cyc with obsMet := false } }
    let s := if s.isOpen 6 then s.setpointApply.joyBoundary else s
    let s := s.applyStaged 1
    let s := if s.isOpen 3 then s.cellsReplace else s
    let s := if s.paceWork then s.hznIdentify else s
    let s := if s.isOpen 8 then s.releaseAll else s
    let s := s.fusionLeg
    let s := if s.isOpen 9 then s.fusionCutoff else s
    let s := (s.alcLeg.legIllegal.graphLeg).flipLeg
    let s := if s.cyc.stage = 0 then s else s.tgBoundary
    if s.legWork then s.graphMark 5 false else s

/-- GATE_MARK (R38). -/
def gateMet (s : State) : State :=
  if !(s.legWork && s.legOpen 11 0) then s else (s.gateMark.met 11).graphMark 11 false

/-- The engines that carry the route graphs of a group are open. -/
def groupOpen (s : State) (k : Nat) : Bool := (graphsOf s).all (fun g => gGroup g != k || s.engOpen (s.engineOf g))

/-- OBSERVER_MARK (R38 to R40, R157): guidance follows it. An observer whose engine is closed commits nothing at the mark, which
is late (DEDUCED, log entry 85). -/
def observerMark (s : State) (late : Bool) : State :=
  if !(s.legWork && s.legOpen 6 2) then s
  else
    let late := late || !s.groupOpen 0
    let s := if late then ((({ s with cyc := { s.cyc with obsMet := false } } : State).legOverrun 6).observerLate).met 6
      else (s.observerMet s.alc.level).legMet 6
    let s := s.graphMark 6 late
    if s.paceWork then s.guidanceRun else s

/-- ENVELOPE_MARK (R38 to R41, R223): the classic law follows it, and in a stage's first leg the planner's solve. It is late too
while an engine of the envelope's graphs is closed (DEDUCED, log entry 85). -/
def envelopeMark (s : State) (late : Bool) : State :=
  if !(s.paceWork && s.legOpen 7 3) then s
  else
    let late := late || !s.groupOpen 3
    let s := if late then (s.legOverrun 7).met 7 else ((s.publishEnv).fallbackMatrix).legMet 7
    let s := (s.graphMark 7 late).runLegSlots s.envExtremes
    if s.cyc.stage = 0 then s.hznStart else s

/-- DEMAND_MARK (R38 to R40, R182): late too while the loop engine is closed or a component of the classic τ is invalid (R183). -/
def demandMark (s : State) (late : Bool) : State :=
  if !(s.paceWork && s.legOpen 8 3) then s
  else
    let late := late || !s.isOpen 6 || !(List.range 3).all s.lawValid
    let s := if late then (s.legOverrun 8).met 8
      else
        let (w, s) := s.hznBlend
        (s.formDemand w).legMet 8
    s.graphMark 8 late

/-- CLASS_H_DEADLINE (R41, R42, R235): 2.000 ms before the next stage boundary, which is the boundary of the last pace but one
of the stage's last leg, and once. `mid`: it falls inside an iteration. -/
def classHMark (s : State) (mid : Bool) : State :=
  if !(s.paceWork && s.legOpen 9 (s.legPaces - 2) && s.cyc.stage + 1 == s.stageLegs) then s
  else ((({ s with eng := { s.eng with jobs := [] } } : State).hznDeadline mid).met 9).graphMark 9 false

/-- STAGE_BOUNDARY (R41, R112). -/
def stageBoundary (s : State) (sats : List SatView) : State :=
  if !(s.legOpen 10 0 && s.cyc.stage == 0) then s
  else
    let s := (s.met 10).gnssStage sats
    let s := if s.paceWork then s.hznStage else s
    let s := (s.applyStaged 2).tgBoundary
    if s.legWork then s.graphMark 10 false else s

end State

end Sys2Proof.Machine
end

