-- ==== Sys2Proof/Machine/Cycle.lean ====
section
/-! DEFINITION. Machine/Cycle.lean: the boundaries and marks of the station-keeping cycle as commands (R30 to R42). -/

namespace Sys2Proof.Machine

/-- RING_CYCLE_BOUNDARY (R301). -/
def execRingCycleBoundary (dt : Nat) (s : State) : Host.Outcome State Fault Refusal := act dt State.cycleBoundary s

/-- PACE_BOUNDARY (R34). -/
def execPaceBoundary (dt : Nat) (s : State) : Host.Outcome State Fault Refusal := act dt State.paceBoundary s

/-- COMMIT_MARK (R36). -/
def execCommitMark (dt : Nat) (s : State) : Host.Outcome State Fault Refusal := act dt State.commitMark s

/-- ALLOCATION_MARK (R219). -/
def execAllocationMark (dt : Nat) (s : State) : Host.Outcome State Fault Refusal := act dt State.allocationMark s

/-- KERB_CHECKS_END (R264). -/
def execKerbChecksEnd (dt : Nat) (s : State) : Host.Outcome State Fault Refusal := act dt State.kerbMark s

/-- COMMAND_MARK (R259). -/
def execCommandMark (dt : Nat) (s : State) : Host.Outcome State Fault Refusal := act dt State.cmdMark s

/-- END_MARK (R34): `workNs` is the instant after the pace boundary at which the last pace work completed. -/
def execEndMark (dt workNs : Nat) (s : State) : Host.Outcome State Fault Refusal := act dt (fun s => s.endMark workNs) s

/-- LEG_BOUNDARY (R38): the measured departure of GCLK, handed-over channels whose phases agree, the leg's discriminators of the
tracked signals, and the leg's RLS outcome. -/
def execLegBoundary (dt : Nat) (gclk : Option Int) (agree : List Nat) (vec : List VecSig) (s : State) :
    Host.Outcome State Fault Refusal := act dt (fun s => s.legBoundary gclk agree vec) s

/-- GATE_MARK (R38). -/
def execGateMark (dt : Nat) (s : State) : Host.Outcome State Fault Refusal := act dt State.gateMet s

/-- OBSERVER_MARK (R157): `late` says that the observer's graphs do not reach their mark. -/
def execObserverMark (dt : Nat) (late : Bool) (s : State) : Host.Outcome State Fault Refusal :=
  act dt (fun s => s.observerMark late) s

/-- ENVELOPE_MARK (R223). -/
def execEnvelopeMark (dt : Nat) (late : Bool) (s : State) : Host.Outcome State Fault Refusal :=
  act dt (fun s => s.envelopeMark late) s

/-- DEMAND_MARK (R182). -/
def execDemandMark (dt : Nat) (late : Bool) (s : State) : Host.Outcome State Fault Refusal := act dt (fun s => s.demandMark late) s

/-- CLASS_H_DEADLINE (R41, R235). -/
def execClassHDeadline (dt : Nat) (mid : Bool) (s : State) : Host.Outcome State Fault Refusal :=
  act dt (fun s => s.classHMark mid) s

/-- STAGE_BOUNDARY (R41). -/
def execStageBoundary (dt : Nat) (sats : List SatView) (s : State) : Host.Outcome State Fault Refusal :=
  act dt (fun s => s.stageBoundary sats) s

end Sys2Proof.Machine
end

