-- ==== Sys2Proof/Machine/Feedback.lean ====
section
/-! DEFINITION. Machine/Feedback.lean: the commands of the feedback interface (R242 to R254). -/

namespace Sys2Proof.Machine

/-- FB_COUNT_EDGE (R242 to R248): from a sample of the main or the check path on, the raw inputs of a channel show the levels `a`,
`b`, `c` for `na`, `nb` and `nc` samples. The sample is the date of the filtered change that follows. -/
def execFbCountEdge (dt ch : Nat) (check a b c : Bool) (na nb nc : Nat) (s : State) : Host.Outcome State Fault Refusal :=
  actAlways dt (fun s =>
    let lines := s.fbFilter ch check [(a, na), (b, nb), (c, nc)]
    if 6 ≤ ch then s
    else if !(s.alive && s.isOpen 12) then s.fbFollow ch check lines
    else if check then s.fbCheckEdge ch lines else s.fbEdge ch lines) s

/-- PDIV_PULSE_END (R253): 1 µs after the last firing. -/
def execPdivPulseEnd (dt d : Nat) (s : State) : Host.Outcome State Fault Refusal :=
  actUnit 12 dt (fun s =>
    match aGet s.fbk.pulseAt d with
    | none => s
    | some t => if t + 1000 ≤ s.now then
        ({ s with fbk := { s.fbk with pulseAt := aDel s.fbk.pulseAt d } } : State).pdivPin d false else s) s

/-- COMPARE_WRITE (R251). -/
def execCompareWrite (dt ch : Nat) (w : Word) (s : State) : Host.Outcome State Fault Refusal :=
  act dt (fun s => s.hostCmd Rw.FB_CMP (Reg.FB_CMP (ch % 6)) true w.toNat (fun s => s.compareWrite (ch % 6) w.toNat)) s

/-- COMPARE_CTL_WRITE (R251). -/
def execCompareCtlWrite (dt ch : Nat) (w : Word) (s : State) : Host.Outcome State Fault Refusal :=
  act dt (fun s => s.hostCmd Rw.FB_CMP_CTL (Reg.FB_CMP_CTL (ch % 6)) true w.toNat
    (fun s => s.compareCtl (ch % 6) w.toNat)) s

end Sys2Proof.Machine
end

