-- ==== Sys2Proof/Machine/Fusion.lean ====
section
/-! DEFINITION. Machine/Fusion.lean: the host's decisions for the fusion unit (R166), as writes of FUS_CMD. -/

namespace Sys2Proof.Machine

/-- A write of FUS_CMD with an action and a track. -/
def fusDecision (dt what t : Nat) (s : State) : Host.Outcome State Fault Refusal :=
  act dt (fun s => s.hostCmd Rw.FUS_CMD Reg.FUS_CMD true (what * 2 ^ 28 + t % 32) (fun s => s.fusCmd what (t % 32))) s

/-- SELECT (R166). -/
def execSelect (dt track : Nat) (s : State) : Host.Outcome State Fault Refusal := fusDecision dt 1 track s
/-- REJECT (R166). -/
def execReject (dt track : Nat) (s : State) : Host.Outcome State Fault Refusal := fusDecision dt 2 track s
/-- RELEASE (R166). -/
def execRelease (dt track : Nat) (s : State) : Host.Outcome State Fault Refusal := fusDecision dt 3 track s
/-- D4_ENTER (R166): TRACK is ignored. -/
def execD4Enter (dt : Nat) (s : State) : Host.Outcome State Fault Refusal := fusDecision dt 4 0 s
/-- D4_EXIT (R166): TRACK is ignored. -/
def execD4Exit (dt : Nat) (s : State) : Host.Outcome State Fault Refusal := fusDecision dt 5 0 s

end Sys2Proof.Machine
end

