-- ==== Sys2Proof/Machine/Health.lean ====
section
/-! DEFINITION. Machine/Health.lean: the commands of the health manager (R395, R437 to R442). -/

namespace Sys2Proof.Machine

/-- OPERATING_SECOND (R395). -/
def execOperatingSecond (dt : Nat) (s : State) : Host.Outcome State Fault Refusal := act dt State.operatingSecond s

/-- WEAR_MONITOR_UPDATE (R438): monitors 0 to 65, and 66 + k for correlator channel k. -/
def execWearMonitorUpdate (dt mon avg : Nat) (s : State) : Host.Outcome State Fault Refusal :=
  act dt (fun s => if mon < 66 + 192 then s.monUpdate mon avg else s) s

/-- ECC_CORRECTED (R439). -/
def execEccCorrected (dt bank row : Nat) (s : State) : Host.Outcome State Fault Refusal :=
  act dt (fun s => if bank < 32 then s.eccCorrected bank row else s) s

/-- LOG_SECTOR_COPY_DONE (R439). -/
def execLogSectorCopyDone (dt : Nat) (s : State) : Host.Outcome State Fault Refusal := act dt State.sectorDone s

/-- SWAP (R440, R441). -/
def execSwap (dt engine : Nat) (priv : Bool) (s : State) : Host.Outcome State Fault Refusal :=
  let w := 2 ^ 31 + engine % 16
  act dt (fun s => s.hostCmd Rw.HLT_VERGE_CMD Reg.HLT_VERGE_CMD priv w (fun s => s.vergeCmd w)) s

/-- SWAP_ABORT (R441). -/
def execSwapAbort (dt : Nat) (priv : Bool) (s : State) : Host.Outcome State Fault Refusal :=
  act dt (fun s => s.hostCmd Rw.HLT_VERGE_CMD Reg.HLT_VERGE_CMD priv (2 ^ 30) (fun s => s.vergeCmd (2 ^ 30))) s

/-- SWAP_COPY_DONE (R440). -/
def execSwapCopyDone (dt : Nat) (s : State) : Host.Outcome State Fault Refusal :=
  act dt (fun s => match s.hlt.swap with
    | some x => { s with hlt := { s.hlt with swap := some { x with copied := true } } }
    | none => s) s

/-- SELF_CHECK_WRONG_RESULT (R442). -/
def execSelfCheckWrongResult (dt : Nat) (r : Resource) (s : State) : Host.Outcome State Fault Refusal :=
  act dt (fun s => if (match r with | .cell c => decide (c < 72) | .channel c => decide (c < 192) | .engine p => decide (p < 18))
    then s.selfCheckWrong r else s) s

end Sys2Proof.Machine
end

