-- ==== Sys2Proof/Machine/Host.lean ====
section
/-! DEFINITION. Machine/Host.lean: the commands of the host port (R20, R45, R46, R408, R409, R417). -/

namespace Sys2Proof.Machine

/-- SNAP_EPOCH_READ (R45, R422). -/
def execSnapEpochRead (dt : Nat) (s : State) : Host.Outcome State Fault Refusal := act dt (fun s => s.hostStart.snapRead) s

/-- SNAP_RELEASE (R46): any value. -/
def execSnapRelease (dt : Nat) (w : Word) (s : State) : Host.Outcome State Fault Refusal :=
  act dt (fun s => s.hostStart.writeWord Reg.GLB_SNAP_RELEASE w.toNat) s

/-- SNAP_EXPIRED (R46, R422): outside RUN, after 100 ms; in RUN the 100th pace boundary expires a freeze. -/
def execSnapExpired (dt : Nat) (s : State) : Host.Outcome State Fault Refusal := act dt State.snapMs s

/-- WRITE_FRAME (R408, R412). -/
def execWriteFrame (dt : Nat) (f : SpiIn) (s : State) : Host.Outcome State Fault Refusal :=
  act dt (State.draining (fun s => s.writeFrame f)) s

/-- READ_FRAME (R409, R412). -/
def execReadFrame (dt : Nat) (f : SpiIn) (s : State) : Host.Outcome State Fault Refusal := act dt (fun s => s.readFrame f) s

/-- ROS_LOW_READ (R20): a read of one word. -/
def execRosLowRead (dt addr : Nat) (priv : Bool) (s : State) : Host.Outcome State Fault Refusal :=
  act dt (fun s => s.hostStart.hostOne addr priv (fun s => s.reply 0) (fun s => s.readWord addr)) s

/-- REGISTER_WRITE (R417, R418): a write of one word. -/
def execRegisterWrite (dt addr : Nat) (w : Word) (priv : Bool) (s : State) : Host.Outcome State Fault Refusal :=
  act dt (fun s => s.hostStart.hostOne addr priv id (State.draining (fun s => s.writeWord addr w.toNat))) s

end Sys2Proof.Machine
end

