-- ==== Sys2Proof/Machine/Kerb.lean ====
section
/-! DEFINITION. Machine/Kerb.lean: the commands of the Kerb (R264 to R289). -/

namespace Sys2Proof.Machine

/-- CONNECTION_TIMEOUT (R288). -/
def execConnectionTimeout (dt c : Nat) (s : State) : Host.Outcome State Fault Refusal :=
  act dt (fun s => if s.kerbOn (c % 2) then s.connTimeout c else s) s

/-- ERROR_LEVEL_DECAY (R289): every 900 s. -/
def execErrorLevelDecay (dt c : Nat) (s : State) : Host.Outcome State Fault Refusal :=
  act dt (fun s => if s.kerbOn (c % 2) then s.connDecay c else s) s

/-- KRB_CONN_CLR (R24, R289). -/
def execKrbConnClr (dt : Nat) (w : Word) (s : State) : Host.Outcome State Fault Refusal :=
  act dt (fun s => s.hostCmd Rw.KRB_CONN_CLR Reg.KRB_CONN_CLR true w.toNat
    (fun s => if w.toNat.testBit 8 then (s.connClear (w.toNat % 256)).kerbUpdate else s)) s

/-- KRB_ACK_LANE (R268): KRB_ACK with LANE_ACK. -/
def execKrbAckLane (dt n : Nat) (priv : Bool) (s : State) : Host.Outcome State Fault Refusal :=
  act dt (fun s => s.hostCmd Rw.KRB_ACK Reg.KRB_ACK priv 0 (fun s => s.kerbAckWrite (2 ^ 15 + n % 64))) s

/-- KRB_ACK_GROUP (R268). -/
def execKrbAckGroup (dt mask : Nat) (priv : Bool) (s : State) : Host.Outcome State Fault Refusal :=
  act dt (fun s => s.hostCmd Rw.KRB_ACK Reg.KRB_ACK priv 0 (fun s => s.kerbAckWrite (mask % 16 * 2 ^ 16))) s

/-- KRB_ACK_CH_CLEAR (R282). -/
def execKrbAckChClear (dt mask : Nat) (priv : Bool) (s : State) : Host.Outcome State Fault Refusal :=
  act dt (fun s => s.hostCmd Rw.KRB_ACK Reg.KRB_ACK priv 0 (fun s => s.kerbAckWrite (mask % 16 * 2 ^ 20))) s

/-- READBACK_SAMPLE (R279). -/
def execReadbackSample (dt : Nat) (levels : List Readback) (s : State) : Host.Outcome State Fault Refusal :=
  act dt (fun s => if s.kerbOn 0 && s.kerbOn 1 then s.each levels State.readback else s) s

/-- TEST_PULSE_START (R280). -/
def execTestPulseStart (dt tech ch : Nat) (s : State) : Host.Outcome State Fault Refusal :=
  act dt (fun s => s.testStart tech ch) s

/-- TEST_PULSE_END (R280, R281). -/
def execTestPulseEnd (dt tech ch : Nat) (s : State) : Host.Outcome State Fault Refusal :=
  act dt (fun s => s.testEnd tech ch) s

/-- KERB_FATAL (R265): causes 1, 3 and 6 are the processor's to detect, 2 the logic's. -/
def execKerbFatal (dt : Nat) (cause : KerbCause) (s : State) : Host.Outcome State Fault Refusal :=
  act dt (fun s => match cause with
    | .lockstep => if s.kerbOn 0 then s.kerbFatal 0 1 else s
    | .oscP => if s.kerbOn 1 then s.kerbFatal 1 2 else s
    | .oscL => if s.kerbOn 0 then s.kerbFatal 0 3 else s
    | .mem => if s.kerbOn 0 then s.kerbFatal 0 6 else s) s

/-- PACE_LOST (R265): in RUN, no pace strobe for 2 ms of an oscillator, which may be 10 % fast. -/
def execPaceLost (dt : Nat) (s : State) : Host.Outcome State Fault Refusal :=
  act dt (fun s =>
    if s.inRun && decide (s.krb.strobe + 1800000 ≤ s.now) then
      let s := if s.kerbOn 0 then s.kerbFatal 0 4 else s
      if s.kerbOn 1 then s.kerbFatal 1 4 else s
    else s) s

/-- EXCHANGE_TIMEOUT (R265): the other technology's mailbox has not advanced for 2 ms. -/
def execExchangeTimeout (dt tech : Nat) (s : State) : Host.Outcome State Fault Refusal :=
  act dt (fun s => if s.kerbOn (tech % 2) && s.mailStill (tech % 2) then s.kerbFatal (tech % 2) 5 else s) s

end Sys2Proof.Machine
end

