-- ==== Sys2Proof/Machine/Lanes.lean ====
section
/-! DEFINITION. Machine/Lanes.lean: the host's lane commands (R257, R261). -/

namespace Sys2Proof.Machine

/-- LANE_ENABLE (R261): a LANE_CTL write that sets or clears EN. -/
def execLaneEnable (dt n : Nat) (en : Bool) (s : State) : Host.Outcome State Fault Refusal :=
  act dt (fun s => s.hostCmd Rw.LANE_CTL (Reg.LANE_CTL (n % 64)) true (if en then 1 else 0)
    (fun s => s.laneCtl (n % 64) (if en then 1 else 0))) s

/-- LANE_CLEAR (R261): a LANE_CTL write with CLEAR set and EN as it reads. -/
def execLaneClear (dt n : Nat) (s : State) : Host.Outcome State Fault Refusal :=
  act dt (fun s => s.hostCmd Rw.LANE_CTL (Reg.LANE_CTL (n % 64)) true 2
    (fun s => s.laneCtl (n % 64) (2 + s.shown (Reg.LANE_CTL (n % 64)) % 2))) s

/-- AZ_SET (R257): a write of LANE_AZ_SET. -/
def execAzSet (dt n : Nat) (w : Word) (s : State) : Host.Outcome State Fault Refusal :=
  act dt (fun s => s.hostCmd Rw.LANE_AZ_SET (Reg.LANE_AZ_SET (n % 64)) true w.toNat
    (fun s => s.azSet (n % 64) w.toNat)) s

end Sys2Proof.Machine
end

