-- ==== Sys2Proof/Machine/Loop.lean ====
section
/-! DEFINITION. Machine/Loop.lean: the commands of the loop engine and the control law (R172, R181, R191, R193 to R197). -/

namespace Sys2Proof.Machine

/-- SP_GO (R172): with GO = 1 the held setpoint takes effect at the next leg boundary. -/
def execSpGo (dt : Nat) (w : Word) (s : State) : Host.Outcome State Fault Refusal :=
  act dt (fun s => s.hostCmd Rw.LOOP_SP_GO Reg.LOOP_SP_GO true w.toNat (fun s => s.spGo w.toNat)) s

/-- JOY_STALE (R181). -/
def execJoyStale (dt : Nat) (s : State) : Host.Outcome State Fault Refusal := actUnit 6 dt State.joyStale s

/-- SLOT_CLR (R191): a LOOP_SLOT_CTL write with CLR and AW as it reads. -/
def execSlotClr (dt k : Nat) (s : State) : Host.Outcome State Fault Refusal :=
  act dt (fun s => s.hostCmd Rw.LOOP_SLOT_CTL (Reg.LOOP_SLOT_CTL (k % 96)) true (2 ^ 31)
    (fun s => s.slotCtl (k % 96) (2 ^ 31 + s.shown (Reg.LOOP_SLOT_CTL (k % 96)) % 64))) s

/-- SLOT_I_LOAD (R191). -/
def execSlotILoad (dt k : Nat) (s : State) : Host.Outcome State Fault Refusal :=
  act dt (fun s => s.hostCmd Rw.LOOP_SLOT_CTL (Reg.LOOP_SLOT_CTL (k % 96)) true (2 ^ 30)
    (fun s => s.slotCtl (k % 96) (2 ^ 30 + s.shown (Reg.LOOP_SLOT_CTL (k % 96)) % 64))) s

/-- TEST_GO (R193): a write of LOOP_TEST_CTL with GO. -/
def execTestGo (dt : Nat) (w : Word) (priv : Bool) (s : State) : Host.Outcome State Fault Refusal :=
  act dt (fun s => s.hostCmd Rw.LOOP_TEST_CTL Reg.LOOP_TEST_CTL priv w.toNat
    (fun s => s.testCtl (w.toNat % 2 ^ 30 + 2 ^ 31))) s

/-- TEST_STOP (R195). -/
def execTestStop (dt : Nat) (priv : Bool) (s : State) : Host.Outcome State Fault Refusal :=
  act dt (fun s => s.hostCmd Rw.LOOP_TEST_CTL Reg.LOOP_TEST_CTL priv (2 ^ 30)
    (fun s => s.testCtl (2 ^ 30 + s.rd Reg.LOOP_TEST_CTL % 2 ^ 30))) s

/-- CAPTURE_ARM (R197): a write of LOOP_CAP_CTL with ARM. -/
def execCaptureArm (dt b : Nat) (w : Word) (s : State) : Host.Outcome State Fault Refusal :=
  act dt (fun s => s.hostCmd Rw.LOOP_CAP_CTL (Reg.LOOP_CAP_CTL (b % 2)) true w.toNat
    (fun s => s.capCtl (b % 2) (w.toNat % 2 ^ 30 + 2 ^ 31))) s

/-- CAPTURE_ABORT (R197). -/
def execCaptureAbort (dt b : Nat) (s : State) : Host.Outcome State Fault Refusal :=
  act dt (fun s => s.hostCmd Rw.LOOP_CAP_CTL (Reg.LOOP_CAP_CTL (b % 2)) true (2 ^ 30)
    (fun s => s.capCtl (b % 2) (2 ^ 30 + s.rd (Reg.LOOP_CAP_CTL (b % 2)) % 2 ^ 30))) s

/-- CAPTURE_RDDATA_READ (R197). -/
def execCaptureRddataRead (dt b : Nat) (s : State) : Host.Outcome State Fault Refusal :=
  act dt (fun s =>
    if s.hostClosed (Reg.LOOP_CAP_RDDATA 0) then (s.closedAccess (Reg.LOOP_CAP_RDDATA (b % 2))).reply 0
    else (s.capRead (b % 2)).2.reply (s.capRead (b % 2)).1) s

end Sys2Proof.Machine
end

