-- ==== Sys2Proof/Machine/Operations.lean ====
section
/-! DEFINITION. Machine/Operations.lean: operations of the handshake fabric as commands (R51 to R64). -/

namespace Sys2Proof.Machine

/-- OPERATION_ISSUE (R51 to R59): a source port that is open issues an operation. -/
def execOperationIssue (dt : Nat) (op : FabOp) (s : State) : Host.Outcome State Fault Refusal :=
  act dt (fun s => if s.srcOpen op.src then State.draining (fun s => s.fabStart.fabIssue op) s else s) s

/-- REPLY_RECEIVED (R54, R55, R64). -/
def execReplyReceived (dt tag sInc tInc : Nat) (status : RepStatus) (s : State) : Host.Outcome State Fault Refusal :=
  act dt (State.draining (fun s => s.fabReply tag sInc tInc status)) s

end Sys2Proof.Machine
end

