-- ==== Sys2Proof/Machine/Planner.lean ====
section
/-! DEFINITION. Machine/Planner.lean: the commands of the horizon planner (R233 to R241). -/

namespace Sys2Proof.Machine

/-- HZN_ITERATION_DONE (R233 to R236). -/
def execHznIterationDone (dt : Nat) (s : State) : Host.Outcome State Fault Refusal :=
  act dt State.hznIterate s

/-- HZN_RESTORE, a write of HZN_ID_CMD (R241). -/
def execHznRestore (dt : Nat) (s : State) : Host.Outcome State Fault Refusal :=
  act dt (fun s => s.hostCmd Rw.HZN_ID_CMD Reg.HZN_ID_CMD false 1 State.hznRestore) s

/-- HZN_RESET_EST, a write of HZN_ID_CMD (R241). -/
def execHznResetEst (dt : Nat) (s : State) : Host.Outcome State Fault Refusal :=
  act dt (fun s => s.hostCmd Rw.HZN_ID_CMD Reg.HZN_ID_CMD false 2 State.hznResetEst) s

end Sys2Proof.Machine
end

