-- ==== Sys2Proof/Machine/Power.lean ====
section
/-! DEFINITION. Machine/Power.lean: the commands of power states, parking, resets and fatal faults (R63, R318, R427, R430 to
R434, R458, R459), and the seal reading (R274). -/

namespace Sys2Proof.Machine

/-- UNIT_REOPEN (R63): at the next pace boundary in RUN, otherwise at the next whole millisecond. -/
def execUnitReopen (dt : Nat) (u : Uid) (s : State) : Host.Outcome State Fault Refusal := act dt (State.draining (fun s => s.unitReopen u)) s

/-- VCORE_POWER_ON (R432, R459), by VCORE rising or by a dip. -/
def execVcorePowerOn (dt : Nat) (_dip : Bool) (s : State) : Host.Outcome State Fault Refusal := actAlways dt State.powerOn s

/-- RST_N_ASSERT (R318, R432). -/
def execRstNAssert (dt : Nat) (s : State) : Host.Outcome State Fault Refusal := actAlways dt State.rstAssert s

/-- RST_N_RELEASE (R458). -/
def execRstNRelease (dt : Nat) (roleSel : Bool) (s : State) : Host.Outcome State Fault Refusal :=
  actAlways dt (fun s => s.rstRelease roleSel) s

/-- A privileged write of PWR_CMD with GO and a target. -/
def pwrWrite (dt target : Nat) (priv : Bool) (s : State) : Host.Outcome State Fault Refusal :=
  act dt (fun s => s.hostCmd Rw.PWR_CMD Reg.PWR_CMD priv (2 ^ 31 + target) (State.draining (fun s => s.pwrCmd (2 ^ 31 + target)))) s

/-- PWR_CMD_RUN (R427). -/
def execPwrCmdRun (dt : Nat) (priv : Bool) (s : State) : Host.Outcome State Fault Refusal := pwrWrite dt 3 priv s

/-- RUN_ENTRY (R427). -/
def execRunEntry (dt : Nat) (s : State) : Host.Outcome State Fault Refusal := act dt State.runEntry s

/-- PWR_CMD_READY (R427, R428). -/
def execPwrCmdReady (dt : Nat) (priv : Bool) (s : State) : Host.Outcome State Fault Refusal := pwrWrite dt 2 priv s

/-- PWR_CMD_HARBOUR (R427). -/
def execPwrCmdHarbour (dt : Nat) (priv : Bool) (s : State) : Host.Outcome State Fault Refusal := pwrWrite dt 4 priv s

/-- PWR_CMD_QUIET (R427). -/
def execPwrCmdQuiet (dt : Nat) (priv : Bool) (s : State) : Host.Outcome State Fault Refusal := pwrWrite dt 5 priv s

/-- A privileged write of PWR_PARK that changes one thing's bit; a thing with no bit there is asked for outside the table of
R431. -/
def parkCmd (dt : Nat) (u : Uid) (on priv : Bool) (s : State) : Host.Outcome State Fault Refusal :=
  act dt (fun s =>
    let w := match parkBit u with | some b => State.putBits (s.rd Reg.PWR_PARK) b b (if on then 1 else 0) | none => 2 ^ 15
    s.hostCmd Rw.PWR_PARK Reg.PWR_PARK priv w (State.draining (fun s => if (parkBit u).isSome then s.parkWrite w else s.badWrite Reg.PWR_PARK))) s

/-- UNIT_PARK (R431). -/
def execUnitPark (dt : Nat) (u : Uid) (priv : Bool) (s : State) : Host.Outcome State Fault Refusal := parkCmd dt u true priv s

/-- UNIT_UNPARK (R431). -/
def execUnitUnpark (dt : Nat) (u : Uid) (priv : Bool) (s : State) : Host.Outcome State Fault Refusal := parkCmd dt u false priv s

/-- UNIT_RESET (R433). -/
def execUnitReset (dt unit engine : Nat) (priv : Bool) (s : State) : Host.Outcome State Fault Refusal :=
  let w := 2 ^ 31 + engine % 16 * 256 + unit % 32
  act dt (fun s => s.hostCmd Rw.PWR_UNIT_RESET Reg.PWR_UNIT_RESET priv w (State.draining (fun s => s.unitResetCmd w))) s

/-- HEALTH_FATAL (R430). -/
def execHealthFatal (dt : Nat) (cause : HealthCause) (s : State) : Host.Outcome State Fault Refusal :=
  act dt (fun s => s.healthFatal cause) s

/-- SEAL_READING (R274 to R277): a reading at which the permit reads clear aborts a running test (R195); the first one after
QUIET may complete the return to READY (R429). -/
def execSealReading (dt : Nat) (a b : Word) (s : State) : Host.Outcome State Fault Refusal :=
  act dt (fun s =>
    if s.kerbOn 1 then
      let s := s.sealReading a.toNat b.toNat
      (if s.is Fl.KRB_STATUS_TEST_PERMIT then s else s.testAbort 2).wakeDone
    else s) s

end Sys2Proof.Machine
end

