-- ==== Sys2Proof/Machine/Redundancy.lean ====
section
/-! DEFINITION. Machine/Redundancy.lean: the meanings of the redundancy commands (R331 to R352). -/

namespace Sys2Proof.Machine

/-- HEARTBEAT_SEND (R333). -/
def execHeartbeatSend (dt : Nat) (s : State) : Host.Outcome State Fault Refusal := actUnit 17 dt State.heartbeatSend s

/-- HEARTBEAT_RECEIVED (R333). -/
def execHeartbeatReceived (dt : Nat) (f : List Byte) (fcsOk : Bool) (s : State) : Host.Outcome State Fault Refusal :=
  actUnit 17 dt (fun s => s.heartbeat (bytesNat f) fcsOk) s

/-- HB_IN_EDGE (R334); the line has no level of its own in the rule, only edges. -/
def execHbInEdge (dt : Nat) (_high : Bool) (s : State) : Host.Outcome State Fault Refusal := actUnit 17 dt State.hbEdge s

/-- PATH_SILENCE (R335, R340). -/
def execPathSilence (dt : Nat) (causeway : Bool) (s : State) : Host.Outcome State Fault Refusal :=
  actUnit 17 dt (fun s => s.pathSilence causeway) s

/-- PATH_RESTORED (R335). -/
def execPathRestored (dt : Nat) (causeway : Bool) (s : State) : Host.Outcome State Fault Refusal :=
  actUnit 17 dt (fun s => s.pathRestored causeway) s

/-- MILESTONE_FRAME_RECEIVED (R339, R350). -/
def execMilestoneFrameReceived (dt : Nat) (f : List Byte) (fcsOk : Bool) (s : State) : Host.Outcome State Fault Refusal :=
  actUnit 17 dt (fun s => s.milestoneFrame (bytesNat f) fcsOk) s

/-- MILESTONE_APPLY_MARK (R339, R347, R48). -/
def execMilestoneApplyMark (dt : Nat) (s : State) : Host.Outcome State Fault Refusal := actUnit 17 dt State.applyMark s

/-- RESYNC_FRAME_RECEIVED (R347). -/
def execResyncFrameReceived (dt : Nat) (f : List Byte) (fcsOk : Bool) (s : State) : Host.Outcome State Fault Refusal :=
  actUnit 17 dt (fun s => s.resyncFrame (bytesNat f) fcsOk) s

/-- EXCHANGE (R349, R350). -/
def execExchange (dt : Nat) (priv : Bool) (s : State) : Host.Outcome State Fault Refusal :=
  act dt (fun s => s.hostCmd Rw.RED_CMD Reg.RED_CMD priv 1 State.exchange) s

/-- ASSUME (R351). -/
def execAssume (dt : Nat) (priv : Bool) (s : State) : Host.Outcome State Fault Refusal :=
  act dt (fun s => s.hostCmd Rw.RED_CMD Reg.RED_CMD priv 2 State.assume) s

/-- RING_TAKEOVER (R352). -/
def execRingTakeover (dt : Nat) (s : State) : Host.Outcome State Fault Refusal := actUnit 17 dt State.ringTakeover s

/-- ROLE_WAIT_EXPIRY (R331). -/
def execRoleWaitExpiry (dt : Nat) (s : State) : Host.Outcome State Fault Refusal := actUnit 17 dt State.roleWaitExpiry s

end Sys2Proof.Machine
end

