-- ==== Sys2Proof/Machine/Sensors.lean ====
section
/-! DEFINITION. Machine/Sensors.lean: the commands of the sensor ports and the filter chain (R79 to R104). -/

namespace Sys2Proof.Machine

/-- IEC_SENTENCE_RECEIVED (R81). -/
def execIecSentenceReceived (dt p : Nat) (rx : SerialIn) (s : State) : Host.Outcome State Fault Refusal :=
  actUnit 8 dt (fun s => if p < 5 then s.sentence p rx else s) s

/-- BINARY_FRAME_RECEIVED (R86). -/
def execBinaryFrameReceived (dt p : Nat) (rx : SerialIn) (s : State) : Host.Outcome State Fault Refusal :=
  actUnit 8 dt (fun s => if p < 5 then s.binaryFrame p rx else s) s

/-- SNS_PORT_TXDATA (R84). -/
def execSnsPortTxdata (dt p : Nat) (w : Word) (s : State) : Host.Outcome State Fault Refusal :=
  act dt (fun s => if p < 5 then
    s.hostCmd Rw.SNS_PORT_TXDATA (Reg.SNS_PORT_TXDATA p) false w.toNat (fun s => s.txWrite p w.toNat) else s) s

/-- SNS_PORT_STATUS_READ (R84). -/
def execSnsPortStatusRead (dt p : Nat) (s : State) : Host.Outcome State Fault Refusal :=
  act dt (fun s => if p < 5 then
    (if s.hostClosed (Reg.SNS_PORT_STATUS p) then (s.closedAccess (Reg.SNS_PORT_STATUS p)).reply 0 else s.portStatusRead p)
    else s) s

/-- SAMPLE_PORT_FRAME_START (R87). -/
def execSamplePortFrameStart (dt : Nat) (s : State) : Host.Outcome State Fault Refusal := actUnit 8 dt State.frameStart s

/-- SAMPLE_SLOT_COMPLETE (R88). -/
def execSampleSlotComplete (dt lane slot : Nat) (bits : Word) (s : State) : Host.Outcome State Fault Refusal :=
  actUnit 8 dt (fun s => s.slotComplete lane slot bits.toNat) s

/-- TRIGGER_EDGE (R90). -/
def execTriggerEdge (dt t : Nat) (s : State) : Host.Outcome State Fault Refusal :=
  actUnit 8 dt (fun s => if t < 2 then s.triggerEdge t else s) s

/-- STREAM_SAMPLE (R93): a sample of a stream with its stamp, from any source. -/
def execStreamSample (dt stream : Nat) (v : List Int) (stampNs : Nat) (s : State) : Host.Outcome State Fault Refusal :=
  act dt (fun s => if v.isEmpty then s else s.strArrive stream v stampNs s.now) s

/-- STREAM_STALE (R94). -/
def execStreamStale (dt stream : Nat) (s : State) : Host.Outcome State Fault Refusal := act dt (fun s => s.strStale stream) s

/-- FIR_COEF_WRITE (R103). -/
def execFirCoefWrite (dt i : Nat) (w : Word) (s : State) : Host.Outcome State Fault Refusal :=
  act dt (fun s => if i < 768 then
    s.hostCmd Rw.FIR_COEF (Reg.FIR_COEF i) false w.toNat (fun s => s.coefWrite i w.toNat) else s) s

/-- FIR_GD_INACT_WRITE (R103). -/
def execFirGdInactWrite (dt c : Nat) (w : Word) (s : State) : Host.Outcome State Fault Refusal :=
  act dt (fun s => if c < 48 then
    s.hostCmd Rw.FIR_CH_GD_INACT (Reg.FIR_CH_GD_INACT c) false w.toNat (fun s => s.gdWrite c w.toNat) else s) s

/-- FADE_REQUEST (R104). -/
def execFadeRequest (dt c : Nat) (w : Word) (s : State) : Host.Outcome State Fault Refusal :=
  act dt (fun s => if c < 48 then
    s.hostCmd Rw.FIR_CH_FADE (Reg.FIR_CH_FADE c) false w.toNat (fun s => s.fadeRequest c w.toNat) else s) s

end Sys2Proof.Machine
end

