-- ==== Sys2Proof/Machine/Tollgate.lean ====
section
/-! DEFINITION. Machine/Tollgate.lean: the commands of the Tollgate (R375 to R379). -/

namespace Sys2Proof.Machine

/-- A privileged write of TG_CMD. -/
def tgWrite (dt w : Nat) (priv : Bool) (f : State → State) (s : State) : Host.Outcome State Fault Refusal :=
  act dt (fun s => s.tgDue.hostCmd Rw.TG_CMD Reg.TG_CMD priv w f) s

/-- TG_DATA (R375, R379). -/
def execTgData (dt : Nat) (w : Word) (priv : Bool) (s : State) : Host.Outcome State Fault Refusal :=
  act dt (fun s => s.tgDue.hostCmd Rw.TG_DATA Reg.TG_DATA priv w.toNat (fun s => s.tgData w)) s

/-- CLEAR (R375). -/
def execClear (dt : Nat) (priv : Bool) (s : State) : Host.Outcome State Fault Refusal := tgWrite dt 1 priv State.tgClear s

/-- CHECK (R376, R379). -/
def execCheck (dt : Nat) (priv : Bool) (s : State) : Host.Outcome State Fault Refusal := tgWrite dt 2 priv State.tgCheck s

/-- TG_CHECK_DONE (R376). -/
def execTgCheckDone (dt : Nat) (s : State) : Host.Outcome State Fault Refusal := actUnit 19 dt State.tgChecked s

/-- COMMIT (R377). -/
def execCommit (dt kind : Nat) (priv : Bool) (s : State) : Host.Outcome State Fault Refusal :=
  tgWrite dt (kind % 4 * 256 + 4) priv (fun s => s.tgCommit (kind % 4)) s

/-- ABORT (R379). -/
def execAbort (dt : Nat) (priv : Bool) (s : State) : Host.Outcome State Fault Refusal := tgWrite dt 8 priv State.tgAbort s

end Sys2Proof.Machine
end

