-- ==== Sys2Proof/Machine/Dispatch.lean ====
section
/-! DEFINITION. Machine/Dispatch.lean: one arm per command: a direct call of its meaning, or its rejection by name. -/

namespace Sys2Proof.Machine

/-- The effect of a command on everything but the queue. -/
def exec (i : Instr) (s : State) : Host.Outcome State Fault Refusal :=
  match i with
  | .ringCycleBoundary dt => Sys2Proof.Machine.execRingCycleBoundary dt s
  | .paceBoundary dt => Sys2Proof.Machine.execPaceBoundary dt s
  | .commitMark dt => Sys2Proof.Machine.execCommitMark dt s
  | .allocationSolveDone dt => Sys2Proof.Machine.execAllocationSolveDone dt s
  | .allocationMark dt => Sys2Proof.Machine.execAllocationMark dt s
  | .alcLevelHoldExpiry dt => Sys2Proof.Machine.execAlcLevelHoldExpiry dt s
  | .kerbChecksEnd dt => Sys2Proof.Machine.execKerbChecksEnd dt s
  | .commandMark dt => Sys2Proof.Machine.execCommandMark dt s
  | .endMark dt workNs => Sys2Proof.Machine.execEndMark dt workNs s
  | .legBoundary dt gclk agree vec => Sys2Proof.Machine.execLegBoundary dt gclk agree vec s
  | .gateMark dt => Sys2Proof.Machine.execGateMark dt s
  | .observerMark dt late => Sys2Proof.Machine.execObserverMark dt late s
  | .envelopeMark dt late => Sys2Proof.Machine.execEnvelopeMark dt late s
  | .demandMark dt late => Sys2Proof.Machine.execDemandMark dt late s
  | .hznIterationDone dt => Sys2Proof.Machine.execHznIterationDone dt s
  | .classHDeadline dt mid => Sys2Proof.Machine.execClassHDeadline dt mid s
  | .stageBoundary dt sats => Sys2Proof.Machine.execStageBoundary dt sats s
  | .snapEpochRead dt => Sys2Proof.Machine.execSnapEpochRead dt s
  | .snapRelease dt w => Sys2Proof.Machine.execSnapRelease dt w s
  | .snapExpired dt => Sys2Proof.Machine.execSnapExpired dt s
  | .operationIssue dt op => Sys2Proof.Machine.execOperationIssue dt op s
  | .replyReceived dt tag sInc tInc status => Sys2Proof.Machine.execReplyReceived dt tag sInc tInc status s
  | .unitReopen dt u => Sys2Proof.Machine.execUnitReopen dt u s
  | .iecSentenceReceived dt p rx => Sys2Proof.Machine.execIecSentenceReceived dt p rx s
  | .binaryFrameReceived dt p rx => Sys2Proof.Machine.execBinaryFrameReceived dt p rx s
  | .snsPortTxdata dt p w => Sys2Proof.Machine.execSnsPortTxdata dt p w s
  | .snsPortStatusRead dt p => Sys2Proof.Machine.execSnsPortStatusRead dt p s
  | .samplePortFrameStart dt => Sys2Proof.Machine.execSamplePortFrameStart dt s
  | .sampleSlotComplete dt lane slot bits => Sys2Proof.Machine.execSampleSlotComplete dt lane slot bits s
  | .triggerEdge dt t => Sys2Proof.Machine.execTriggerEdge dt t s
  | .streamSample dt stream v stampNs => Sys2Proof.Machine.execStreamSample dt stream v stampNs s
  | .streamStale dt stream => Sys2Proof.Machine.execStreamStale dt stream s
  | .firCoefWrite dt k w => Sys2Proof.Machine.execFirCoefWrite dt k w s
  | .firGdInactWrite dt c w => Sys2Proof.Machine.execFirGdInactWrite dt c w s
  | .fadeRequest dt c w => Sys2Proof.Machine.execFadeRequest dt c w s
  | .gclkLost dt => Sys2Proof.Machine.execGclkLost dt s
  | .feTransaction dt w priv => Sys2Proof.Machine.execFeTransaction dt w priv s
  | .feTransactionDone dt inBits => Sys2Proof.Machine.execFeTransactionDone dt inBits s
  | .pvtEpoch dt e => Sys2Proof.Machine.execPvtEpoch dt e s
  | .holdoverLimit dt => Sys2Proof.Machine.execHoldoverLimit dt s
  | .gnsRtcmData dt w => Sys2Proof.Machine.execGnsRtcmData dt w s
  | .rtcmFrameReceived dt bytes => Sys2Proof.Machine.execRtcmFrameReceived dt bytes s
  | .notchSpectrumUpdate dt lines => Sys2Proof.Machine.execNotchSpectrumUpdate dt lines s
  | .ppsEdge dt => Sys2Proof.Machine.execPpsEdge dt s
  | .select dt track => Sys2Proof.Machine.execSelect dt track s
  | .reject dt track => Sys2Proof.Machine.execReject dt track s
  | .release dt track => Sys2Proof.Machine.execRelease dt track s
  | .d4Enter dt => Sys2Proof.Machine.execD4Enter dt s
  | .d4Exit dt => Sys2Proof.Machine.execD4Exit dt s
  | .spGo dt w => Sys2Proof.Machine.execSpGo dt w s
  | .joyStale dt => Sys2Proof.Machine.execJoyStale dt s
  | .slotClr dt k => Sys2Proof.Machine.execSlotClr dt k s
  | .slotILoad dt k => Sys2Proof.Machine.execSlotILoad dt k s
  | .testGo dt w priv => Sys2Proof.Machine.execTestGo dt w priv s
  | .testStop dt priv => Sys2Proof.Machine.execTestStop dt priv s
  | .captureArm dt b w => Sys2Proof.Machine.execCaptureArm dt b w s
  | .captureAbort dt b => Sys2Proof.Machine.execCaptureAbort dt b s
  | .captureRddataRead dt b => Sys2Proof.Machine.execCaptureRddataRead dt b s
  | .hznRestore dt => Sys2Proof.Machine.execHznRestore dt s
  | .hznResetEst dt => Sys2Proof.Machine.execHznResetEst dt s
  | .fbCountEdge dt ch check a b c na nb nc => Sys2Proof.Machine.execFbCountEdge dt ch check a b c na nb nc s
  | .pdivPulseEnd dt d => Sys2Proof.Machine.execPdivPulseEnd dt d s
  | .compareWrite dt ch w => Sys2Proof.Machine.execCompareWrite dt ch w s
  | .compareCtlWrite dt ch w => Sys2Proof.Machine.execCompareCtlWrite dt ch w s
  | .laneEnable dt n en => Sys2Proof.Machine.execLaneEnable dt n en s
  | .laneClear dt n => Sys2Proof.Machine.execLaneClear dt n s
  | .azSet dt n w => Sys2Proof.Machine.execAzSet dt n w s
  | .connectionTimeout dt c => Sys2Proof.Machine.execConnectionTimeout dt c s
  | .errorLevelDecay dt c => Sys2Proof.Machine.execErrorLevelDecay dt c s
  | .krbConnClr dt w => Sys2Proof.Machine.execKrbConnClr dt w s
  | .krbAckLane dt n priv => Sys2Proof.Machine.execKrbAckLane dt n priv s
  | .krbAckGroup dt mask priv => Sys2Proof.Machine.execKrbAckGroup dt mask priv s
  | .krbAckChClear dt mask priv => Sys2Proof.Machine.execKrbAckChClear dt mask priv s
  | .sealReading dt a b => Sys2Proof.Machine.execSealReading dt a b s
  | .readbackSample dt levels => Sys2Proof.Machine.execReadbackSample dt levels s
  | .testPulseStart dt tech ch => Sys2Proof.Machine.execTestPulseStart dt tech ch s
  | .testPulseEnd dt tech ch => Sys2Proof.Machine.execTestPulseEnd dt tech ch s
  | .kerbFatal dt cause => Sys2Proof.Machine.execKerbFatal dt cause s
  | .paceLost dt => Sys2Proof.Machine.execPaceLost dt s
  | .exchangeTimeout dt tech => Sys2Proof.Machine.execExchangeTimeout dt tech s
  | .linkUp dt port ability => Sys2Proof.Machine.execLinkUp dt port ability s
  | .linkDown dt port => Sys2Proof.Machine.execLinkDown dt port s
  | .ringListen dt ring => Sys2Proof.Machine.execRingListen dt ring s
  | .syncReceived dt f => Sys2Proof.Machine.execSyncReceived dt f s
  | .syncLost dt => Sys2Proof.Machine.execSyncLost dt s
  | .commandFrameReceived dt f => Sys2Proof.Machine.execCommandFrameReceived dt f s
  | .collectFrameReceived dt f => Sys2Proof.Machine.execCollectFrameReceived dt f s
  | .imageFrameReceived dt f => Sys2Proof.Machine.execImageFrameReceived dt f s
  | .mgmtFrameReceived dt f => Sys2Proof.Machine.execMgmtFrameReceived dt f s
  | .foreignFrameReceived dt f => Sys2Proof.Machine.execForeignFrameReceived dt f s
  | .ptpMessageReceived dt m => Sys2Proof.Machine.execPtpMessageReceived dt m s
  | .ptpSourceLost dt src => Sys2Proof.Machine.execPtpSourceLost dt src s
  | .mgmtSend dt w priv => Sys2Proof.Machine.execMgmtSend dt w priv s
  | .mgmtTransmit dt => Sys2Proof.Machine.execMgmtTransmit dt s
  | .mgmtRxPop dt => Sys2Proof.Machine.execMgmtRxPop dt s
  | .ringRelease dt ring priv => Sys2Proof.Machine.execRingRelease dt ring priv s
  | .ringLeave dt ring priv => Sys2Proof.Machine.execRingLeave dt ring priv s
  | .accept dt priv => Sys2Proof.Machine.execAccept dt priv s
  | .timeStep dt => Sys2Proof.Machine.execTimeStep dt s
  | .timNowNsRead dt => Sys2Proof.Machine.execTimNowNsRead dt s
  | .heartbeatSend dt => Sys2Proof.Machine.execHeartbeatSend dt s
  | .heartbeatReceived dt f fcsOk => Sys2Proof.Machine.execHeartbeatReceived dt f fcsOk s
  | .hbInEdge dt high => Sys2Proof.Machine.execHbInEdge dt high s
  | .pathSilence dt causeway => Sys2Proof.Machine.execPathSilence dt causeway s
  | .pathRestored dt causeway => Sys2Proof.Machine.execPathRestored dt causeway s
  | .milestoneFrameReceived dt f fcsOk => Sys2Proof.Machine.execMilestoneFrameReceived dt f fcsOk s
  | .milestoneApplyMark dt => Sys2Proof.Machine.execMilestoneApplyMark dt s
  | .resyncFrameReceived dt f fcsOk => Sys2Proof.Machine.execResyncFrameReceived dt f fcsOk s
  | .exchange dt priv => Sys2Proof.Machine.execExchange dt priv s
  | .assume dt priv => Sys2Proof.Machine.execAssume dt priv s
  | .ringTakeover dt => Sys2Proof.Machine.execRingTakeover dt s
  | .roleWaitExpiry dt => Sys2Proof.Machine.execRoleWaitExpiry dt s
  | .vcorePowerOn dt dip => Sys2Proof.Machine.execVcorePowerOn dt dip s
  | .rstNAssert dt => Sys2Proof.Machine.execRstNAssert dt s
  | .rstNRelease dt roleSel => Sys2Proof.Machine.execRstNRelease dt roleSel s
  | .bootComplete dt b => Sys2Proof.Machine.execBootComplete dt b s
  | .nvwWrite dt off w priv => Sys2Proof.Machine.execNvwWrite dt off w priv s
  | .program dt priv => Sys2Proof.Machine.execProgram dt priv s
  | .erase dt priv => Sys2Proof.Machine.execErase dt priv s
  | .verify dt slot priv => Sys2Proof.Machine.execVerify dt slot priv s
  | .nvwCommandDone dt => Sys2Proof.Machine.execNvwCommandDone dt s
  | .tgData dt w priv => Sys2Proof.Machine.execTgData dt w priv s
  | .clear dt priv => Sys2Proof.Machine.execClear dt priv s
  | .check dt priv => Sys2Proof.Machine.execCheck dt priv s
  | .tgCheckDone dt => Sys2Proof.Machine.execTgCheckDone dt s
  | .commit dt kind priv => Sys2Proof.Machine.execCommit dt kind priv s
  | .abort dt priv => Sys2Proof.Machine.execAbort dt priv s
  | .tamperEvent dt lowNs => Sys2Proof.Machine.execTamperEvent dt lowNs s
  | .supplyGlitch dt => Sys2Proof.Machine.execSupplyGlitch dt s
  | .temperatureGlitch dt => Sys2Proof.Machine.execTemperatureGlitch dt s
  | .kerbOscAnomaly dt => Sys2Proof.Machine.execKerbOscAnomaly dt s
  | .eraseSession dt priv => Sys2Proof.Machine.execEraseSession dt priv s
  | .eraseAll dt priv => Sys2Proof.Machine.execEraseAll dt priv s
  | .secErase dt => Sys2Proof.Machine.execSecErase dt s
  | .loadKek dt priv => Sys2Proof.Machine.execLoadKek dt priv s
  | .loadSkey dt slot priv => Sys2Proof.Machine.execLoadSkey dt slot priv s
  | .exportKey dt slot rngOk priv => Sys2Proof.Machine.execExport dt slot rngOk priv s
  | .secExportDataRead dt priv => Sys2Proof.Machine.execSecExportDataRead dt priv s
  | .genDik dt rngOk priv => Sys2Proof.Machine.execGenDik dt rngOk priv s
  | .attest dt rngOk priv => Sys2Proof.Machine.execAttest dt rngOk priv s
  | .attestDone dt => Sys2Proof.Machine.execAttestDone dt s
  | .secAlarmClr dt w priv => Sys2Proof.Machine.execSecAlarmClr dt w priv s
  | .challenge dt => Sys2Proof.Machine.execChallenge dt s
  | .unlock dt r sig => Sys2Proof.Machine.execUnlock dt r sig s
  | .logAppend dt e => Sys2Proof.Machine.execLogAppend dt e s
  | .mark dt priv => Sys2Proof.Machine.execMark dt priv s
  | .logVerifyStart dt priv => Sys2Proof.Machine.execLogVerifyStart dt priv s
  | .logVerifyDone dt => Sys2Proof.Machine.execLogVerifyDone dt s
  | .logClearStart dt priv => Sys2Proof.Machine.execLogClearStart dt priv s
  | .logCleared dt => Sys2Proof.Machine.execLogCleared dt s
  | .logRdIndexWrite dt w => Sys2Proof.Machine.execLogRdIndexWrite dt w s
  | .logRdDataRead dt => Sys2Proof.Machine.execLogRdDataRead dt s
  | .writeFrame dt f => Sys2Proof.Machine.execWriteFrame dt f s
  | .readFrame dt f => Sys2Proof.Machine.execReadFrame dt f s
  | .rosLowRead dt addr priv => Sys2Proof.Machine.execRosLowRead dt addr priv s
  | .registerWrite dt addr w priv => Sys2Proof.Machine.execRegisterWrite dt addr w priv s
  | .fabCntClr dt w => Sys2Proof.Machine.execFabCntClr dt w s
  | .engCntClr dt w => Sys2Proof.Machine.execEngCntClr dt w s
  | .snsCntClr dt w => Sys2Proof.Machine.execSnsCntClr dt w s
  | .gnsCntClr dt w => Sys2Proof.Machine.execGnsCntClr dt w s
  | .fusCntClr dt w => Sys2Proof.Machine.execFusCntClr dt w s
  | .alcCntClr dt w => Sys2Proof.Machine.execAlcCntClr dt w s
  | .slvCntClr dt w => Sys2Proof.Machine.execSlvCntClr dt w s
  | .hznCntClr dt w => Sys2Proof.Machine.execHznCntClr dt w s
  | .fbkCntClr dt w => Sys2Proof.Machine.execFbkCntClr dt w s
  | .laneCntClr dt n w => Sys2Proof.Machine.execLaneCntClr dt n w s
  | .krbCntClr dt w => Sys2Proof.Machine.execKrbCntClr dt w s
  | .ringCntClr dt w => Sys2Proof.Machine.execRingCntClr dt w s
  | .timCntClr dt w => Sys2Proof.Machine.execTimCntClr dt w s
  | .redCntClr dt w => Sys2Proof.Machine.execRedCntClr dt w s
  | .tgCntClr dt w => Sys2Proof.Machine.execTgCntClr dt w s
  | .secCntClr dt w priv => Sys2Proof.Machine.execSecCntClr dt w priv s
  | .logCntClr dt w => Sys2Proof.Machine.execLogCntClr dt w s
  | .hifCntClr dt w => Sys2Proof.Machine.execHifCntClr dt w s
  | .pwrCntClr dt w => Sys2Proof.Machine.execPwrCntClr dt w s
  | .hltCntClr dt w => Sys2Proof.Machine.execHltCntClr dt w s
  | .pwrCmdRun dt priv => Sys2Proof.Machine.execPwrCmdRun dt priv s
  | .runEntry dt => Sys2Proof.Machine.execRunEntry dt s
  | .pwrCmdReady dt priv => Sys2Proof.Machine.execPwrCmdReady dt priv s
  | .pwrCmdHarbour dt priv => Sys2Proof.Machine.execPwrCmdHarbour dt priv s
  | .pwrCmdQuiet dt priv => Sys2Proof.Machine.execPwrCmdQuiet dt priv s
  | .unitPark dt u priv => Sys2Proof.Machine.execUnitPark dt u priv s
  | .unitUnpark dt u priv => Sys2Proof.Machine.execUnitUnpark dt u priv s
  | .unitReset dt unit engine priv => Sys2Proof.Machine.execUnitReset dt unit engine priv s
  | .healthFatal dt cause => Sys2Proof.Machine.execHealthFatal dt cause s
  | .operatingSecond dt => Sys2Proof.Machine.execOperatingSecond dt s
  | .wearMonitorUpdate dt mon avg => Sys2Proof.Machine.execWearMonitorUpdate dt mon avg s
  | .eccCorrected dt bank row => Sys2Proof.Machine.execEccCorrected dt bank row s
  | .logSectorCopyDone dt => Sys2Proof.Machine.execLogSectorCopyDone dt s
  | .swap dt engine priv => Sys2Proof.Machine.execSwap dt engine priv s
  | .swapAbort dt priv => Sys2Proof.Machine.execSwapAbort dt priv s
  | .swapCopyDone dt => Sys2Proof.Machine.execSwapCopyDone dt s
  | .ptpMessageTransmit dt kind port => Sys2Proof.Machine.execPtpMessageTransmit dt kind port s
  | .acquisitionDone dt ch acq => Sys2Proof.Machine.execAcquisitionDone dt ch acq s
  | .signalLost dt ch => Sys2Proof.Machine.execSignalLost dt ch s
  | .vkeepLoss dt => Sys2Proof.Machine.execVkeepLoss dt s
  | .selfCheckWrongResult dt r => Sys2Proof.Machine.execSelfCheckWrongResult dt r s
  | .slewComplete dt => Sys2Proof.Machine.execSlewComplete dt s

end Sys2Proof.Machine
end

