-- ==== Sys2Proof/Safety.lean ====
section
/-! DEFINITION. Safety.lean: the words that the statements about the block are made of: what a command leaves alone, when a
host write has its effect, and what the wires must show. -/

namespace Sys2Proof.Safety

open Sys2Proof.Machine

/-- The parts of the state beside the live registers and the queue. -/
inductive Part where
  | now | free | staged | shadows | pace | legB | freeze | frozenMs
  | clock | cyc | fab | units | log | hif | pwr | hlt
  | ldr | tg | sec | pins | ring | tim | red | fbk
  | lanes | krb | loop | sns | gns | fus | alc | hzn
  | eng
  deriving DecidableEq, Repr

/-- A part is the same in two states. Of the pins, those that only a command of their own drives are the same, a ring
bypass is not raised and FAULT_N does not rise; the rest follow the state by wire. -/
def Part.same (s t : State) : Part → Prop
  | .pins => t.pins.hRdy = s.pins.hRdy ∧ t.pins.roleSel = s.pins.roleSel ∧ t.pins.pdiv0 = s.pins.pdiv0 ∧
      t.pins.pdiv1 = s.pins.pdiv1 ∧ (t.pins.bypA = true → s.pins.bypA = true) ∧
      (t.pins.bypB = true → s.pins.bypB = true) ∧ (t.pins.faultN = true → s.pins.faultN = true)
  | .now => t.now = s.now
  | .free => t.free = s.free
  | .staged => t.staged = s.staged
  | .shadows => t.shadows = s.shadows
  | .pace => t.pace = s.pace
  | .legB => t.legB = s.legB
  | .freeze => t.freeze = s.freeze
  | .frozenMs => t.frozenMs = s.frozenMs
  | .clock => t.clock = s.clock
  | .cyc => t.cyc = s.cyc
  | .fab => t.fab = s.fab
  | .units => t.units = s.units
  | .log => t.log = s.log
  | .hif => t.hif = s.hif
  | .pwr => t.pwr = s.pwr
  | .hlt => t.hlt = s.hlt
  | .ldr => t.ldr = s.ldr
  | .tg => t.tg = s.tg
  | .sec => t.sec = s.sec
  | .ring => t.ring = s.ring
  | .tim => t.tim = s.tim
  | .red => t.red = s.red
  | .fbk => t.fbk = s.fbk
  | .lanes => t.lanes = s.lanes
  | .krb => t.krb = s.krb
  | .loop => t.loop = s.loop
  | .sns => t.sns = s.sns
  | .gns => t.gns = s.gns
  | .fus => t.fus = s.fus
  | .alc => t.alc = s.alc
  | .hzn => t.hzn = s.hzn
  | .eng => t.eng = s.eng

/-- Every bit of every live register outside the fields `fs` is as it was. -/
def BitsBut (fs : List Fld) (s t : State) : Prop :=
  ∀ a j, (∀ f ∈ fs, ¬(f.addr = a ∧ f.lo ≤ j ∧ j ≤ f.hi)) → (t.rd a).testBit j = (s.rd a).testBit j

/-- `t` differs from `s` in the parts `ps` and in the register fields `fs` alone. -/
def Differs (ps : List Part) (fs : List Fld) (s t : State) : Prop :=
  (∀ p, p ∉ ps → p.same s t) ∧ BitsBut fs s t

/-- What a command leaves: `dt` ns pass, and beyond that only the parts `ps` and the register fields `fs` change. -/
def Changes (dt : Nat) (ps : List Part) (fs : List Fld) (s t : State) : Prop := Differs ps fs (s.elapse dt) t

/-- The whole of a register. -/
def whole (a : Nat) : Fld := ⟨a, 31, 0⟩
/-- COUNT and OVF of a counter register (R22). -/
def cntFld (a : Nat) : Fld := ⟨a, 16, 0⟩
/-- The bit of an interrupt source (R423). -/
def irqFld (i : Nat) : Fld := ⟨Reg.HIF_IRQ_STATUS, i, i⟩
/-- Whole registers of an array. -/
def wholes (n : Nat) (a : Nat → Nat) : List Fld := (List.range n).map (fun i => whole (a i))

/-- The fields that the creation of a record may write (R395, R399, R401, R402). -/
def logFlds : List Fld :=
  [Fl.LOG_STATUS_FULL, Fl.LOG_STATUS_OPSEC_STUCK, Fl.LOG_STATUS_PCC_STUCK, Fl.LOG_STATUS_COUNT, whole Reg.LOG_OPSEC,
    whole Reg.LOG_PCC, Fl.LOG_TAIL_NEXT, Fl.LOG_TAIL_WRAPPED, whole Reg.LOG_SEALED, cntFld Reg.LOG_DROPPED, irqFld 15] ++
    wholes 8 Reg.LOG_SEAL_HEAD

/-- The registers that show the Kerb's verdicts (R267 to R280). -/
def kerbFlds : List Fld :=
  [whole Reg.KRB_STATUS, cntFld Reg.KRB_TEST_DISCARD] ++ wholes 4 Reg.KRB_SO_STATUS ++ wholes 64 Reg.KRB_LANE_STATUS ++
    wholes 64 Reg.KRB_LANE_AZ_P ++ wholes 64 Reg.KRB_LANE_AZ_L ++ wholes 64 Reg.KRB_LANE_T_P ++ wholes 64 Reg.KRB_LANE_T_L ++
    (List.range 64).map Fl.LANE_STATE_KERB_PERMIT

/-- HIF_LAST_ERR and the flag of a refused write (R416, R418). -/
def badFlds : List Fld := [Fl.HIF_STATUS_BAD_WRITE, whole Reg.HIF_LAST_ERR]

/-- A host write to an address meets a running device whose unit there is open (R62, R425). -/
abbrev HostTakes (addr : Nat) (s : State) : Prop := s.alive = true ∧ s.hostClosed addr = false

/-- The same for a staged register, whose block the Tollgate must not hold (R379). -/
abbrev HostStages (addr : Nat) (s : State) : Prop := HostTakes addr s ∧ s.tgLocks addr = false

/-- A unit's command meets a running device with the unit's ports open (R61). -/
abbrev UnitTakes (u : Nat) (s : State) : Prop := s.alive = true ∧ s.isOpen u = true

/-- The newest record of the recorder (R394), in the tail window that every new record enters (R399). -/
def newest (s : State) : Option LogRecord := aGet s.log.tail ((s.log.tailCount + 255) % 256)

/-- A counter register below its limit counts one (R22). -/
def Counted (a : Nat) (s t : State) : Prop := s.get ⟨a, 15, 0⟩ < 0xFFFF → t.get ⟨a, 15, 0⟩ = s.get ⟨a, 15, 0⟩ + 1

/-- The last record of the event's source is this event (R394, R400). -/
def Logged (ev : Ev) (arg data : Nat) (t : State) : Prop :=
  ∃ x, aGet t.log.last ev.src = some x ∧ x.entry.code = ev.sev * 2 ^ 14 + ev.num ∧ x.entry.arg = arg % 256 ∧
    x.entry.data = data % 2 ^ 32

/-- The wires as the spec's words have them. H_IRQ_N is low exactly while an enabled source is set (R423). A gate drive is high
only in a running device in RUN with role ACTIVE and the TAP closed (R278, R388). A ring bypass is held only by a running device
that is not FAULTED (R318). FAULT_N is low while the role is FAULTED (R430, R446). ALARM_N is low only while a latched trigger
of grade ALARM or above stands (R383), and HB_OUT high only in READY, RUN or HARBOUR and not after a fatal fault (R334). -/
def WiresHold (s : State) : Prop :=
  (s.pins.hIrqN = false ↔ ∃ i, (s.rd Reg.HIF_IRQ_STATUS).testBit i = true ∧ (s.rd Reg.HIF_IRQ_EN).testBit i = true) ∧
  (s.pins.so ≠ 0 → s.alive = true ∧ s.power = 3 ∧ s.role = 3 ∧ s.is Fl.SEC_STATUS_JTAG_OPEN = false) ∧
  (s.pins.bypA = true ∨ s.pins.bypB = true → s.alive = true ∧ s.role ≠ 4) ∧
  (s.role = 4 → s.pins.faultN = false) ∧
  (s.pins.alarmN = false ↔ s.alive = true ∧ s.power ≠ 1 ∧
    ∃ c < 7, (s.rd Reg.SEC_STATUS).testBit (16 + c) = true ∧ 1 ≤ s.rd Reg.SEC_POLICY / 4 ^ c % 4) ∧
  (s.pins.hbOut = true → s.alive = true ∧ 2 ≤ s.power ∧ s.power ≤ 4 ∧ s.role ≠ 4)

/-- The commands that act whether or not the device runs: supplies, reset pins, the keep-alive domain, the tamper input and
the feedback lines, which are followed though no count is taken. -/
def actsAlways : Instr → Bool
  | .vcorePowerOn .. | .rstNAssert .. | .rstNRelease .. | .tamperEvent .. | .vkeepLoss .. | .fbCountEdge .. => true
  | _ => false

end Sys2Proof.Safety
end

