-- ==== Sys2Proof/Certificates/Slice0/Obligations.lean ====
section
/-! DEFINITION. Certificates/Slice0/Obligations.lean: the statements about the block, from the numbered rules of the spec. -/

open Sys2Proof Sys2Proof.Machine Sys2Proof.Safety

/-! ### The step, the queue, the wires -/

/-- A step takes the command at the front of the queue and is exec of it on the state with the queue's rest. -/
def Obligations.StepExecutesTheFrontCommand : Prop :=
  ∀ (c : Instr) (q : List Instr) (s : State), step { s with pending := c :: q } = exec c { s with pending := q }

/-- Every command answers a next state with the queue as it found it: an error of the hardware is state, and nothing stops
the block (R3). -/
def Obligations.EveryCommandAnswersAndKeepsTheQueue : Prop :=
  ∀ (c : Instr) (s : State), ∃ t, exec c s = .next t ∧ t.pending = s.pending

/-- Every step leaves the wires as the state asks: the interrupt pin, the gate drives, the ring bypasses, FAULT_N, ALARM_N and
HB_OUT (R278, R318, R334, R383, R423, R430, R446). -/
def Obligations.EveryStepSettlesTheWires : Prop :=
  ∀ (s t : State), WiresHold s → step s = .next t → WiresHold t

/-- The wires hold right after reset. -/
def Obligations.WiresHoldAtReset : Prop := WiresHold State.reset

/-- While the device is without VCORE or held in reset, a command changes nothing but the time and the wires, except the
supplies, the reset pins, the keep-alive domain, the tamper input and the feedback lines. -/
def Obligations.NothingRunsInReset : Prop :=
  ∀ (c : Instr) (s : State), s.alive = false → actsAlways c = false →
    ∃ n, exec c s = .next (settle s.pending (s.elapse n))


/-! ### Counters (R22, R24) -/

/-- The CNT_CLR commands whose set bits each name one counter: the command, its register's address, and the counters by
bit. -/
def cntClrTable (dt : Nat) (w : Word) : List (Instr × Nat × List (Nat × Nat)) :=
  let up (l : List Nat) : List (Nat × Nat) := (List.range l.length).zip l
  [(.engCntClr dt w, Reg.ENG_CNT_CLR, up ((List.range 16).map Reg.ENG_INVALID ++ (List.range 16).map Reg.ENG_SAT)),
    (.gnsCntClr dt w, Reg.GNS_CNT_CLR, up [Reg.GNS_RTCM_ERR, Reg.GNS_RTCM_IGNORED]),
    (.alcCntClr dt w, Reg.ALC_CNT_CLR, up [Reg.ALC_MISS]),
    (.slvCntClr dt w, Reg.SLV_CNT_CLR, up [Reg.SLV_A_PIVOT_REG, Reg.SLV_A_PIVOT_ZERO, Reg.SLV_A_OVF, Reg.SLV_H_PIVOT_REG,
      Reg.SLV_H_PIVOT_ZERO, Reg.SLV_H_OVF, Reg.SLV_PREEMPT]),
    (.hznCntClr dt w, Reg.HZN_CNT_CLR, up [Reg.HZN_TRUNCATED, Reg.HZN_NO_ITERATE, Reg.HZN_INELIG]),
    (.fbkCntClr dt w, Reg.FBK_CNT_CLR,
      up ((List.range 6).map Reg.FB_ILLEGAL) ++ (List.range 6).map (fun i => (8 + i, Reg.FB_CMP_FIRES i))),
    (.krbCntClr dt w, Reg.KRB_CNT_CLR, up [Reg.KRB_TRIPS, Reg.KRB_CMD_VIOL, Reg.KRB_PREALARM_WITHDRAWN,
      Reg.KRB_TEST_DISCARD, Reg.KRB_SEAL_UNSTABLE]),
    (.timCntClr dt w, Reg.TIM_CNT_CLR, up [Reg.TIM_JUMPS]),
    (.redCntClr dt w, Reg.RED_CNT_CLR, up [Reg.RED_TAKEOVERS, Reg.RED_DEMOTIONS, Reg.RED_PATH_FAULTS, Reg.RED_MS_LOST]),
    (.tgCntClr dt w, Reg.TG_CNT_CLR, up [Reg.TG_COMMITS, Reg.TG_FAILS]),
    (.logCntClr dt w, Reg.LOG_CNT_CLR, up [Reg.LOG_DROPPED]),
    (.pwrCntClr dt w, Reg.PWR_CNT_CLR, up [Reg.PWR_UNIT_RESETS]),
    (.hifCntClr dt w, Reg.HIF_CNT_CLR, up [Reg.HIF_FRAMES, Reg.HIF_FRAME_ERRS])]

/-- A counter stands at zero without OVF, and its next increment reads 1. -/
def Cleared (a : Nat) (t : State) : Prop := t.get (cntFld a) = 0 ∧ (t.count a).get (cntFld a) = 1

/-- Clearing counters: while the unit takes host writes, COUNT and OVF of every counter that a set bit names are 0 afterwards,
an increment then reads 1, and nothing else changes (HIF_CNT_CLR's bit 2 clears HIF_STALL_MAX as well). -/
def Parts.CounterClearsZeroCountAndOvf : Prop :=
  ∀ (dt : Nat) (w : Word), ∀ e ∈ cntClrTable dt w, ∀ s : State, HostTakes e.2.1 s →
    ∃ t, exec e.1 s = .next t ∧
      (∀ p ∈ e.2.2, w.toNat.testBit p.1 = true → Cleared p.2 t) ∧
      Changes dt [] (⟨Reg.HIF_STALL_MAX, 15, 0⟩ :: (e.2.2.filter (fun p => w.toNat.testBit p.1)).map (fun p => cntFld p.2)) s t

/-- The clears that name their counters in a way of their own: FAB_CNT_CLR with PEAK following IN_USE, HLT_CNT_CLR with LAST_MARK,
a lane's, a stream's and a port's counters, a track's counters with its discards, the ring ports' counters,
and SEC_CNT_CLR, a privileged register that ends the run of refused accesses. -/
def Parts.NamedCounterClears : Prop :=
  ∀ (dt : Nat) (w : Word) (s : State),
    (HostTakes Reg.FAB_CNT_CLR s → ∃ t, exec (.fabCntClr dt w) s = .next t ∧
      (∀ p ∈ [(0, Reg.FAB_TAG_STALL), (1, Reg.FAB_STALE_DISCARD), (2, Reg.FAB_CLOSED_CNT), (3, Reg.FAB_WITHDRAWN), (4, Reg.FAB_PROV_REDIRECT)],
        w.toNat.testBit p.1 = true → Cleared p.2 t) ∧
      (w.toNat.testBit 1 = true → t.get Fl.FAB_STALE_DISCARD_LAST_UNIT = 0) ∧
      (w.toNat.testBit 5 = true → t.get Fl.FAB_TAGS_PEAK = s.get Fl.FAB_TAGS_IN_USE) ∧
      Changes dt [] [cntFld Reg.FAB_TAG_STALL, cntFld Reg.FAB_STALE_DISCARD, Fl.FAB_STALE_DISCARD_LAST_UNIT,
        cntFld Reg.FAB_CLOSED_CNT, cntFld Reg.FAB_WITHDRAWN, cntFld Reg.FAB_PROV_REDIRECT, Fl.FAB_TAGS_PEAK] s t) ∧
    (HostTakes Reg.HLT_CNT_CLR s → w.toNat.testBit 0 = true → ∃ t, exec (.hltCntClr dt w) s = .next t ∧
      Cleared Reg.HLT_LEG_OVERRUN t ∧ t.get Fl.HLT_LEG_OVERRUN_LAST_MARK = 0 ∧
      Changes dt [] [cntFld Reg.HLT_LEG_OVERRUN, Fl.HLT_LEG_OVERRUN_LAST_MARK] s t) ∧
    (∀ n < 64, HostTakes (Reg.LANE_CNT_CLR n) s → w.toNat.testBit 0 = true → ∃ t, exec (.laneCntClr dt n w) s = .next t ∧
      Cleared (Reg.LANE_FAULTS n) t ∧ Changes dt [] [cntFld (Reg.LANE_FAULTS n)] s t) ∧
    (HostTakes Reg.SNS_CNT_CLR s → Rw.SNS_CNT_CLR.legalOk w.toNat = true → ∃ t, exec (.snsCntClr dt w) s = .next t ∧
      (w.toNat.testBit 6 = true → ∀ a ∈ [Reg.SNS_STR_SLIP, Reg.SNS_STR_GAP, Reg.SNS_STR_DISCARD], Cleared (a (w.toNat % 64)) t) ∧
      (w.toNat.testBit 7 = true → ∀ a ∈ [Reg.SNS_PORT_ERR_FRAME, Reg.SNS_PORT_ERR_CHECK, Reg.SNS_PORT_ERR_OVERRUN,
        Reg.SNS_PORT_ERR_OTHER], Cleared (a (w.toNat / 256 % 8)) t) ∧
      Changes dt [] ([Reg.SNS_STR_SLIP (w.toNat % 64), Reg.SNS_STR_GAP (w.toNat % 64), Reg.SNS_STR_DISCARD (w.toNat % 64),
        Reg.SNS_PORT_ERR_FRAME (w.toNat / 256 % 8), Reg.SNS_PORT_ERR_CHECK (w.toNat / 256 % 8),
        Reg.SNS_PORT_ERR_OVERRUN (w.toNat / 256 % 8), Reg.SNS_PORT_ERR_OTHER (w.toNat / 256 % 8)].map cntFld) s t) ∧
    (HostTakes Reg.FUS_CNT_CLR s → ∃ t, exec (.fusCntClr dt w) s = .next t ∧
      (∀ k < 18, w.toNat.testBit k = true → Cleared (Reg.FUS_TRK_GATE_FAIL k) t ∧
        Cleared (Reg.FUS_TRK_VOTE_OUT k) t ∧ (t.trkOf k).discard = 0 ∧ (t.trkOf k).discOvf = false) ∧
      Changes dt [.fus] ((List.range 18).flatMap (fun k => [cntFld (Reg.FUS_TRK_GATE_FAIL k), cntFld (Reg.FUS_TRK_VOTE_OUT k)])) s t) ∧
    (HostTakes Reg.RING_CNT_CLR s → ∃ t, exec (.ringCntClr dt w) s = .next t ∧
      (∀ q < 4, w.toNat.testBit q = true → ∀ a ∈ [Reg.RING_PORT_FCS_ERR, Reg.RING_PORT_FOREIGN, Reg.RING_PORT_HOPS_EXPIRED,
        Reg.RING_PORT_BAD_STAMP, Reg.RING_PORT_LATE], Cleared (a q) t) ∧
      (w.toNat.testBit 8 = true → Cleared Reg.RING_BREAKS t) ∧ (w.toNat.testBit 9 = true → Cleared Reg.RING_MGMT_LOST t) ∧
      (w.toNat % 16 ≠ 0 → ∀ n < 256, t.get (Fl.RING_NODE_STATUS_MISSES n) = 0 ∧ t.get (Fl.RING_NODE_STATUS_OVF n) = 0) ∧
      Changes dt [] ([cntFld Reg.RING_BREAKS, cntFld Reg.RING_MGMT_LOST] ++
        (List.range 4).flatMap (fun q => [Reg.RING_PORT_FCS_ERR q, Reg.RING_PORT_FOREIGN q, Reg.RING_PORT_HOPS_EXPIRED q,
          Reg.RING_PORT_BAD_STAMP q, Reg.RING_PORT_LATE q].map cntFld) ++
        (List.range 256).flatMap (fun n => [Fl.RING_NODE_STATUS_MISSES n, Fl.RING_NODE_STATUS_OVF n])) s t) ∧
    (HostTakes Reg.SEC_CNT_CLR s → ∃ t, exec (.secCntClr dt w true) s = .next t ∧ t.hif = { s.hif with unprivRun := 0 } ∧
      (w.toNat.testBit 0 = true → Cleared Reg.SEC_UNPRIV t) ∧
      (w.toNat.testBit 1 = true → Cleared Reg.SEC_TAG_FAIL t) ∧
      Changes dt [.hif] [cntFld Reg.SEC_UNPRIV, cntFld Reg.SEC_TAG_FAIL] s t)

/-- Every counter-clear command zeroes the counters of its set bits, with their OVF, and nothing else; an increment that follows
reads 1 (R24). -/
def Obligations.CountersClear : Prop :=
  Parts.CounterClearsZeroCountAndOvf ∧ Parts.NamedCounterClears


/-! ### The handshake fabric (R51 to R65) -/

/-- The fields that the fabric publishes. -/
def fabFlds : List Fld :=
  [Fl.FAB_TAGS_IN_USE, Fl.FAB_TAGS_PEAK, Fl.FAB_STATUS_RESERVE_LOW, Fl.FAB_STATUS_RESERVE_EMPTY, cntFld Reg.FAB_CLOSED_CNT,
    cntFld Reg.FAB_PROV_REDIRECT, cntFld Reg.FAB_TAG_STALL, cntFld Reg.FAB_STALE_DISCARD, Fl.FAB_STALE_DISCARD_LAST_UNIT]

/-- What an open source port may issue (R51, R56, R61): the port exists, its owner and its ring are open, and none of its own
operations is stalled. -/
def MayIssue (op : FabOp) (s : State) : Prop :=
  s.alive = true ∧ s.srcOpen op.src = true ∧ ∀ o ∈ s.fab.stalled, o.src ≠ op.src

/-- An operation belongs to a run-ahead at its issue (R58): its port runs ahead for it, or it is derived from a read that
carries the provisional bit. -/
def IsAhead (op : FabOp) (s : State) : Prop :=
  (op.ahead = true ∧ srcRunsAhead op.src = true) ∨
    ∃ n, n ∈ op.derived ∧ ∃ g, g ∈ s.fab.tags ∧ g.num = n ∧ g.prov = true ∧ g.op.wr = none

/-- An operation that finds a tag meets its target: a closed target performs nothing, is counted and answers CLOSED, a location
its target does not implement answers REFUSED and performs nothing, and an open target takes a tag that carries the operation, both
incarnation numbers and the provisional bit. A provisional write lands in a shadow and not in the storage, a committed write in
the storage unless another port wrote there with no mark between, and a read changes no storage; a 64-bit access takes the word at the
next address for its high half. -/
def Parts.OperationMeetsItsTarget : Prop :=
  ∀ (dt : Nat) (op : FabOp) (r : Bool) (s : State), MayIssue op s → s.tagFor op.src = some r →
    (s.uidOpen op.tgt = false → ∃ t, exec (.operationIssue dt op) s = .next t ∧
      (∃ n st, t.fab.replies = [⟨op.src, n, .closed, 0, st⟩]) ∧ Counted Reg.FAB_CLOSED_CNT s t ∧
      t.fab.stalled = s.fab.stalled ∧ t.fab.store = s.fab.store ∧ t.fab.shadows = s.fab.shadows ∧
      Changes dt [.fab] fabFlds s t) ∧
    (s.uidOpen op.tgt = true → State.locReserved op.tgt op.loc = true → ∃ t, exec (.operationIssue dt op) s = .next t ∧
      (∃ n st, t.fab.replies = [⟨op.src, n, .refused, 0, st⟩]) ∧ t.fab.stalled = s.fab.stalled ∧ t.fab.store = s.fab.store ∧
      t.fab.shadows = s.fab.shadows ∧ Changes dt [.fab] fabFlds s t) ∧
    (s.uidOpen op.tgt = true → State.locReserved op.tgt op.loc = false → (op.wr = none ∨ IsAhead op s ∨ 2 ^ 24 ≤ op.loc) →
      ∃ t, exec (.operationIssue dt op) s = .next t ∧
      (∃ g, t.fab.tags = s.fab.tags ++ [g] ∧ g.op = op ∧ g.st = .issued ∧ g.fromReserve = r ∧
        g.sInc = s.incarn (srcOwner op.src) ∧ g.tInc = s.incarn op.tgt ∧ g.since = s.now + dt ∧
        (IsAhead op s → g.prov = true) ∧
        (op.wr = none → op.wide = false → 2 ^ 24 ≤ op.loc → aGet s.fab.shadows op.loc = none →
          g.value.toNat = (aGetD s.fab.store op.loc 0).toNat)) ∧
      t.fab.stalled = s.fab.stalled ∧ t.fab.replies = [] ∧
      (∀ w, op.wr = some w →
        (IsAhead op s → t.fab.store = s.fab.store ∧ aGet t.fab.shadows op.loc = some (BitVec.ofNat 32 w.toNat) ∧
          (op.wide = true → aGet t.fab.shadows (op.loc + 4) = some (BitVec.ofNat 32 (w.toNat / 2 ^ 32)))) ∧
        (¬ IsAhead op s → t.fab.shadows = s.fab.shadows ∧
          ((∀ a m, a = op.loc ∨ a = op.loc + 4 → aGet s.fab.writers a = some m → m.1 = op.src ∨ m.2 ≠ s.fab.marks) →
            aGet t.fab.store op.loc = some (BitVec.ofNat 32 w.toNat) ∧
            (op.wide = true → aGet t.fab.store (op.loc + 4) = some (BitVec.ofNat 32 (w.toNat / 2 ^ 32)))))) ∧
      (op.wr = none → t.fab.store = s.fab.store ∧ t.fab.shadows = s.fab.shadows) ∧
      Changes dt [.fab, .free] fabFlds s t)

/-- An operation that finds no tag stalls, and the stall is counted; behind a stalled operation of its own port it waits its turn.
Nothing of it is performed. -/
def Parts.OperationWithoutATagStalls : Prop :=
  ∀ (dt : Nat) (op : FabOp) (s : State), s.alive = true → s.srcOpen op.src = true →
    (MayIssue op s → s.tagFor op.src = none →
      ∃ t, exec (.operationIssue dt op) s = .next t ∧ t.fab = { s.fab with stalled := s.fab.stalled ++ [op], replies := [] } ∧
        Counted Reg.FAB_TAG_STALL s t ∧ Changes dt [.fab, .log] (fabFlds ++ logFlds) s t) ∧
    ((∃ o, o ∈ s.fab.stalled ∧ o.src = op.src) →
      ∃ t, exec (.operationIssue dt op) s = .next t ∧ t.fab = { s.fab with stalled := s.fab.stalled ++ [op], replies := [] } ∧
        Changes dt [.fab] fabFlds s t)

/-- A reply is accepted only when both incarnation numbers it carries are the present ones: then its source gets it, a provisional
tag becomes PROVISIONAL and any other is free again. Any other numbers discard the reply, counted with the unit number of its
target, of which 2 is an engine's and 16 a ring's; so does a number of no tag in flight (R64). A second reply to one operation
changes nothing. -/
def Parts.RepliesAreAcceptedByIncarnation : Prop :=
  ∀ (dt n sInc tInc : Nat) (st : RepStatus) (s : State), s.alive = true →
    let last (t : State) : Prop := ∀ u, aGet s.fab.lastTgt n = some u →
      t.get Fl.FAB_STALE_DISCARD_LAST_UNIT = (match u with | .unit k => k % 32 | .eng _ => 2 | .ring _ => 16)
    (s.fab.tags.find? (·.num == n) = none → ∃ t, exec (.replyReceived dt n sInc tInc st) s = .next t ∧ t.fab = s.fab ∧
      Counted Reg.FAB_STALE_DISCARD s t ∧ last t ∧ Changes dt [] fabFlds s t) ∧
    ∀ g, s.fab.tags.find? (·.num == n) = some g →
      let present : Prop := sInc = s.incarn (srcOwner g.op.src) ∧ tInc = s.incarn g.op.tgt
      let freed : List Tag := s.fab.tags.filter (fun x => x.num != n && (x.st == .issued || x.st == .provisional))
      (present → g.st = .issued → s.fab.stalled = [] → ∃ t, exec (.replyReceived dt n sInc tInc st) s = .next t ∧
        (g.prov = true → st ≠ .withdrawn →
          t.fab.tags = s.fab.tags.map (fun x => if x.num = n then { x with st := .provisional } else x) ∧
          t.fab.replies = [⟨g.op.src, n, st, if st = .ok then g.value else 0, .provisional⟩]) ∧
        (g.prov = false → st ≠ .withdrawn → t.fab.tags = freed ∧
          t.fab.replies = [⟨g.op.src, n, st, if st = .ok then g.value else 0, .committed⟩]) ∧
        (st = .withdrawn → t.fab.tags = freed ∧ t.fab.replies = [⟨g.op.src, n, .withdrawn, 0, .withdrawn⟩]) ∧
        Changes dt [.fab] fabFlds s t) ∧
      (present → g.st ≠ .issued → ∃ t, exec (.replyReceived dt n sInc tInc st) s = .next t ∧ t.fab = s.fab ∧
        Changes dt [] [] s t) ∧
      (¬ present → ∃ t, exec (.replyReceived dt n sInc tInc st) s = .next t ∧ t.fab = s.fab ∧
        Counted Reg.FAB_STALE_DISCARD s t ∧ last t ∧ Changes dt [] fabFlds s t)

/-- A unit that is ready reopens at its instant: in RUN at a pace boundary strictly after it became ready, outside RUN at a whole
millisecond of the local clock after it. Its ports are open, it waits no longer, and its incarnation number is a new one. -/
def Parts.ReopeningGivesANewIncarnation : Prop :=
  ∀ (dt n t0 m0 : Nat) (s : State), s.alive = true → 1 ≤ n → n ≤ 22 → n ≠ 2 → s.units.ready.contains (.unit n) = true →
    s.units.since.find? (·.1 == .unit n) = some (.unit n, t0, m0) →
    (s.power = 3 → s.now + dt = s.cyc.boundaryAt ∧ t0 < s.now + dt) →
    (s.power ≠ 3 → (s.elapse dt).clk % 1000000 ≤ 4 ∧ (s.elapse dt).clk / 1000000 ≠ m0) →
    ∃ t, exec (.unitReopen dt (.unit n)) s = .next t ∧ t.isOpen n = true ∧ t.units.ready.contains (.unit n) = false ∧
      t.rd (Reg.FAB_INCARN (n - 1)) ≠ s.rd (Reg.FAB_INCARN (n - 1)) ∧
      (s.pwr.trans = none → t.fab = s.fab ∧ t.cyc = s.cyc ∧ t.alc = s.alc)

/-! ### Parking and unit resets (R431, R433) -/

/-- A park that R431 allows sets its bit of PWR_PARK and closes the thing's ports at the write; the unpark clears the bit, and
what is closed waits for its reopening unless the power state or a failure keeps it closed. A change that R431 refuses changes
nothing but BAD_WRITE and HIF_LAST_ERR. -/
def Parts.ParkAndUnpark : Prop :=
  ∀ (dt b : Nat) (u : Uid) (s : State), HostTakes Reg.PWR_PARK s → u ∈ parkable → parkBit u = some b →
    (s.rd Reg.PWR_PARK &&& Rw.PWR_PARK.mask) = s.rd Reg.PWR_PARK →
    (s.parkAsked u = false → parkable.any (s.parkRefused (State.putBits (s.rd Reg.PWR_PARK) b b 1)) = false →
      ∃ t, exec (.unitPark dt u true) s = .next t ∧ t.get ⟨Reg.PWR_PARK, b, b⟩ = 1 ∧ t.uidOpen u = false ∧
        t.units.ready.contains u = false) ∧
    (s.parkAsked u = true → parkable.any (s.parkRefused (State.putBits (s.rd Reg.PWR_PARK) b b 0)) = false →
      s.uidOpen u = false → s.barred u = false → stateParks s.power u = false →
      ∃ t, exec (.unitUnpark dt u true) s = .next t ∧ t.get ⟨Reg.PWR_PARK, b, b⟩ = 0 ∧ t.units.ready.contains u = true ∧
        Changes dt [.hif, .units, .log] (whole Reg.PWR_PARK :: logFlds) s t) ∧
    (parkable.any (s.parkRefused (State.putBits (s.rd Reg.PWR_PARK) b b 1)) = true →
      ∃ t, exec (.unitPark dt u true) s = .next t ∧ t.is Fl.HIF_STATUS_BAD_WRITE = true ∧ Changes dt [.hif] badFlds s t)

/-- A unit reset that R433 accepts closes the unit at the write and counts; a unit that was open is ready to reopen. One that
R433 refuses sets BAD_WRITE and nothing else. -/
def Parts.UnitResetClosesTheUnit : Prop :=
  ∀ (dt n e : Nat) (s : State), HostTakes Reg.PWR_UNIT_RESET s → 1 ≤ n → n ≤ 22 →
    (s.resetOk n = true → n ≠ 2 →
      ∃ t, exec (.unitReset dt n e true) s = .next t ∧ t.isOpen n = false ∧
        (s.isOpen n = true → s.barred (.unit n) = false → t.units.ready.contains (.unit n) = true) ∧
        (s.get ⟨Reg.PWR_UNIT_RESETS, 15, 0⟩ < 0xFFFF →
          t.get ⟨Reg.PWR_UNIT_RESETS, 15, 0⟩ = s.get ⟨Reg.PWR_UNIT_RESETS, 15, 0⟩ + 1)) ∧
    (s.resetOk n = false → ∃ t, exec (.unitReset dt n e true) s = .next t ∧ t.is Fl.HIF_STATUS_BAD_WRITE = true ∧
      t.get Fl.HIF_LAST_ERR_CAUSE = 2 ∧ t.get Fl.HIF_LAST_ERR_ADDR = Reg.PWR_UNIT_RESET ∧ Changes dt [.hif] badFlds s t)

/-! ### Power states (R426 to R432) -/

/-- The commands that ask for a power state. -/
def pwrCommands (dt : Nat) : List (Nat × Instr) :=
  [(2, .pwrCmdReady dt true), (3, .pwrCmdRun dt true), (4, .pwrCmdHarbour dt true), (5, .pwrCmdQuiet dt true)]

/-- A power command that R427 refuses only shows the first cause in its order: STATE in BOOT, FAULTED, BUSY, STATE for a
transition not listed, JTAG. -/
def Obligations.PowerCommandsRefusedInOrder : Prop :=
  ∀ (dt : Nat) (s : State), HostTakes Reg.PWR_CMD s → ∀ p ∈ pwrCommands dt,
    let listed := [(2, 3), (3, 2), (2, 4), (4, 2), (2, 5), (5, 2)].contains (s.power, p.1)
    ∀ code < 8, (if s.power = 1 then code = 2
        else if s.role = 4 ∧ p.1 ≠ 2 then code = 5
        else if s.is Fl.PWR_STATUS_BUSY = true then code = 3
        else if listed = false then code = 2
        else s.is Fl.SEC_STATUS_JTAG_OPEN = true ∧ p.1 = 3 ∧ code = 4) →
      ∃ t, exec p.2 s = .next t ∧ t.get Fl.PWR_STATUS_RESULT = code ∧ Changes dt [.hif] [Fl.PWR_STATUS_RESULT] s t

/-- READY to RUN is accepted with its millisecond: the first whole one of the local clock at least 1 ms after the write. RUN to
READY is accepted and waits for its pace boundaries. Both leave the state as it is and show BUSY with the target. -/
def Parts.RunCommandsAreScheduled : Prop :=
  ∀ (dt : Nat) (s : State), HostTakes Reg.PWR_CMD s → s.is Fl.PWR_STATUS_BUSY = false → s.role ≠ 4 →
    (s.power = 2 → s.is Fl.SEC_STATUS_JTAG_OPEN = false → ∃ t m, exec (.pwrCmdRun dt true) s = .next t ∧
      t.pwr.trans = some ⟨3, some m⟩ ∧ t.clk + 1000000 ≤ m * 1000000 ∧ m * 1000000 < t.clk + 2000000 ∧
      t.is Fl.PWR_STATUS_BUSY = true ∧ t.get Fl.PWR_STATUS_TARGET = 3 ∧ t.get Fl.PWR_STATUS_RESULT = 0 ∧ t.power = 2 ∧
      Changes dt [.hif, .pwr] [Fl.PWR_STATUS_BUSY, Fl.PWR_STATUS_TARGET, Fl.PWR_STATUS_RESULT] s t) ∧
    (s.power = 3 → ∃ t, exec (.pwrCmdReady dt true) s = .next t ∧ t.pwr.trans = some ⟨2, none⟩ ∧
      t.is Fl.PWR_STATUS_BUSY = true ∧ t.get Fl.PWR_STATUS_TARGET = 2 ∧ t.get Fl.PWR_STATUS_RESULT = 0 ∧ t.power = 3 ∧
      Changes dt [.hif, .pwr] [Fl.PWR_STATUS_BUSY, Fl.PWR_STATUS_TARGET, Fl.PWR_STATUS_RESULT] s t)

/-- Transitions that complete: at its millisecond the device enters RUN in role SYNCING and counts no paces yet; HARBOUR and
QUIET are reached at the write where no Tollgate commit is armed and no NVW command runs, QUIET with the local clock standing and
both bypasses released. Each shows DONE and raises HEALTH, and no transition is in progress. -/
def Parts.CompletedTransitions : Prop :=
  ∀ (dt m : Nat) (s : State), s.alive = true →
    let done (t : State) (p : Nat) : Prop := t.power = p ∧ t.get Fl.PWR_STATUS_RESULT = 1 ∧ t.is Fl.PWR_STATUS_BUSY = false ∧
      t.pwr.trans = none ∧ t.get (irqFld 16) = 1
    (s.pwr.trans = some ⟨3, some m⟩ → m * 1000000 ≤ (s.elapse dt).clk → ∃ t, exec (.runEntry dt) s = .next t ∧ done t 3 ∧
      t.role = 1 ∧ t.rd Reg.GLB_PACE = 0 ∧ t.cyc.pace = 0) ∧
    (HostTakes Reg.PWR_CMD s → s.power = 2 → s.role ≠ 4 → s.is Fl.PWR_STATUS_BUSY = false →
      (∃ t, exec (.pwrCmdHarbour dt true) s = .next t ∧ done t 4) ∧
      (s.is Fl.TG_NVW_STATUS_BUSY = false → ∃ t, exec (.pwrCmdQuiet dt true) s = .next t ∧ done t 5 ∧
        t.clock.running = false ∧ t.pins.bypA = false ∧ t.pins.bypB = false))

/-! ### Device resets and fatal faults (R3, R265, R430, R432, R434) -/

/-- A device reset leaves the device in BOOT with no role, every session key gone and the gate drives off, and keeps what lives
in NOR, MRAM and OTP: the NOR's bytes, the keys of OTP, the records of the log and the ownership epoch. VCORE_POWER_ON counts a
power cycle, RST_N_ASSERT does not and holds the device; RST_N_RELEASE samples ROLE_SEL, opens the units of BOOT and makes the
host port ready. -/
def Obligations.DeviceResetsKeepWhatIsNonvolatile : Prop :=
  ∀ (dt : Nat) (b : Bool) (s : State),
    let kept (t : State) : Prop := t.power = 1 ∧ t.role = 0 ∧ t.ldr.nor = s.ldr.nor ∧ t.sec.kek = s.sec.kek ∧ t.sec.dik = s.sec.dik ∧
      t.sec.rsk = s.sec.rsk ∧ t.sec.skeys = [] ∧ t.log.main = s.log.main ∧ t.log.tail = s.log.tail ∧ t.log.seals = s.log.seals ∧
      t.log.opsec = s.log.opsec ∧ t.hlt.selector = s.hlt.selector ∧ t.red.epochMram = s.red.epochMram ∧ t.pins.so = 0 ∧ t.pins.bypA = false ∧ t.pins.bypB = false
    (∃ t, exec (.vcorePowerOn dt b) s = .next t ∧ kept t ∧ t.alive = s.pwr.rstn ∧ t.is Fl.PWR_RESET_CAUSE_CAUSE = false ∧
      (s.log.pcc < 0xFFFFFF → t.log.pcc = s.log.pcc + 1) ∧ (s.log.pcc = 0xFFFFFF → t.log.pcc = s.log.pcc ∧ t.log.pccStuck = true)) ∧
    (s.pwr.rstn = true → ∃ t, exec (.rstNAssert dt) s = .next t ∧ kept t ∧ t.alive = false ∧ t.log.pcc = s.log.pcc ∧
      t.is Fl.PWR_RESET_CAUSE_CAUSE = true) ∧
    (s.pwr.rstn = false → ∃ t, exec (.rstNRelease dt b) s = .next t ∧ t.pwr = { s.pwr with rstn := true, releasedAt := s.now + dt } ∧ t.pins.roleSel = b ∧
      t.pins.hRdy = true ∧ (∀ u ∈ [1, 18, 19, 20, 21, 22], t.isOpen u = true ∧ t.rd (Reg.FAB_INCARN (u - 1)) = 1) ∧
      t.log = { s.log with secAt := s.now + dt } ∧ t.sec = s.sec ∧ t.ldr = s.ldr)

/-- The commands by which a fatal fault is found, each with the condition under which it is: a health fault not yet latched, of
the fabric when a pace-critical port's tag has stayed out for 10 ms, of the map at boot; a Kerb fault that the technology which
finds it has not yet latched, with 2 ms of an oscillator that may be 10 % fast for the strobe and the mailboxes. -/
def fatalTable (dt : Nat) (s : State) : List (Instr × Prop) :=
  [(.healthFatal dt .uncorr, s.is Fl.HLT_STATUS_FATAL = false), (.healthFatal dt .fabric, s.is Fl.HLT_STATUS_FATAL = false ∧
      ∃ g, g ∈ s.fab.tags ∧ srcCritical g.op.src = true ∧ g.since + 10000000 ≤ s.now + dt),
    (.healthFatal dt .map, s.is Fl.HLT_STATUS_FATAL = false ∧ s.power = 1),
    (.kerbFatal dt .lockstep, s.kerbOn 0 = true ∧ s.krb.fatalP = false),
    (.kerbFatal dt .oscP, s.kerbOn 1 = true ∧ s.krb.fatalL = false),
    (.kerbFatal dt .oscL, s.kerbOn 0 = true ∧ s.krb.fatalP = false),
    (.kerbFatal dt .mem, s.kerbOn 0 = true ∧ s.krb.fatalP = false),
    (.paceLost dt, s.power = 3 ∧ s.krb.strobe + 1800000 ≤ s.now + dt ∧ s.kerbOn 1 = true ∧ s.krb.fatalL = false),
    (.exchangeTimeout dt 0, s.kerbOn 0 = true ∧ s.krb.mailL + 1800000 ≤ s.now + dt ∧ s.krb.fatalP = false),
    (.exchangeTimeout dt 1, s.kerbOn 1 = true ∧ s.krb.mailP + 1800000 ≤ s.now + dt ∧ s.krb.fatalL = false)]

/-- A fatal fault sets the role FAULTED, drives FAULT_N low, turns every gate drive off, releases both bypasses, so that the rings are OUT, and ends HB_OUT;
the power state stays, and a transition that has not taken effect is cancelled. -/
def Obligations.FatalFaultsTurnEverythingOff : Prop :=
  ∀ (dt : Nat) (s : State), s.alive = true → ∀ e ∈ fatalTable dt s, e.2 →
    ∃ t, exec e.1 s = .next t ∧ t.role = 4 ∧ t.is Fl.PWR_STATUS_FAULTED = true ∧ t.pins.faultN = false ∧ t.pins.so = 0 ∧
      t.pins.bypA = false ∧ t.pins.bypB = false ∧ t.pins.hbOut = false ∧ t.power = s.power ∧ t.pwr.trans = none ∧
      t.ldr = s.ldr ∧ t.sec = s.sec ∧ t.cyc = s.cyc ∧ t.ring = { s.ring with a := {}, b := {} } ∧
      ∀ r < 2, s.uidOpen (.ring r) = true → t.get (State.ringFld r) = 0

/-- An operation meets its target's answer; one without a free tag stalls in its port; a reply completes it only with the present
incarnation numbers. -/
def Obligations.OperationsReplyOrStall : Prop :=
  Parts.OperationMeetsItsTarget ∧ Parts.OperationWithoutATagStalls ∧ Parts.RepliesAreAcceptedByIncarnation

/-- A unit closes by a reset or a park, and reopens at its boundary with the next incarnation number. -/
def Obligations.UnitsCloseAndReopen : Prop :=
  Parts.ReopeningGivesANewIncarnation ∧ Parts.ParkAndUnpark ∧ Parts.UnitResetClosesTheUnit

/-- Accepted power commands wait for their boundary, and the boundary completes them. -/
def Obligations.PowerTransitionsAreScheduledAndComplete : Prop :=
  Parts.RunCommandsAreScheduled ∧ Parts.CompletedTransitions

/-! ### The station-keeping cycle (R30 to R50) -/

/-- The commands that stand for the marks of a pace, a leg and a stage, with their mark codes (R69; 12 ends the Kerb
checks). -/
def markTable (dt ns : Nat) (b : Bool) (gclk : Option Int) (agree : List Nat) (vec : List VecSig) (sats : List SatView) :
    List (Instr × Nat) :=
  [(.commitMark dt, 1), (.allocationMark dt, 2), (.commandMark dt, 3), (.endMark dt ns, 4), (.legBoundary dt gclk agree vec, 5),
    (.observerMark dt b, 6), (.envelopeMark dt b, 7), (.demandMark dt b, 8), (.classHDeadline dt b, 9), (.stageBoundary dt sats, 10),
    (.gateMark dt, 11), (.kerbChecksEnd dt, 12)]

/-- Each mark is met at most once in a pace and before its end mark, not in BOOT or QUIET, and not on a count that an adoption
of the active's cycle voided: outside that nothing but time passes (the model's choice of what such an event does, log entry 10). -/
def Parts.MarksPassOnceInAPace : Prop :=
  ∀ (dt ns : Nat) (b : Bool) (gclk : Option Int) (agree : List Nat) (vec : List VecSig) (sats : List SatView) (s : State),
    ∀ e ∈ markTable dt ns b gclk agree vec sats,
      (s.cyc.voided = true ∨ e.2 ∈ s.cyc.marks ∨ 4 ∈ s.cyc.marks ∨ s.power = 1 ∨ s.power = 5) →
      exec e.1 s = .next (settle s.pending (s.elapse dt))

/-- A boundary of the cycle falls on this instant: the device runs in READY, RUN or HARBOUR and its cycle timer expires (R301). -/
abbrev CycleInstant (dt : Nat) (s : State) : Prop := s.alive = true ∧ 2 ≤ s.power ∧ s.power ≤ 4 ∧ (s.elapse dt).timerDue = true

/-- Every pace boundary starts the marks of its pace afresh and ends a voided count. With no freeze in force the latest complete
bank of the pace-coherent class becomes visible and its epoch with it; a freeze in RUN keeps the bank for one boundary less. The
leg and stage phases advance, and at pace index 5 the demand in force is the committed one. Outside RUN the pace number is 0, and
in RUN too while the device waits for its first owner; elsewhere it advances by 1. A working epoch that is due starts here: pace
number, leg and stage phase 0. -/
def Obligations.PacesBegin : Prop :=
  ∀ (dt : Nat) (s : State), CycleInstant dt s →
    (∃ t, exec (.paceBoundary dt) s = .next t ∧ t.cyc.marks = [] ∧ t.cyc.boundaryAt = s.now + dt ∧
      t.pace.complete = s.pace.complete ∧ t.legB.complete = s.legB.complete ∧ (s.red.exch = none → t.cyc.voided = false)) ∧
    (s.freeze = none → ∃ t, exec (.paceBoundary dt) s = .next t ∧ t.pace.visible = s.pace.complete ∧
      t.pace.visEpoch = s.pace.compEpoch ∧ t.freeze = none ∧ t.legB = s.legB) ∧
    (∀ n, s.freeze = some (n + 2) → s.power = 3 → s.pwr.trans = none → s.is Fl.PWR_STATUS_LEAVING = false →
      ∃ t, exec (.paceBoundary dt) s = .next t ∧ t.pace = s.pace ∧ t.freeze = some (n + 1)) ∧
    (s.cyc.epochDue = true → ∃ t, exec (.paceBoundary dt) s = .next t ∧ t.cyc.pace = 0 ∧ t.cyc.leg = 0 ∧ t.cyc.stage = 0 ∧
      t.cyc.epochDue = false ∧ t.red.takenPace = 0) ∧
    (s.cyc.epochDue = false → ∃ t, exec (.paceBoundary dt) s = .next t ∧ t.cyc.leg = (s.cyc.leg + 1) % s.legPaces ∧
      t.cyc.stage = (if (s.cyc.leg + 1) % s.legPaces = 0 then (s.cyc.stage + 1) % s.stageLegs else s.cyc.stage) ∧
      (t.cyc.leg = 5 % s.legPaces → t.loop.tau = (List.range 3).map (fun k => sInt (t.rd (Reg.LOOP_TAU k)))) ∧
      (t.cyc.leg ≠ 5 % s.legPaces → t.loop.tau = s.loop.tau)) ∧
    (s.power ≠ 3 ∨ (s.role = 1 ∧ s.red.heardOwner = false) → ∃ t, exec (.paceBoundary dt) s = .next t ∧ t.cyc.pace = 0) ∧
    (s.power = 3 → s.role ≠ 1 ∨ s.red.heardOwner = true → s.cyc.epochDue = false → s.pwr.trans = none →
      s.is Fl.PWR_STATUS_LEAVING = false →
      ∃ t, exec (.paceBoundary dt) s = .next t ∧ t.cyc.pace = (s.cyc.pace + 1) % 2 ^ 32 ∧ t.rd Reg.GLB_PACE = (s.cyc.pace + 1) % 2 ^ 32)

/-- The ring-cycle boundary counts the cycles of the pace; with the ring controller open its instant is the one from which the
cycle's frames are judged. -/
def Parts.RingCyclesAreCounted : Prop :=
  ∀ (dt : Nat) (s : State), CycleInstant dt s →
    ∃ t, exec (.ringCycleBoundary dt) s = .next t ∧ t.cyc.sub = (s.cyc.sub + 1) % s.cyclesPerPace ∧ t.cyc.marks = s.cyc.marks ∧
      t.cyc.pace = s.cyc.pace ∧ (s.isOpen 16 = true → t.ring.boundAt = s.now + dt)

/-- A mark of a pace with pace work, met for the first time. -/
abbrev PaceMark (code : Nat) (s : State) : Prop := s.alive = true ∧ s.paceWork = true ∧ s.markOpen code = true

/-- The commit mark: a run-ahead result that meets every condition is the pace's own and every provisional thing of it is
committed; otherwise it is dropped and the pace's problem is assembled from the measured values and the demand in force. -/
def Obligations.CommitMarkCommitsOrSolvesAgain : Prop :=
  ∀ (dt : Nat) (s : State), PaceMark 1 s → s.isOpen 4 = true →
    (s.aheadGood = true → s.fab.aheadBroken = false → ∃ t, exec (.commitMark dt) s = .next t ∧ t.cyc.marks = s.cyc.marks ++ [1] ∧
      t.alc.src = 0 ∧ t.alc.prob = none ∧ t.alc.res = s.alc.aheadRes ∧ t.alc.done = !s.is Fl.ALC_CTL_FORCE_FALLBACK ∧
      t.krb.pre = [] ∧ (s.fab.stalled = [] → t.fab.shadows = [] ∧ ∀ g ∈ t.fab.tags, g.prov = false)) ∧
    (s.aheadGood = false ∨ s.fab.aheadBroken = true → ∃ t, exec (.commitMark dt) s = .next t ∧
      t.cyc.marks = s.cyc.marks ++ [1] ∧ t.alc.src = 1 ∧ t.alc.res = none ∧ t.alc.ahead = none ∧
      ∃ b, t.alc.prob = some ⟨s.alc.meas, s.loop.tau, b, s.now + dt⟩)

/-- The allocation mark passes in every form. With FORCE_FALLBACK set, SOURCE is the fallback's, no cause is shown, and a run of
misses ends. A result that is accepted is the pace's allocation: its commands stand in the lanes' registers, its cost and time are shown, and the
next problem starts from it. Without one the pace is a miss: its cause is NOT_DONE, that of the result, or CLOSED with the solver's
ports closed; it is counted and interrupts, and the third in a row raises the allocation level above the detour level. -/
def Parts.AllocationMarkAcceptsOrCountsAMiss : Prop :=
  ∀ (dt : Nat) (s : State), PaceMark 2 s →
    (∃ t, exec (.allocationMark dt) s = .next t ∧ t.cyc.marks = s.cyc.marks ++ [2] ∧ (s.isOpen 4 = false → t.alc = s.alc)) ∧
    (s.isOpen 4 = true →
      (s.is Fl.ALC_CTL_FORCE_FALLBACK = true → s.fab.stalled = [] → ∃ t, exec (.allocationMark dt) s = .next t ∧
        t.get Fl.ALC_STATUS_SOURCE = (if s.alc.mat = none then 3 else 2) ∧ t.get Fl.ALC_STATUS_MISS_CAUSE = 0 ∧
        t.alc.missRun = 0 ∧ t.alc.prob = none ∧ t.alc.res = none) ∧
      (∀ r, s.alc.res = some r → s.is Fl.ALC_CTL_FORCE_FALLBACK = false → r.cause = 0 → s.isOpen 3 = true ∨ s.alc.done = true →
        ∃ t, exec (.allocationMark dt) s = .next t ∧ t.get Fl.ALC_STATUS_MISS_CAUSE = 0 ∧ t.rd Reg.ALC_J = r.j % 2 ^ 32 ∧
          t.rd Reg.ALC_SOLVE_T = min 0xFFFF r.time ∧ t.alc.prob = none ∧ t.alc.res = none ∧ t.alc.solveT = some r.time ∧
          (s.alc.done = false → t.alc.missRun = 0 ∧ t.alc.warm = r.warm ∧
            ((r.cmds.map (·.1)).Nodup → ∀ c ∈ r.cmds, c.1 < 64 → c.1 ∈ s.alc.avail → t.rd (Reg.ALC_LANE_CMD_ANG c.1) = c.2.1 % 2 ^ 32 ∧
              t.rd (Reg.ALC_LANE_CMD_T c.1) = uInt c.2.2))) ∧
      (∀ c < 16, s.is Fl.ALC_CTL_FORCE_FALLBACK = false → s.fab.stalled = [] →
          (s.isOpen 3 = false ∧ s.alc.done = false ∧ c = 4) ∨ ((s.isOpen 3 = true ∨ s.alc.done = true) ∧ c ≠ 0 ∧
            ((s.alc.res = none ∧ c = 1) ∨ ∃ r, s.alc.res = some r ∧ r.cause = c)) →
        ∃ t, exec (.allocationMark dt) s = .next t ∧ t.get Fl.ALC_STATUS_MISS_CAUSE = c ∧ t.get (irqFld 1) = 1 ∧
          Counted Reg.ALC_MISS s t ∧ t.alc.missAt = s.now + dt ∧ t.alc.prob = none ∧ t.alc.solveT = none ∧
          (s.alc.missRun < 2 → t.alc.missRun = s.alc.missRun + 1 ∧ t.alc.level = s.alc.level) ∧
          (2 ≤ s.alc.missRun → t.alc.missRun = 0 ∧ t.alc.level = min 3 (s.get Fl.FUS_DETOUR_LEVEL + 1))))

/-- The fields that the end of a class-A solve writes. -/
def slvAFlds : List Fld :=
  [cntFld Reg.SLV_A_PIVOT_REG, cntFld Reg.SLV_A_PIVOT_ZERO, cntFld Reg.SLV_A_OVF, Fl.SLV_FLAGS_A_PIVOT_REG,
    Fl.SLV_FLAGS_A_PIVOT_ZERO, Fl.SLV_FLAGS_A_OVF, Fl.SLV_STATUS_A_BUSY]

/-- What every class-A result holds: at most 24 iterations, no cause, OVERFLOW or ITER_LIMIT, the time since its request in 100 ns,
and a mode for each lane of its problem. -/
def IsResult (dt : Nat) (s : State) (p : AlcProb) (r : AlcRes) : Prop :=
  r.iters ≤ 24 ∧ (r.cause = 0 ∨ r.cause = 2 ∨ r.cause = 3) ∧ r.time = (s.now + dt - p.asked) / 100 ∧
    r.modes.map (·.1) = p.lanes.map (·.n)

/-- A class-A solve ends: the pace's own problem has its result, or, once the commit mark has passed, the run-ahead's has,
and its commands pass the Kerb's pre-check. With the solver's ports closed there is none. An overflow sets its flag and is counted. -/
def Parts.SolvesEnd : Prop :=
  ∀ (dt : Nat) (s : State), UnitTakes 4 s →
    (∀ p, s.alc.prob = some p → s.isOpen 3 = true → s.alc.res = none →
      ∃ t r, exec (.allocationSolveDone dt) s = .next t ∧ t.alc = { s.alc with res := some r } ∧ IsResult dt s p r ∧
        (r.cause = 2 → t.is Fl.SLV_FLAGS_A_OVF = true ∧ Counted Reg.SLV_A_OVF s t) ∧ Changes dt [.alc] slvAFlds s t) ∧
    (∀ p, s.alc.ahead = some p → s.isOpen 3 = true → s.alc.prob = none → 1 ∈ s.cyc.marks → s.alc.aheadRes = none →
      ∃ t r, exec (.allocationSolveDone dt) s = .next t ∧ t.alc = { s.alc with aheadRes := some r } ∧ IsResult dt s p r ∧
        Changes dt [.alc, .krb] [Fl.SLV_STATUS_A_BUSY] s t) ∧
    (s.isOpen 3 = false → exec (.allocationSolveDone dt) s = .next (settle s.pending (s.elapse dt)))

/-- The allocation level falls by one when its hold has passed since its last change and since the last miss. -/
def Parts.AllocationLevelFalls : Prop :=
  ∀ (dt : Nat) (s : State), UnitTakes 4 s → 0 < s.alc.level →
    max s.alc.changedAt s.alc.missAt + s.get ⟨Reg.ALC_LEVEL_HOLD, 15, 0⟩ * 1000000000 ≤ s.now + dt →
    ∃ t, exec (.alcLevelHoldExpiry dt) s = .next t ∧
      t.alc = { s.alc with level := s.alc.level - 1, changedAt := s.now + dt } ∧ Changes dt [.alc] [] s t

/-- The command mark gives every enabled lane that is not OFF its command: an ACTIVE main lane the pace's allocation, a HELD lane
or one in FAULT its measured azimuth and no thrust; and the ring controller gets the 24-byte record of each such lane that is not
withheld (R307). With the lane controller closed the mark only passes. -/
def Obligations.CommandMarkHandsOverCommands : Prop :=
  ∀ (dt : Nat) (s : State), PaceMark 3 s →
    (s.isOpen 13 = false → ∃ t, exec (.commandMark dt) s = .next t ∧ t.cyc.marks = s.cyc.marks ++ [3] ∧ t.ring = s.ring) ∧
    (s.isOpen 13 = true → ∃ t, exec (.commandMark dt) s = .next t ∧ t.cyc.marks = s.cyc.marks ++ [3] ∧
      ∀ n ∈ s.lanesOn, s.laneState n ≠ 0 →
        (s.laneState n = 2 → laneKind s n ≠ 4 → t.rd (Reg.LANE_CMD_AZ n) = s.rd (Reg.ALC_LANE_CMD_ANG n) ∧
          t.rd (Reg.LANE_CMD_T n) = s.rd (Reg.ALC_LANE_CMD_T n)) ∧
        (s.laneState n ≠ 2 → s.laneState n ≠ 3 → t.rd (Reg.LANE_CMD_AZ n) = s.rd (Reg.LANE_AZ n) ∧ t.rd (Reg.LANE_CMD_T n) = 0) ∧
        (n ∉ s.lanes.withheld → ∃ a b : List Nat, t.ring.cmdOut = some (a ++
          ([s.get (Fl.LANE_CMD_DEST_CMD_INDEX n), s.laneState n, 0, 0] ++ toBE 4 (t.rd (Reg.LANE_CMD_AZ n)) ++
            toBE 4 (t.rd (Reg.LANE_CMD_T n)) ++ toBE 4 (t.rd (Reg.LANE_U_AZ n)) ++ toBE 4 (t.rd (Reg.LANE_U_T n)) ++
            toBE 4 s.cyc.pace) ++ b)))

/-- The end mark completes an epoch of the pace-coherent class; the last one of a leg completes the leg-coherent class too. What
the host sees does not change there. The epoch is the pace's own and the leg's first pace; a standby's is that of the Milestone it
has applied. -/
def Obligations.EndMarkCompletesTheEpoch : Prop :=
  ∀ (dt ns : Nat) (s : State), s.alive = true → s.markOpen 4 = true →
    ∃ t, exec (.endMark dt ns) s = .next t ∧ t.cyc = { s.cyc with marks := s.cyc.marks ++ [4] } ∧
      (∃ e, t.pace = { s.pace with complete := t.regs, compEpoch := e } ∧ (s.role ≠ 2 → e = s.cyc.pace) ∧
        ∀ n, s.red.fastApplied = some n → s.role = 2 → s.red.loaded = true → e = n) ∧
      (s.cyc.leg + 1 = s.legPaces → ∃ e, t.legB = { s.legB with complete := t.regs, compEpoch := e } ∧
        (s.role ≠ 2 → e = s.cyc.legPace) ∧ (s.role = 2 → s.red.loaded = true → e = s.rd Reg.RED_MS_FULL)) ∧
      (s.cyc.leg + 1 ≠ s.legPaces → t.legB = s.legB)

/-- The leg boundary flips the leg-coherent bank and raises LEG unless a freeze keeps the bank; the leg's observer mark is still
to come. -/
def Parts.LegBoundaryFlipsTheLegBank : Prop :=
  ∀ (dt : Nat) (gclk : Option Int) (agree : List Nat) (vec : List VecSig) (s : State), s.alive = true → s.legOpen 5 0 = true →
    (s.freeze = none → ∃ t, exec (.legBoundary dt gclk agree vec) s = .next t ∧ t.get (irqFld 0) = 1 ∧ t.pace = s.pace ∧
      t.legB = { s.legB with visible := s.legB.complete, visEpoch := s.legB.compEpoch } ∧
      t.cyc = { s.cyc with marks := s.cyc.marks ++ [5], obsMet := false }) ∧
    (s.freeze ≠ none → ∃ t, exec (.legBoundary dt gclk agree vec) s = .next t ∧ t.pace = s.pace ∧ t.legB = s.legB ∧
      t.cyc = { s.cyc with marks := s.cyc.marks ++ [5], obsMet := false })

/-- The marks of a leg that are met in time, with the engines of their graphs open: the gate mark takes the leg's inputs, the observer
mark commits and is noted for the next leg and for the Milestone, the envelope mark commits the envelope and a fallback matrix, and
the demand mark the blend of the classic and the planned force, or the joystick's. -/
def Parts.LegMarksCommit : Prop :=
  ∀ (dt : Nat) (s : State), s.alive = true →
    (s.legWork = true → s.legOpen 11 0 = true → ∃ t, exec (.gateMark dt) s = .next t ∧ t.cyc.marks = s.cyc.marks ++ [11] ∧
      (s.isOpen 9 = true → s.role ≠ 2 → t.fus.inputs = []) ∧ (s.isOpen 9 = false → t.fus.gated = [])) ∧
    (s.legWork = true → s.legOpen 6 2 = true → s.groupOpen 0 = true → ∃ t, exec (.observerMark dt false) s = .next t ∧
      t.cyc = { s.cyc with marks := s.cyc.marks ++ [6], obsMet := true } ∧ t.red.legMarks = s.red.legMarks ++ [6] ∧
      t.fus.gated = []) ∧
    (s.paceWork = true → s.legOpen 7 3 = true → s.groupOpen 3 = true → ∃ t, exec (.envelopeMark dt false) s = .next t ∧
      t.cyc.marks = s.cyc.marks ++ [7] ∧ t.red.legMarks = s.red.legMarks ++ [7] ∧ t.alc.mat.isSome = true ∧
      (∀ j < 32, s.envDirs ≤ j → t.rd (Reg.ALC_ENV j) = 0) ∧
      (s.cyc.stage = 0 → s.plannerOpen = true → s.fus.posSet = true → s.fus.hdgSet = true →
        t.hzn.warm.isSome = true ∧ t.hzn.from_ = s.now + dt ∧ t.hzn.done = 0 ∧ t.hzn.best = none ∧ t.hzn.run = s.isOpen 3)) ∧
    (s.paceWork = true → s.legOpen 8 3 = true → s.isOpen 6 = true → (∀ k < 3, s.lawValid k = true) →
      ∃ t, exec (.demandMark dt false) s = .next t ∧ t.cyc.marks = s.cyc.marks ++ [8] ∧ t.red.legMarks = s.red.legMarks ++ [8] ∧
      (s.lawMode ≠ 2 → ∀ k < 3, t.rd (Reg.LOOP_TAU k) = uInt (sat32 (sInt (t.rd (Reg.LOOP_TAU_CL k)) +
        divRound (t.rd Reg.LOOP_BLEND_W * (sInt (t.rd (Reg.LOOP_TAU_PL k)) - sInt (t.rd (Reg.LOOP_TAU_CL k)))) 32768))) ∧
      (s.lawMode ≠ 0 → t.rd Reg.LOOP_BLEND_W = 0) ∧
      (s.lawMode = 2 → s.loop.ramp = none → t.rd (Reg.LOOP_TAU 0) = s.rd Reg.LOOP_JOY_X ∧ t.rd (Reg.LOOP_TAU 1) = s.rd Reg.LOOP_JOY_Y ∧
        t.rd (Reg.LOOP_TAU 2) = s.rd Reg.LOOP_JOY_N))

/-- A late mark commits nothing of its own: what was committed before stays, the Milestone does not carry it, and the next
observer update knows of a late observer mark. A mark is late too while an engine of its graphs is closed, the demand mark while the loop
engine is. A late demand mark is counted with its code as the last one. -/
def Obligations.LateMarksKeepWhatWasCommitted : Prop :=
  ∀ (dt : Nat) (late : Bool) (s : State), s.alive = true →
    (s.legWork = true → s.legOpen 6 2 = true → late = true ∨ s.groupOpen 0 = false → ∃ t, exec (.observerMark dt late) s = .next t ∧
      t.cyc = { s.cyc with marks := s.cyc.marks ++ [6], obsMet := false } ∧ t.red = s.red ∧ t.fus.obs = s.fus.obs ∧
      t.rd Reg.FUS_EST_N = s.rd Reg.FUS_EST_N ∧ t.rd Reg.FUS_EST_HDG = s.rd Reg.FUS_EST_HDG) ∧
    (s.paceWork = true → s.legOpen 7 3 = true → late = true ∨ s.groupOpen 3 = false → ∃ t, exec (.envelopeMark dt late) s = .next t ∧
      t.cyc.marks = s.cyc.marks ++ [7] ∧ t.red = s.red ∧ t.alc = s.alc ∧ ∀ j < 32, t.rd (Reg.ALC_ENV j) = s.rd (Reg.ALC_ENV j)) ∧
    (s.paceWork = true → s.legOpen 8 3 = true → late = true ∨ s.isOpen 6 = false → ∃ t, exec (.demandMark dt late) s = .next t ∧
      t.cyc.marks = s.cyc.marks ++ [8] ∧ t.red = s.red ∧ (∀ k < 3, t.rd (Reg.LOOP_TAU k) = s.rd (Reg.LOOP_TAU k)) ∧
      t.rd Reg.LOOP_BLEND_W = s.rd Reg.LOOP_BLEND_W ∧ t.get Fl.HLT_LEG_OVERRUN_LAST_MARK = 8 ∧ Counted Reg.HLT_LEG_OVERRUN s t)

/-! ### The horizon planner (R224 to R241) -/

/-- Fields that a class-H iteration writes. -/
def slvHFlds : List Fld :=
  [cntFld Reg.SLV_H_PIVOT_REG, cntFld Reg.SLV_H_PIVOT_ZERO, cntFld Reg.SLV_H_OVF, whole Reg.SLV_FLAGS, Fl.SLV_STATUS_H_BUSY]

/-- The class-H deadline falls on this instant: it has not passed in this pace, which is the last but one of the last leg of the
stage (R41). -/
abbrev DeadlineInstant (s : State) : Prop :=
  PaceMark 9 s ∧ s.cyc.leg = s.legPaces - 2 ∧ s.cyc.stage + 1 = s.stageLegs

/-- The planner: an iteration is counted, and a converged one meets the tolerances, is the result and stops the solve, as the
iteration limit does. The deadline commits the best iterate, or the warm start where there is none, with its STATUS 1, 2 or 3, for
the next stage; nothing while the planner is closed. The stage boundary puts it in force; RESTORE waits for a stage boundary and
RESET_EST takes the image's values as the estimates at once. -/
def Obligations.PlannerStagesItsTrajectory : Prop :=
  ∀ (dt : Nat) (mid : Bool) (sats : List SatView) (s : State), s.alive = true →
    (∀ w, s.hzn.warm = some w → s.hzn.run = true → s.hzn.stopped = false → s.isOpen 3 = true → s.plannerOpen = true →
      ∃ t, exec (.hznIterationDone dt) s = .next t ∧ t.hzn.done = s.hzn.done + 1 ∧ t.hzn.warm = some w ∧
        (t.hzn.conv = true → ∃ x, t.hzn.best = some (s.hzn.done + 1, (x, s.now + dt)) ∧
          f32Q x.rp.toNat ≤ f32Q (s.rd Reg.HZN_TOL) ∧ f32Q x.rd.toNat ≤ f32Q (s.rd Reg.HZN_TOL) ∧
          f32Q x.mu.toNat ≤ f32Q (s.rd Reg.HZN_TOL_MU)) ∧
        (t.hzn.stopped = true ↔ t.hzn.conv = true ∨ s.rd Reg.HZN_MAX_ITER ≤ s.hzn.done + 1) ∧
        t.is Fl.SLV_STATUS_H_BUSY = !t.hzn.stopped ∧ Changes dt [.hzn] slvHFlds s t) ∧
    (∀ w, s.hzn.warm = some w → DeadlineInstant s → s.plannerOpen = true → s.isOpen 3 = true →
      ∃ t, exec (.classHDeadline dt mid) s = .next t ∧ t.cyc.marks = s.cyc.marks ++ [9] ∧ t.is Fl.SLV_STATUS_H_BUSY = false ∧
        t.hzn.run = false ∧ t.hzn.warm = none ∧ t.hzn.force = s.hzn.force ∧
        (s.hzn.best = none → s.hzn.conv = false → t.hzn.next = some ⟨State.planTau w.plan, s.get Fl.HZN_HORIZON_STEP, 3, w.rp, w.rd⟩ ∧
          t.get Fl.HZN_RESULT_STATUS = 3 ∧ t.rd Reg.HZN_RES_P = w.rp.toNat ∧ Counted Reg.HZN_NO_ITERATE s t) ∧
        (∀ k b e, s.hzn.best = some (k, (b, e)) →
          t.hzn.next = some ⟨State.planTau b.plan, s.get Fl.HZN_HORIZON_STEP, if s.hzn.conv then 1 else 2, b.rp, b.rd⟩ ∧
          t.get Fl.HZN_RESULT_STATUS = (if s.hzn.conv then 1 else 2) ∧ t.rd Reg.HZN_RES_P = b.rp.toNat ∧
          t.rd Reg.HZN_COST = b.j.toNat)) ∧
    (DeadlineInstant s → s.plannerOpen = false ∨ s.hzn.warm = none →
      ∃ t, exec (.classHDeadline dt mid) s = .next t ∧ t.cyc.marks = s.cyc.marks ++ [9] ∧ t.hzn.next = none ∧
        t.is Fl.SLV_STATUS_H_BUSY = false ∧ t.rd Reg.HZN_RESULT = s.rd Reg.HZN_RESULT) ∧
    (s.legOpen 10 0 = true → s.cyc.stage = 0 →
      ∃ t, exec (.stageBoundary dt sats) s = .next t ∧ t.cyc.marks = s.cyc.marks ++ [10] ∧
        (s.paceWork = true → t.hzn.force = s.hzn.next ∧ t.hzn.next = none)) ∧
    (HostTakes Reg.HZN_ID_CMD s →
      (∃ t, exec (.hznRestore dt) s = .next t ∧ t.hzn = { s.hzn with restore := true } ∧ Changes dt [.hzn] [] s t) ∧
      (∃ t, exec (.hznResetEst dt) s = .next t ∧ t.hzn = { s.hzn with legs := 0, cov := [] } ∧ t.rd Reg.HZN_ID_STATUS = 0 ∧
        (∀ p < 9, t.rd (Reg.HZN_ID_EST p) = s.rd (Reg.HZN_MODEL_IMG p)) ∧
        Changes dt [.hzn] (whole Reg.HZN_ID_STATUS :: wholes 9 Reg.HZN_ID_EST) s t))

/-- Ring cycles are counted and judged at their boundary, and each mark has its effect once in a pace. -/
def Obligations.RingCyclesAndMarksPassOnce : Prop :=
  Parts.MarksPassOnceInAPace ∧ Parts.RingCyclesAreCounted

/-- The leg boundary flips the leg bank and applies what waits for it; the leg's marks commit their values in order. -/
def Obligations.LegsBeginAndCommit : Prop :=
  Parts.LegBoundaryFlipsTheLegBank ∧ Parts.LegMarksCommit

/-- A class-A solve ends with its result, the allocation mark accepts it or counts a miss, and the allocation level falls again. -/
def Obligations.AllocationsAreSolvedAndMarked : Prop :=
  Parts.AllocationMarkAcceptsOrCountsAMiss ∧ Parts.SolvesEnd ∧ Parts.AllocationLevelFalls


/-! ### The host port (R15 to R21, R43 to R46, R406 to R418) -/

/-- No commit is armed and no freeze is in force: a host access finds nothing due. -/
abbrev HostQuiet (s : State) : Prop := s.tg.armed = none ∧ s.freeze = none

/-- The bases whose writes have a meaning of their own beside the value written. -/
def ownWrites : List Nat :=
  [Reg.PWR_PARK, Reg.LOOP_TEST_CTL, Reg.LOOP_CAP_CTL 0, Reg.FIR_COEF 0, Reg.FIR_CH_GD_INACT 0, Reg.GNS_FE_CMD, Reg.TIM_UTC,
    Reg.FB_CMP 0, Reg.FB_CMP_CTL 0, Reg.KRB_SO_EN, Reg.RING_CTL, Reg.RING_MGMT_TX_CTL, Reg.LOG_RD_INDEX, Reg.SEC_JTAG_CTL,
    Reg.HLT_MARGIN_SEL]

/-- The bases whose staged writes have one. -/
def ownStages : List Nat :=
  [Reg.LANE_CTL 0, Reg.LANE_AZ_SET 0, Reg.LOOP_SLOT_CTL 0, Reg.FIR_CH_FADE 0, Reg.LOOP_JOY_X, Reg.LOOP_JOY_Y, Reg.LOOP_JOY_N,
    Reg.SNS_TRIG_PERIOD 0, Reg.SNS_TRIG_PHASE 0, Reg.SNS_TRIG_CTL 0]

/-- The bases whose reads have one. -/
def ownReads : List Nat :=
  [Reg.GLB_SNAP_EPOCH, Reg.GLB_SNAP_LEG, Reg.GLB_DIE_LO, Reg.SNS_PORT_STATUS 0, Reg.LOOP_CAP_RDDATA 0, Reg.LOG_RD_DATA 0,
    Reg.SEC_EXPORT_DATA, Reg.TIM_NOW_NS, Reg.FIR_COEF 0, Reg.HIF_STALL_MAX]

/-- The bytes of a word on the port, least significant first. -/
def portBytes (v : Nat) : List Byte := (List.range 4).map (fun i => BitVec.ofNat 8 (v / 256 ^ i))

/-- A host write meets the first of its checks that fails: H_PRIV low at a privileged location, a closed unit, a staged block
that the Tollgate holds, an illegal value. None of them changes the register or stages anything; each sets its flag
and HIF_LAST_ERR with its cause and the address. -/
def Parts.RefusedWritesChangeNothingElse : Prop :=
  ∀ (dt addr : Nat) (w : Word) (p : Bool) (r : Row) (s : State), s.alive = true → HostQuiet s → findRow addr = some r →
    addr / 0x10000 ≠ 0x30 → addr < 2 ^ 24 →
    let last (t : State) (c : Nat) : Prop := t.get Fl.HIF_LAST_ERR_CAUSE = c ∧ t.get Fl.HIF_LAST_ERR_ADDR = addr
    (r.priv = true → s.hif.unprivRun < 15 → ∃ t, exec (.registerWrite dt addr w false) s = .next t ∧
      t.is Fl.HIF_STATUS_PRIV_REFUSED = true ∧ last t 3 ∧ t.hif.unprivRun = s.hif.unprivRun + 1 ∧
      Changes dt [.hif] [Fl.HIF_STATUS_PRIV_REFUSED, whole Reg.HIF_LAST_ERR, cntFld Reg.SEC_UNPRIV] s t) ∧
    (r.priv = false ∨ p = true → s.hostClosed addr = true → ∃ t, exec (.registerWrite dt addr w p) s = .next t ∧
      t.is Fl.HIF_STATUS_CLOSED_UNIT = true ∧ last t 1 ∧
      Changes dt [.hif] [Fl.HIF_STATUS_CLOSED_UNIT, whole Reg.HIF_LAST_ERR] s t) ∧
    (r.priv = false ∨ p = true → s.hostClosed addr = false → (r.acc = .rws ∧ s.tgLocks addr = true) ∨ r.legalOk w.toNat = false →
      ∃ t, exec (.registerWrite dt addr w p) s = .next t ∧ t.is Fl.HIF_STATUS_BAD_WRITE = true ∧ last t 2 ∧
        Changes dt [.hif] badFlds s t)

/-- The commands that touch a privileged location, each with H_PRIV low, and the location. -/
def privTable (dt n : Nat) (r : Bool) (u : Uid) (w : Word) : List (Instr × Nat) :=
  [(.feTransaction dt w false, Reg.GNS_FE_CMD), (.testGo dt w false, Reg.LOOP_TEST_CTL), (.testStop dt false, Reg.LOOP_TEST_CTL),
    (.krbAckLane dt n false, Reg.KRB_ACK), (.krbAckGroup dt n false, Reg.KRB_ACK), (.krbAckChClear dt n false, Reg.KRB_ACK),
    (.mgmtSend dt w false, Reg.RING_MGMT_TX_CTL), (.ringRelease dt n false, Reg.RING_CTL), (.ringLeave dt n false, Reg.RING_CTL),
    (.accept dt false, Reg.TIM_JUMP_CTL), (.exchange dt false, Reg.RED_CMD), (.assume dt false, Reg.RED_CMD),
    (.eraseSession dt false, Reg.SEC_CMD), (.eraseAll dt false, Reg.SEC_CMD), (.loadKek dt false, Reg.SEC_CMD),
    (.loadSkey dt n false, Reg.SEC_CMD), (.exportKey dt n r false, Reg.SEC_CMD), (.genDik dt r false, Reg.SEC_CMD),
    (.attest dt r false, Reg.SEC_CMD), (.secExportDataRead dt false, Reg.SEC_EXPORT_DATA), (.secAlarmClr dt w false, Reg.SEC_ALARM_CLR),
    (.secCntClr dt w false, Reg.SEC_CNT_CLR), (.mark dt false, Reg.LOG_CMD), (.logVerifyStart dt false, Reg.LOG_CMD),
    (.logClearStart dt false, Reg.LOG_CMD), (.program dt false, Reg.TG_NVW_CMD), (.erase dt false, Reg.TG_NVW_CMD),
    (.verify dt n false, Reg.TG_NVW_CMD), (.tgData dt w false, Reg.TG_DATA), (.clear dt false, Reg.TG_CMD), (.check dt false, Reg.TG_CMD),
    (.commit dt n false, Reg.TG_CMD), (.abort dt false, Reg.TG_CMD), (.pwrCmdRun dt false, Reg.PWR_CMD), (.pwrCmdReady dt false, Reg.PWR_CMD),
    (.pwrCmdHarbour dt false, Reg.PWR_CMD), (.pwrCmdQuiet dt false, Reg.PWR_CMD), (.unitPark dt u false, Reg.PWR_PARK),
    (.unitUnpark dt u false, Reg.PWR_PARK), (.unitReset dt n 0 false, Reg.PWR_UNIT_RESET), (.swap dt n false, Reg.HLT_VERGE_CMD),
    (.swapAbort dt false, Reg.HLT_VERGE_CMD)]

/-- With H_PRIV low a command at a privileged location has none of its effect: PRIV_REFUSED, HIF_LAST_ERR with cause 3 and the address,
SEC_UNPRIV counts, and the run of such accesses grows by one. -/
def Parts.UnprivilegedCommandsAreRefused : Prop :=
  ∀ (dt n : Nat) (r : Bool) (u : Uid) (w : Word) (s : State), s.alive = true → s.hif.unprivRun < 15 → s.tg.armed = none →
    ∀ e ∈ privTable dt n r u w, ∃ t, exec e.1 s = .next t ∧ t.is Fl.HIF_STATUS_PRIV_REFUSED = true ∧ t.get Fl.HIF_LAST_ERR_CAUSE = 3 ∧
      t.get Fl.HIF_LAST_ERR_ADDR = e.2 ∧ Counted Reg.SEC_UNPRIV s t ∧ t.hif.unprivRun = s.hif.unprivRun + 1 ∧
      Changes dt [.hif] [Fl.HIF_STATUS_PRIV_REFUSED, whole Reg.HIF_LAST_ERR, cntFld Reg.SEC_UNPRIV] s t

/-- A legal host write of an open unit acts by the register's access: RW takes the implemented, writable bits at once; RWS is held
for its boundary and the value in force stays; a written 1 clears a write-1-to-clear bit and no other; a read-only
register and a reserved location ignore it and set no flag. -/
def Parts.RegisterWritesFollowTheirAccess : Prop :=
  ∀ (dt addr : Nat) (w : Word) (s : State), HostTakes addr s → HostQuiet s → addr / 0x10000 ≠ 0x30 →
    (findRow addr = none → ∃ t, exec (.registerWrite dt addr w true) s = .next t ∧ Changes dt [] [] s t) ∧
    ∀ r, findRow addr = some r → r.legalOk w.toNat = true →
      (r.acc = .rw ∨ r.acc = .rwp → r.w1c = 0 → r.base ∉ ownWrites →
        r.base < Reg.LOOP_ORIGIN_LAT ∨ Reg.LOOP_ORIGIN_CTL < r.base →
        ∃ t, exec (.registerWrite dt addr w true) s = .next t ∧ t.rd addr = State.mergeWrite r (s.rd addr) w.toNat % 2 ^ 32 ∧
          t.staged = s.staged ∧ Changes dt [.hif] [whole addr] s t) ∧
      (r.acc = .rws → r.w1c = 0 → s.tgLocks addr = false → r.base ∉ ownStages → State.isSection r.base = false →
        ∃ t, exec (.registerWrite dt addr w true) s = .next t ∧
          t.staged = aSet s.staged addr (BitVec.ofNat 32 (State.mergeWrite r (s.rd addr) w.toNat)) ∧ t.rd addr = s.rd addr ∧
          Changes dt [.staged] [] s t) ∧
      (r.acc = .w1c ∨ r.acc = .ro ∨ r.acc = .ros ∨ r.acc = .rop →
        ∃ t, exec (.registerWrite dt addr w true) s = .next t ∧
          (∀ j < 32, (t.rd addr).testBit j = ((s.rd addr).testBit j && !(w.toNat.testBit j && r.w1c.testBit j))) ∧
          (r.cls = .pace → ∀ j < 32, (regGet t.pace.visible addr).getLsbD j =
            ((regGet s.pace.visible addr).getLsbD j && !(w.toNat.testBit j && r.w1c.testBit j))) ∧
          (r.w1c = 0 → t.pace = s.pace ∧ t.legB = s.legB ∧ t.rd addr = s.rd addr) ∧
          Changes dt [.hif, .pace, .legB] [whole addr] s t)

/-- A read of the low word of a 64-bit pair answers from the bank its class shows and latches the high word of the same bank
into the shadow, which a later read of the high word returns. -/
def Parts.LowWordLatchesTheHighWord : Prop :=
  ∀ (dt addr : Nat) (r : Row) (s : State), HostTakes addr s → HostQuiet s → findRow addr = some r → r.acc = .ros → r.base ∉ ownReads →
    State.isSection r.base = false → addr / 0x10000 < 0x20 →
    let hi : Word := match r.cls with
      | .pace => regGet s.pace.visible (addr + 4)
      | .leg => regGet s.legB.visible (addr + 4)
      | _ => regGet s.regs (addr + 4)
    ∃ t, exec (.rosLowRead dt addr false) s = .next t ∧ aGet t.shadows addr = some hi ∧ t.hif.miso = portBytes (s.shown addr) ∧
      (∀ q, findRow (addr + 4) = some q → q.acc = .ro → t.shown (addr + 4) = hi.toNat) ∧ Changes dt [.hif, .shadows] [] s t

/-- The fields of the freeze. -/
def snapFlds : List Fld :=
  [Fl.GLB_SNAP_STATUS_FROZEN, Fl.GLB_SNAP_STATUS_LEFT, whole Reg.GLB_SNAP_EPOCH, whole Reg.GLB_SNAP_LEG, Fl.HIF_STATUS_SNAP_EXPIRED,
    irqFld 18]

/-- Reading GLB_SNAP_EPOCH freezes the visible banks for 100 boundaries and answers their epoch; a second read neither renews
nor extends. A release makes the latest complete banks visible at once; with no freeze in force it changes nothing.
Outside RUN the milliseconds of the local clock expire a freeze, with SNAP_EXPIRED and its interrupt. -/
def Parts.SnapshotFreeze : Prop :=
  ∀ (dt n : Nat) (w : Word) (s : State), s.alive = true → s.tg.armed = none →
    let latest (t : State) : Prop := t.freeze = none ∧
      t.pace = { s.pace with visible := s.pace.complete, visEpoch := s.pace.compEpoch } ∧
      t.legB = { s.legB with visible := s.legB.complete, visEpoch := s.legB.compEpoch } ∧ t.is Fl.GLB_SNAP_STATUS_FROZEN = false
    (s.freeze = none → ∃ t, exec (.snapEpochRead dt) s = .next t ∧ t.freeze = some 100 ∧ t.hif.miso = portBytes s.pace.visEpoch ∧
      t.is Fl.GLB_SNAP_STATUS_FROZEN = true ∧ t.get Fl.GLB_SNAP_STATUS_LEFT = 100 ∧
      Changes dt [.freeze, .frozenMs, .hif] snapFlds s t) ∧
    (s.freeze = some n → s.inRun = true → ∃ t, exec (.snapEpochRead dt) s = .next t ∧ t.freeze = some n ∧
      t.hif.miso = portBytes s.pace.visEpoch ∧ Changes dt [.hif] snapFlds s t) ∧
    (s.freeze = some n → s.inRun = true → ∃ t, exec (.snapRelease dt w) s = .next t ∧ latest t ∧
      Changes dt [.freeze, .pace, .legB] snapFlds s t) ∧
    (s.freeze = none → ∃ t, exec (.snapRelease dt w) s = .next t ∧ Changes dt [] [] s t) ∧
    (s.freeze = some n → s.inRun = false → 1 ≤ n → n + s.frozenMs ≤ (s.elapse dt).ms →
      ∃ t, exec (.snapExpired dt) s = .next t ∧ latest t ∧ t.is Fl.HIF_STATUS_SNAP_EXPIRED = true ∧ t.get (irqFld 18) = 1 ∧
        Changes dt [.freeze, .pace, .legB] snapFlds s t)

/-- The bytes of a one-word WRITE frame, and of a one-word READ frame's header with its CRC. -/
def writeBytes (addr v : Nat) : Bytes :=
  let body := [0x80] ++ toBE 3 addr ++ [0] ++ (List.range 4).map (fun i => v / 256 ^ i % 256)
  body ++ toBE 2 (crc16 body)
def readBytes (addr : Nat) : Bytes := let head := [0x40] ++ toBE 3 addr ++ [0]; head ++ toBE 2 (crc16 head)

/-- A complete WRITE frame with its CRC applies its word and counts; a complete READ frame answers the status byte, zeros for the
header, the word least significant byte first and its CRC. -/
def Parts.FramesReadAndWriteWords : Prop :=
  ∀ (dt addr : Nat) (f : SpiIn) (r : Row) (s : State), HostTakes addr s → HostQuiet s → f.rdy = true → s.pins.hRdy = true →
    findRow addr = some r → r.priv = false → addr % 4 = 0 → addr / 0x10000 < 0x20 →
    (∀ w : Word, bytesNat f.mosi = writeBytes addr w.toNat → r.acc = .rw → r.w1c = 0 → r.legalOk w.toNat = true → r.base ∉ ownWrites →
      r.base < Reg.LOOP_ORIGIN_LAT ∨ Reg.LOOP_ORIGIN_CTL < r.base →
      ∃ t, exec (.writeFrame dt f) s = .next t ∧ t.rd addr = State.mergeWrite r (s.rd addr) w.toNat % 2 ^ 32 ∧
        t.hif.miso = (s.statusByte :: [0, 0, 0, 0]).map (BitVec.ofNat 8) ∧
        Changes dt [.hif] [whole addr, cntFld Reg.HIF_FRAMES, ⟨Reg.HIF_STALL_MAX, 15, 0⟩] s t) ∧
    ((bytesNat f.mosi).take 7 = readBytes addr → f.whole = true → r.base ∉ ownReads → State.isSection r.base = false → r.acc ≠ .ros →
      let data := (portBytes (s.shown addr)).map (·.toNat)
      ∃ t, exec (.readFrame dt f) s = .next t ∧
        t.hif.miso = (s.statusByte :: [0, 0, 0, 0, 0, 0] ++ data ++ toBE 2 (crc16 data)).map (BitVec.ofNat 8) ∧
        Changes dt [.hif] [cntFld Reg.HIF_FRAMES, ⟨Reg.HIF_STALL_MAX, 15, 0⟩] s t)

/-- A frame that breaks the format applies no word and reads none; it sets FRAME_ERR, counts in HIF_FRAME_ERRS and records cause
FRAME: one that begins while H_RDY is low, a WRITE whose header, length or CRC is wrong, a READ whose header CRC fails, which is
answered with zeros and the complement of their CRC. -/
def Parts.BadFramesChangeNothingElse : Prop :=
  ∀ (dt : Nat) (f : SpiIn) (s : State), s.alive = true → HostQuiet s → 4 ≤ f.mosi.length →
    let b := bytesNat f.mosi
    let n := frameWords b
    let bad (t : State) : Prop := t.is Fl.HIF_STATUS_FRAME_ERR = true ∧ t.get Fl.HIF_LAST_ERR_CAUSE = 4 ∧
      t.get Fl.HIF_LAST_ERR_ADDR = beAt b 1 3 % 2 ^ 24 ∧
      (s.get ⟨Reg.HIF_FRAME_ERRS, 15, 0⟩ < 0xFFFF → t.get ⟨Reg.HIF_FRAME_ERRS, 15, 0⟩ = s.get ⟨Reg.HIF_FRAME_ERRS, 15, 0⟩ + 1) ∧
      Changes dt [.hif] [Fl.HIF_STATUS_FRAME_ERR, whole Reg.HIF_LAST_ERR, cntFld Reg.HIF_FRAME_ERRS, ⟨Reg.HIF_STALL_MAX, 15, 0⟩] s t
    (f.rdy = false ∨ s.pins.hRdy = false → (∃ t, exec (.writeFrame dt f) s = .next t ∧ bad t) ∧
      ∃ t, exec (.readFrame dt f) s = .next t ∧ bad t) ∧
    (frameHeadOk b 2 = false ∨ b.length < 7 + 4 * n ∨ beAt b (5 + 4 * n) 2 ≠ crc16 (b.take (5 + 4 * n)) →
      ∃ t, exec (.writeFrame dt f) s = .next t ∧ bad t) ∧
    (f.rdy = true → s.pins.hRdy = true → frameHeadOk b 1 = true → 7 ≤ b.length → beAt b 5 2 ≠ crc16 (b.take 5) →
      let z := List.replicate (4 * n) 0
      ∃ t, exec (.readFrame dt f) s = .next t ∧ bad t ∧
        t.hif.miso = (s.statusByte :: [0, 0, 0, 0, 0, 0] ++ z ++ toBE 2 (crc16 z ^^^ 0xFFFF)).map (BitVec.ofNat 8))

/-- What the host reads together holds together: the latched high word of a pair, and the banks under a freeze. -/
def Obligations.HighWordsAndSnapshotsHold : Prop :=
  Parts.LowWordLatchesTheHighWord ∧ Parts.SnapshotFreeze

/-- A good frame carries its accesses; a bad one carries none and is reported. -/
def Obligations.FramesCarryAccesses : Prop :=
  Parts.FramesReadAndWriteWords ∧ Parts.BadFramesChangeNothingElse

/-- A host write acts by its register's access, or is refused with its flag and changes nothing else. -/
def Obligations.WritesFollowTheirAccessOrAreRefused : Prop :=
  Parts.RefusedWritesChangeNothingElse ∧ Parts.UnprivilegedCommandsAreRefused ∧ Parts.RegisterWritesFollowTheirAccess


/-! ### The event recorder (R393 to R405) -/

/-- The record that an event makes at the present state (R394): source, CODE, ARG and DATA given, with the flags beside the
time quality and the stuck counters. -/
def recordOf (s : State) (src code arg data fl : Nat) : LogRecord :=
  { source := src
    flags := s.get Fl.TIM_STATUS_QUALITY + (if s.log.opsecStuck then 4 else 0) + (if s.log.pccStuck then 8 else 0) + fl
    seq := (aGet s.log.seqs src).getD 0, code := code, pcc := s.log.pcc, arg := arg, opsec := s.log.opsec
    stamp := if s.get Fl.TIM_STATUS_QUALITY = 0 then 0 else s.clk, data := data, rep := 0 }

/-- The event equals the source's last record since the boot (R400). -/
def repeats (s : State) (src code arg data : Nat) : Prop :=
  ∃ x, aGet s.log.last src = some x ∧ x.entry.code = code ∧ x.entry.arg = arg ∧ x.entry.data = data

/-- A committed event becomes one record of the tail window, with its source's next SEQ, and of the main area as well, unless
that is full or being cleared: then it is TAIL_ONLY and counted in LOG_DROPPED. A repeat of the source's last record
counts in its REPEAT instead, and is CONTINUED in a record of its own once that one is sealed or overwritten. The
record that fills the main area sets FULL and raises LOG, and one that completes a block seals it. -/
def Obligations.EventsBecomeRecords : Prop :=
  ∀ (dt : Nat) (e : Event) (s : State), UnitTakes 18 s → e.source ∈ recordUnits → e.severity < 4 → 1 ≤ e.event → e.event < 2 ^ 14 → e.arg < 256 →
    e.data < 2 ^ 32 →
    let code := e.severity * 2 ^ 14 + e.event
    let tailOnly : Prop := s.log.full = true ∨ s.is Fl.LOG_STATUS_CLEARING = true
    ∃ t, exec (.logAppend dt e) s = .next t ∧ Changes dt [.log] logFlds s t ∧
      (¬ repeats s e.source code e.arg e.data →
        (¬ tailOnly → s.log.main.length + 1 < 16384 →
          let r := recordOf (s.elapse dt) e.source code e.arg e.data 0
          newest t = some r ∧ t.log.main = s.log.main ++ [r] ∧ t.log.tailCount = s.log.tailCount + 1 ∧
          aGet t.log.seqs e.source = some ((r.seq + 1) % 2 ^ 16) ∧ t.get Fl.LOG_STATUS_COUNT = s.log.main.length + 1 ∧
          ∀ k, s.sec.rsk = some k → s.log.main.length + 1 = 64 * (s.log.seals.length + 1) →
            t.log.seals = s.log.seals ++ [beNat (sealBlock k t.log (s.log.seals.length + 1) (sealPrev k s.log (s.log.seals.length + 1)))] ∧
            t.rd Reg.LOG_SEALED = s.log.seals.length + 1) ∧
        (¬ tailOnly → s.log.main.length + 1 = 16384 → t.log.full = true ∧ t.log.main.length = 16384 ∧ t.get (irqFld 15) = 1 ∧
          t.get (cntFld Reg.LOG_DROPPED) = s.get (cntFld Reg.LOG_DROPPED)) ∧
        (tailOnly → newest t = some (recordOf (s.elapse dt) e.source code e.arg e.data 32) ∧ t.log.main = s.log.main ∧
          (s.get ⟨Reg.LOG_DROPPED, 15, 0⟩ < 0xFFFF →
            t.get ⟨Reg.LOG_DROPPED, 15, 0⟩ = s.get ⟨Reg.LOG_DROPPED, 15, 0⟩ + 1))) ∧
      (∀ x, aGet s.log.last e.source = some x → x.entry.source = e.source → x.entry.code = code → x.entry.arg = e.arg →
        x.entry.data = e.data →
        let inOpen : Prop := ∀ i, x.main = some i → s.log.main.length / 64 ≤ i / 64
        (inOpen → s.log.tailCount ≤ x.tailAt + 256 →
          aGet t.log.last e.source = some { x with entry := { x.entry with rep := min 0xFFFF (x.entry.rep + 1) } } ∧
          t.log.tailCount = s.log.tailCount ∧ t.log.main.length = s.log.main.length ∧ t.log.seqs = s.log.seqs) ∧
        (¬ inOpen → ¬ tailOnly → s.log.main.length + 1 < 16384 →
          newest t = some (recordOf (s.elapse dt) e.source code e.arg e.data 16)))

/-- LOG_CMD and the readout: MARK records LOG_MARK in DATA; CLEAR in READY empties the main area and every seal but no tail, and
elsewhere sets BAD_WRITE; the clear ends with LOG_CLEARED at index 0 and the old count in DATA; the index write and
the read of the last word latch a record's 32 bytes, zeros for an empty slot. -/
def Parts.MarkClearAndReadout : Prop :=
  ∀ (dt : Nat) (w : Word) (s : State),
    (HostTakes Reg.LOG_CMD s → s.log.full = false → s.is Fl.LOG_STATUS_CLEARING = false → aGet s.log.last 21 = none →
      s.log.main.length + 1 < 16384 →
      ∃ t, exec (.mark dt true) s = .next t ∧ newest t = some (recordOf (s.elapse dt) 21 1 0 (s.rd Reg.LOG_MARK) 0) ∧
        t.log.main.length = s.log.main.length + 1 ∧ Changes dt [.log, .hif] logFlds s t) ∧
    (HostTakes Reg.LOG_CMD s → s.power ≠ 2 → ∃ t, exec (.logClearStart dt true) s = .next t ∧
      t.is Fl.HIF_STATUS_BAD_WRITE = true ∧ Changes dt [.hif] badFlds s t) ∧
    (HostTakes Reg.LOG_CMD s → s.power = 2 → s.is Fl.LOG_STATUS_CLEARING = false → ∃ t, exec (.logClearStart dt true) s = .next t ∧
      t.is Fl.LOG_STATUS_CLEARING = true ∧ t.log.main = [] ∧ t.log.seals = [] ∧ t.log.full = false ∧ t.log.tail = s.log.tail ∧
      t.log.seqs = s.log.seqs ∧ t.log.clearCount = s.log.main.length ∧ t.get Fl.LOG_STATUS_COUNT = 0 ∧ t.rd Reg.LOG_SEALED = 0 ∧
      Changes dt [.log, .hif] (Fl.LOG_STATUS_CLEARING :: logFlds) s t) ∧
    (s.alive = true → s.log.clearPending = true → s.log.main = [] → s.log.full = false → s.log.clearCount < 2 ^ 32 →
      ∃ t, exec (.logCleared dt) s = .next t ∧ t.is Fl.LOG_STATUS_CLEARING = false ∧
        t.log.main = [recordOf (s.elapse dt) 18 (2 ^ 14 + 1) 0 s.log.clearCount 0] ∧ t.log.clearPending = false ∧
        Changes dt [.log] (Fl.LOG_STATUS_CLEARING :: logFlds) s t) ∧
    (let shows (t : State) (i : Nat) : Prop := t.get Fl.LOG_RD_INDEX_INDEX = i ∧
        (t.is Fl.LOG_RD_INDEX_VALID = true ↔ (recAt s.log i).isSome = true) ∧
        ∀ k < 8, t.rd (Reg.LOG_RD_DATA k) = beAt (((recAt s.log i).map recBytes).getD (List.replicate 32 0)) (4 * k) 4
      let flds := [Fl.LOG_RD_INDEX_INDEX, Fl.LOG_RD_INDEX_VALID] ++ wholes 8 Reg.LOG_RD_DATA
      (HostTakes Reg.LOG_RD_INDEX s → ∃ t, exec (.logRdIndexWrite dt w) s = .next t ∧ shows t (w.toNat % 2 ^ 15) ∧
        Changes dt [] flds s t) ∧
      (HostTakes (Reg.LOG_RD_DATA 7) s → ∃ t, exec (.logRdDataRead dt) s = .next t ∧ t.hif.miso = portBytes (s.rd (Reg.LOG_RD_DATA 7)) ∧
        shows t ((s.get Fl.LOG_RD_INDEX_INDEX + 1) % 2 ^ 15) ∧ Changes dt [.hif] flds s t))

/-- A sealed block matches its seal. -/
def sealOk (rsk : Bytes) (l : Recorder) (k : Nat) : Prop := beNat (sealBlock rsk l k (sealPrev rsk l k)) = l.seals.getD (k - 1) 0

/-- VERIFY: refused without an RSK or while one runs; otherwise it runs, and ends with BAD and the first failing block minus 1,
else with KEY_LOST where blocks before FIRST_CHECKED were sealed under an erased key, else with OK. -/
def Parts.VerifyFindsTheFirstBadBlock : Prop :=
  ∀ (dt : Nat) (s : State),
    let flds := [Fl.LOG_VERIFY_DONE, Fl.LOG_VERIFY_BUSY, Fl.LOG_VERIFY_RESULT, Fl.LOG_VERIFY_FIRST_CHECKED, Fl.LOG_VERIFY_BLOCK]
    (HostTakes Reg.LOG_CMD s → ∃ t, exec (.logVerifyStart dt true) s = .next t ∧
      (s.sec.rsk = none ∨ s.is Fl.LOG_VERIFY_BUSY = true → t.get Fl.LOG_VERIFY_RESULT = 3 ∧
        t.is Fl.LOG_VERIFY_BUSY = s.is Fl.LOG_VERIFY_BUSY) ∧
      (s.sec.rsk.isSome = true → s.is Fl.LOG_VERIFY_BUSY = false →
        t.is Fl.LOG_VERIFY_BUSY = true ∧ t.is Fl.LOG_VERIFY_DONE = false) ∧ Changes dt [.hif] flds s t) ∧
    (∀ k, s.alive = true → s.is Fl.LOG_VERIFY_BUSY = true → s.sec.rsk = some k → 1 ≤ s.log.firstKeyed → s.log.seals.length ≤ 256 →
      ∃ t, exec (.logVerifyDone dt) s = .next t ∧ t.is Fl.LOG_VERIFY_BUSY = false ∧ t.is Fl.LOG_VERIFY_DONE = true ∧
        ((∀ b, s.log.firstKeyed ≤ b → b ≤ s.log.seals.length → sealOk k s.log b) →
          t.get Fl.LOG_VERIFY_RESULT = if 1 < s.log.firstKeyed then 2 else 0) ∧
        (∀ b, s.log.firstKeyed ≤ b → b ≤ s.log.seals.length → ¬ sealOk k s.log b →
          (∀ c, s.log.firstKeyed ≤ c → c < b → sealOk k s.log c) →
          t.get Fl.LOG_VERIFY_RESULT = 1 ∧ t.get Fl.LOG_VERIFY_BLOCK = b - 1) ∧
        Changes dt [] flds s t)

/-- The recorder's own commands: MARK, clearing, readout and verification. -/
def Obligations.MarkReadoutAndVerify : Prop :=
  Parts.MarkClearAndReadout ∧ Parts.VerifyFindsTheFirstBadBlock


/-! ### The Tollgate (R375 to R379) -/

/-- No IMMEDIATE commit waits for its millisecond. -/
def NoCommitDue (s : State) : Prop := ∀ m, s.tg.armed ≠ some (0, m)

/-- The staging bank: TG_DATA appends TG_ADDR with its word, up to 4,096 entries, and beyond sets OVERFLOW; CLEAR empties the
bank; CHECK starts a check. TG_DATA and CHECK are refused while a check runs or a commit is armed. -/
def Parts.StagingBank : Prop :=
  ∀ (dt : Nat) (w : Word) (s : State), s.alive = true → s.isOpen 19 = true → NoCommitDue s →
    let busy : Prop := s.get Fl.TG_STATUS_STATE = 2 ∨ s.get Fl.TG_STATUS_STATE = 4
    let flds := [Fl.TG_STATUS_STATE, Fl.TG_STATUS_COUNT, Fl.TG_STATUS_OVERFLOW]
    (¬ busy → s.tg.entries.length < 4096 → ∃ t, exec (.tgData dt w true) s = .next t ∧
      t.tg = { s.tg with entries := s.tg.entries ++ [(s.rd Reg.TG_ADDR, w)] } ∧ t.get Fl.TG_STATUS_STATE = 1 ∧
      t.get Fl.TG_STATUS_COUNT = s.tg.entries.length + 1 ∧ Changes dt [.tg, .hif] flds s t) ∧
    (¬ busy → 4096 ≤ s.tg.entries.length → ∃ t, exec (.tgData dt w true) s = .next t ∧ t.is Fl.TG_STATUS_OVERFLOW = true ∧
      t.tg = s.tg ∧ Changes dt [.hif] flds s t) ∧
    (∃ t, exec (.clear dt true) s = .next t ∧ t.tg.entries = [] ∧ t.tg.armed = none ∧ t.get Fl.TG_STATUS_STATE = 0 ∧
      t.get Fl.TG_STATUS_COUNT = 0 ∧ t.is Fl.TG_STATUS_OVERFLOW = false ∧ Changes dt [.tg, .hif] flds s t) ∧
    (¬ busy → ∃ t, exec (.check dt true) s = .next t ∧ t.get Fl.TG_STATUS_STATE = 2 ∧ t.tg = s.tg ∧ Changes dt [.hif] flds s t) ∧
    (busy → (∃ t, exec (.tgData dt w true) s = .next t ∧ t.is Fl.HIF_STATUS_BAD_WRITE = true ∧ Changes dt [.hif] badFlds s t) ∧
      ∃ t, exec (.check dt true) s = .next t ∧ t.is Fl.HIF_STATUS_BAD_WRITE = true ∧ Changes dt [.hif] badFlds s t)

/-- The fields that the end of a check or of a commit writes. -/
def tgFlds : List Fld :=
  [Fl.TG_STATUS_STATE, Fl.TG_STATUS_COUNT, whole Reg.TG_RESULT, whole Reg.TG_DIGEST_HI, whole Reg.TG_DIGEST_LO, cntFld Reg.TG_FAILS,
    cntFld Reg.TG_COMMITS, irqFld 14]

/-- A check ends CHECKED with a clear TG_RESULT or FAILED with a code, and raises TOLLGATE: an overflowed bank fails with BANK_FULL, an
empty one passes, and a first entry whose target is not stageable fails as entry 0 with NOT_STAGED. TG_DIGEST takes the
SHA-256 of the entries. Nothing of the bank is applied. That an empty bank passes is the model's reading (log entry 60). -/
def Parts.ChecksEndWithAVerdict : Prop :=
  ∀ (dt : Nat) (s : State), UnitTakes 19 s → s.get Fl.TG_STATUS_STATE = 2 →
    ∃ t, exec (.tgCheckDone dt) s = .next t ∧ t.tg.entries = s.tg.entries ∧ t.get (irqFld 14) = 1 ∧
      (let d := sha256 (s.tg.entries.flatMap (fun e => toBE 4 e.1 ++ toBE 4 e.2.toNat))
       t.rd Reg.TG_DIGEST_HI = beAt d 0 4 ∧ t.rd Reg.TG_DIGEST_LO = beAt d 4 4) ∧
      ((t.get Fl.TG_STATUS_STATE = 3 ∧ t.rd Reg.TG_RESULT = 0) ∨ (t.get Fl.TG_STATUS_STATE = 6 ∧ t.get Fl.TG_RESULT_CODE ≠ 0)) ∧
      (s.is Fl.TG_STATUS_OVERFLOW = true → t.get Fl.TG_STATUS_STATE = 6 ∧ t.get Fl.TG_RESULT_CODE = 0x0305) ∧
      (s.is Fl.TG_STATUS_OVERFLOW = false → s.tg.entries = [] → t.get Fl.TG_STATUS_STATE = 3) ∧
      (s.is Fl.TG_STATUS_OVERFLOW = false → ∀ e, s.tg.entries.head? = some e → stageable s e = false →
        t.get Fl.TG_RESULT_CODE = 0x0301 ∧ t.get Fl.TG_RESULT_ENTRY = 0) ∧
      Changes dt [.tg, .log, .free] (tgFlds ++ logFlds) s t

/-- COMMIT is accepted only from CHECKED: outside RUN for the next whole millisecond, in RUN for a pace 2 to 2^20 ahead that is a
boundary of its kind. Any other is FAILED with BOUNDARY. ABORT of an armed commit cancels it; after it has taken effect it only
sets ABORT_LATE. What COMMIT does in the other states, and the state after ABORT, are the model's reading (log entry 60). -/
def Parts.CommitsAreArmedForABoundary : Prop :=
  ∀ (dt kind : Nat) (s : State), s.alive = true → s.isOpen 19 = true → NoCommitDue s →
    let w := s.rd Reg.TG_WHEN_PACE
    let d := (w + 2 ^ 32 - s.cyc.pace % 2 ^ 32) % 2 ^ 32
    let isBoundary : Prop := (kind = 1 ∨ (kind = 2 ∧ (s.cyc.leg + d) % s.legPaces = 0) ∨
      (kind = 3 ∧ (s.cyc.stage * s.legPaces + s.cyc.leg + d) % (s.legPaces * s.stageLegs) = 0))
    let armed (t : State) (p : Nat) : Prop := t.tg = { s.tg with armed := some (kind, p) } ∧ t.get Fl.TG_STATUS_STATE = 4 ∧
      Changes dt [.tg, .hif] tgFlds s t
    let refused (t : State) : Prop := t.tg = { s.tg with armed := none } ∧ t.get Fl.TG_STATUS_STATE = 6 ∧
      t.get Fl.TG_RESULT_CODE = 0x0306 ∧ Changes dt [.tg, .hif, .log, .free] (tgFlds ++ logFlds) s t
    (s.get Fl.TG_STATUS_STATE = 3 → kind = 0 → s.inRun = false →
      ∃ t, exec (.commit dt kind true) s = .next t ∧ armed t ((s.elapse dt).ms + 1)) ∧
    (s.get Fl.TG_STATUS_STATE = 3 → s.inRun = true → w ≠ 0 → 2 ≤ d → d ≤ 2 ^ 20 → isBoundary →
      ∃ t, exec (.commit dt kind true) s = .next t ∧ armed t w) ∧
    (kind < 4 → s.get Fl.TG_STATUS_STATE ≠ 3 ∨ (kind = 0 ∧ s.inRun = true) ∨ (kind ≠ 0 ∧ s.inRun = false) ∨
        (kind ≠ 0 ∧ w ≠ 0 ∧ (d < 2 ∨ 2 ^ 20 < d ∨ ¬ isBoundary)) →
      ∃ t, exec (.commit dt kind true) s = .next t ∧ refused t) ∧
    (s.get Fl.TG_STATUS_STATE = 4 → ∃ t, exec (.abort dt true) s = .next t ∧ t.tg = { s.tg with armed := none } ∧
      t.get Fl.TG_STATUS_STATE = 3 ∧ Changes dt [.tg, .hif] tgFlds s t) ∧
    (s.get Fl.TG_STATUS_STATE = 5 → ∃ t, exec (.abort dt true) s = .next t ∧ t.tg = s.tg ∧ t.is Fl.TG_STATUS_ABORT_LATE = true ∧
      Changes dt [.hif] [Fl.TG_STATUS_ABORT_LATE] s t)

/-- The bases whose value taken into force does more than change the register. -/
def ownCommits : List Nat :=
  [Reg.SNS_SMP_CFG, Reg.SNS_PORT_CFG 0, Reg.SNS_STR_LAT 0, Reg.GNS_CTL, Reg.GNS_BASE_X, Reg.GNS_BASE_Y, Reg.GNS_BASE_Z,
    Reg.GNS_BASE_TOL, Reg.HZN_HORIZON, Reg.TIM_SRC, Reg.FBK_PDIV_CFG 0, Reg.FB_CFG 0]

/-- At its boundary a commit applies every entry or, with a unit of an entry closed, none: an IMMEDIATE commit that is due at the
next host access (the release of no freeze), by itself and with one entry for a plain register. That the access finds it due is the model's choice (log entry 49). -/
def Parts.CommitsApplyAllOrNothing : Prop :=
  ∀ (dt m : Nat) (v : Word) (s : State), s.alive = true → s.tg.armed = some (0, m) → m * 1000000 ≤ (s.elapse dt).clk →
    s.freeze = none → s.tg.entries.length ≤ 4096 →
    (∀ i < s.tg.entries.length, s.uidOpen (tgUnit s (s.tg.entries.getD i (0, 0)).1) = false →
      (∀ j < i, s.uidOpen (tgUnit s (s.tg.entries.getD j (0, 0)).1) = true) →
      ∃ t, exec (.snapRelease dt v) s = .next t ∧ t.get Fl.TG_STATUS_STATE = 6 ∧ t.get Fl.TG_RESULT_CODE = 0x0307 ∧
        t.get Fl.TG_RESULT_ENTRY = i ∧ t.tg = { s.tg with armed := none } ∧ Changes dt [.tg, .log] (tgFlds ++ logFlds) s t) ∧
    (∀ a w r, s.tg.entries = [(a, w)] → a < 2 ^ 31 → findRow a = some r → r.acc = .rws → s.isOpen (unitOfAddr a) = true →
      r.base ∉ ownStages → r.base ∉ ownCommits → State.isSection r.base = false →
      ∃ t, exec (.snapRelease dt v) s = .next t ∧ t.rd a = State.mergeWrite r (s.rd a) w.toNat % 2 ^ 32 ∧
        t.get Fl.TG_STATUS_STATE = 5 ∧ t.tg.entries = [] ∧ t.tg.armed = none ∧ t.get (irqFld 14) = 1 ∧
        Changes dt [.tg, .log, .ldr] (whole a :: tgFlds ++ logFlds) s t)

/-! ### The NVW window and the boot (R353 to R356, R372) -/

/-- NVW: a write fills the program buffer at its offset in the row; PROGRAM and ERASE wait for no other command and spare the factory
slot's and the booted slot's blocks; an erased block reads 0xFF and no other byte changes; a programmed byte that was erased takes
the buffer's value; VERIFY reports the slot's code. Each completion clears BUSY and raises TOLLGATE. That the array changes at the completion, and
which bits of the address count, are the model's (log entries 45 and 46). -/
def Obligations.NvwCommands : Prop :=
  ∀ (dt off : Nat) (w : Word) (s : State), s.alive = true → s.isOpen 19 = true →
    (∃ t, exec (.nvwWrite dt off w true) s = .next t ∧
      (let o := off % 65536 / 4 * 4
       t.ldr.bufRow = o / 256 ∧ (∀ i < 4, aGet t.ldr.buf (o % 256 + i) = some (BitVec.ofNat 8 (w.toNat / 256 ^ i))) ∧
         ∀ k, k < o % 256 ∨ o % 256 + 4 ≤ k → aGet t.ldr.buf k = aGet s.ldr.buf k) ∧
      t.ldr.nor = s.ldr.nor ∧ Changes dt [.ldr, .hif] [] s t) ∧
    (let runs (t : State) (k a : Nat) : Prop := t.ldr.cmd = some (k, a) ∧ t.is Fl.TG_NVW_STATUS_BUSY = true ∧ t.ldr.nor = s.ldr.nor ∧
        Changes dt [.ldr, .hif] [Fl.TG_NVW_STATUS_BUSY, Fl.TG_NVW_STATUS_DONE] s t
     let refused (t : State) : Prop := t.is Fl.HIF_STATUS_BAD_WRITE = true ∧ Changes dt [.hif] badFlds s t
     let q := s.nvwAddr 0 / quarterOf s.ldr
     let shut : Prop := s.is Fl.TG_NVW_STATUS_BUSY = true ∨ q = 0 ∨ q = s.get Fl.TG_BOOT_SLOT
     (¬ shut → (∃ t, exec (.program dt true) s = .next t ∧ runs t 1 (s.nvwAddr (s.ldr.bufRow * 256)) ∧ t.ldr.progBuf = s.ldr.buf) ∧
       ∃ t, exec (.erase dt true) s = .next t ∧ runs t 2 (s.nvwAddr 0)) ∧
     (shut → (∃ t, exec (.program dt true) s = .next t ∧ refused t) ∧ ∃ t, exec (.erase dt true) s = .next t ∧ refused t) ∧
     (s.is Fl.TG_NVW_STATUS_BUSY = false → ∀ slot, slot = 1 ∨ slot = 2 → ∃ t, exec (.verify dt slot true) s = .next t ∧ runs t 3 slot)) ∧
    (∀ k a, s.ldr.cmd = some (k, a) → s.pwr.quietWait = false → ∃ t, exec (.nvwCommandDone dt) s = .next t ∧
      t.is Fl.TG_NVW_STATUS_BUSY = false ∧ t.get (irqFld 14) = 1 ∧ t.ldr.cmd = none ∧
      (k = 2 → ∀ b, norByte t.ldr b = if a ≤ b ∧ b < a + 65536 then 0xFF else norByte s.ldr b) ∧
      (k = 1 → ∀ b, b < a ∨ a + 256 ≤ b → norByte t.ldr b = norByte s.ldr b) ∧
      (k = 1 → ∀ i < 256, ∀ v : Byte, aGet s.ldr.progBuf i = some v → norByte s.ldr (a + i) = 0xFF → norByte t.ldr (a + i) = v.toNat) ∧
      (k = 3 → t.is Fl.TG_NVW_STATUS_DONE = true ∧ t.get Fl.TG_NVW_STATUS_CODE = slotCode (s.elapse dt) a % 65536 ∧ t.ldr.nor = s.ldr.nor) ∧
      Changes dt [.ldr, .free] [Fl.TG_NVW_STATUS_BUSY, Fl.TG_NVW_STATUS_DONE, Fl.TG_NVW_STATUS_CODE, irqFld 14] s t)

/-- What every boot does before it looks at the NOR: VKH is read, an erase and a clear that a reset cut short are repeated, and a
device without a recorder seal key draws one (R355, R380, R384, R402, R404). -/
def bootStart (dt : Nat) (s : State) : State := (s.elapse dt).otpRead.eraseAllDone.firstKey.cleared

/-- The headers of a boot, as its answers of the NOR leave them. -/
def bootHead (dt : Nat) (b : BootIn) (s : State) : State :=
  let s := bootStart dt s
  let s : State := { s with ldr := { s.ldr with density := b.density } }
  ((s.put Fl.TG_NOR_INFO_DENSITY b.density).put Fl.TG_NOR_INFO_JEDEC_ID b.jedec).bootHeaders

/-- The fields that a boot writes before it looks at the NOR. -/
def bootFlds : List Fld :=
  [Fl.TG_BOOT_FAILED, Fl.SEC_STATUS_RSK, Fl.LOG_STATUS_CLEARING] ++ wholes 8 Reg.SEC_VKH ++ logFlds ++ wholes 3 Reg.TG_SLOT_CODE

/-- BOOT_COMPLETE: a NOR that is not one of the accepted densities stops the boot with code 0x0100 in every slot; with no bootable
candidate the device stays in BOOT with FAILED; otherwise the first candidate in order that passes is booted, its image is
the working configuration, the device is in READY and BOOT_MS holds the time since the release of reset. Every boot reads VKH, and a
device that held no recorder seal key holds one afterwards. Outside a running boot nothing happens. That a refused NOR shows in all
three slots is the model's reading (log entry 61). -/
def Obligations.BootTakesTheFirstGoodCandidate : Prop :=
  ∀ (dt : Nat) (b : BootIn) (s : State), s.alive = true →
    (s.power ≠ 1 ∨ s.is Fl.TG_BOOT_FAILED = true → exec (.bootComplete dt b) s = .next (settle s.pending (s.elapse dt))) ∧
    (s.power = 1 → s.is Fl.TG_BOOT_FAILED = false → ∃ t, exec (.bootComplete dt b) s = .next t ∧
      (∀ i < 8, t.rd (Reg.SEC_VKH i) = beAt (toBE 32 Config.vkh) (4 * i) 4) ∧ t.sec.rsk.isSome = true ∧
      (∀ k, s.sec.rsk = some k → s.is Fl.SEC_STATUS_ERASE_PENDING = false → t.sec.rsk = some k)) ∧
    (s.power = 1 → s.is Fl.TG_BOOT_FAILED = false → s.role ≠ 4 → s.hlt.mapBad = false → s.is Fl.SEC_STATUS_ERASE_PENDING = false →
      s.sec.tamperLatch = false →
      let good : Prop := b.sfdpOk = true ∧ 25 ≤ b.density ∧ b.density ≤ 28
      let tried := (bootHead dt b s).bootTry (bootOrder (bootHead dt b s).ldr)
      (¬ good → ∃ t, exec (.bootComplete dt b) s = .next t ∧ t.is Fl.TG_BOOT_FAILED = true ∧ t.power = 1 ∧
        (∀ k < 3, t.get (Fl.TG_SLOT_CODE_CODE k) = 0x0100) ∧ Changes dt [.sec, .log, .free] bootFlds s t) ∧
      (good → (∀ e ∈ tried, e.2 ≠ 0) → ∃ t, exec (.bootComplete dt b) s = .next t ∧ t.is Fl.TG_BOOT_FAILED = true ∧ t.power = 1 ∧
        Changes dt [.ldr, .sec, .log, .free] (bootFlds ++ whole Reg.TG_NOR_INFO :: wholes 3 Reg.TG_SLOT_SEQ) s t) ∧
      (∀ k, good → tried.find? (fun e => e.2 == 0) = some (k, 0) → ∃ t, exec (.bootComplete dt b) s = .next t ∧ t.power = 2 ∧
        t.get Fl.TG_BOOT_SLOT = k ∧ t.get Fl.TG_BOOT_BOOT_MS = (s.now + dt - s.pwr.releasedAt) / 1000000 % 65536 ∧
        t.ldr.nor = s.ldr.nor ∧ t.ldr.digest = imageDigest (slotImage { s.ldr with density := b.density } k)))

/-- Entries are staged in the Tollgate's bank and checked with a verdict. -/
def Obligations.EntriesAreStagedAndChecked : Prop := Parts.StagingBank ∧ Parts.ChecksEndWithAVerdict

/-- A commit is armed for its boundary, and applies every entry there or none. -/
def Obligations.CommitsAreArmedAndApply : Prop := Parts.CommitsAreArmedForABoundary ∧ Parts.CommitsApplyAllOrNothing


/-! ### The security unit (R380 to R392) -/

/-- The commands that are triggers of the table, with their class. -/
def triggerTable (dt lowNs : Nat) : List (Instr × Nat) :=
  [(.tamperEvent dt lowNs, 0), (.supplyGlitch dt, 1), (.temperatureGlitch dt, 2), (.kerbOscAnomaly dt, 3)]

/-- A trigger is latched and acts by its grade in SEC_POLICY, every lower grade acting too: LOG makes a record, ALARM holds ALARM_N
low and interrupts, ERASE_SESSION zeroes the session keys and an export, ERASE_ALL writes ERASE_PENDING. While the unit is
parked the health manager holds the trigger, and without power the keep-alive latch holds TAMPER_N, until VKEEP is lost. The 16th
access in a row without H_PRIV fires trigger 6. -/
def Obligations.TriggersActByTheirGrade : Prop :=
  ∀ (dt lowNs : Nat) (s : State),
    (s.alive = true → ∀ e ∈ triggerTable dt lowNs,
      (s.isOpen 20 = true ∨ s.power = 1 →
        let g := s.rd Reg.SEC_POLICY / 4 ^ e.2 % 4
        ∃ t, exec e.1 s = .next t ∧ t.get ⟨Reg.SEC_STATUS, 16 + e.2, 16 + e.2⟩ = 1 ∧ t.get Fl.SEC_STATUS_GRADE = g ∧
          (1 ≤ g → t.get (irqFld 11) = 1 ∧ (s.power ≠ 1 → t.pins.alarmN = false)) ∧
          (2 ≤ g → t.sec.skeys = [] ∧ t.sec.exportQ = [] ∧ t.get Fl.SEC_STATUS_SKEY = 0) ∧ (g < 2 → t.sec.skeys = s.sec.skeys) ∧
          (3 ≤ g → t.is Fl.SEC_STATUS_ERASE_PENDING = true) ∧
          (g < 3 → t.is Fl.SEC_STATUS_ERASE_PENDING = s.is Fl.SEC_STATUS_ERASE_PENDING) ∧
          t.sec.kek = s.sec.kek ∧ t.sec.dik = s.sec.dik ∧ t.sec.rsk = s.sec.rsk ∧
          Changes dt [.sec, .log] (whole Reg.SEC_STATUS :: irqFld 11 :: logFlds) s t) ∧
      (s.isOpen 20 = false → s.power ≠ 1 → ∃ t, exec e.1 s = .next t ∧
        t.sec.quietTriggers = s.sec.quietTriggers ++ [e.2] ∧ t.sec.skeys = s.sec.skeys ∧ Changes dt [.sec] [] s t)) ∧
    (s.alive = true → s.isOpen 20 = true → s.hif.unprivRun = 15 → ∃ t, exec (.secExportDataRead dt false) s = .next t ∧
      t.get ⟨Reg.SEC_STATUS, 22, 22⟩ = 1 ∧ t.hif.unprivRun = 0) ∧
    (s.alive = false → ∃ t, exec (.tamperEvent dt lowNs) s = .next t ∧ t.sec.tamperLatch = true ∧ Changes dt [.sec] [] s t) ∧
    (∃ t, exec (.vkeepLoss dt) s = .next t ∧ t.sec.tamperLatch = false ∧ t.gns.retKeep = none ∧ Changes dt [.sec, .gns] [] s t)

/-- The fields that the security commands write. -/
def secFlds : List Fld :=
  [whole Reg.SEC_STATUS, whole Reg.SEC_RESULT, cntFld Reg.SEC_TAG_FAIL] ++ wholes 8 Reg.SEC_DIK_X ++ wholes 8 Reg.SEC_DIK_Y ++
    wholes 8 Reg.SEC_ATTEST_R ++ wholes 8 Reg.SEC_ATTEST_S

/-- The commands of SEC_CMD, each with its H_PRIV high. -/
def secCommands (dt slot : Nat) (r : Bool) : List Instr :=
  [.eraseSession dt true, .eraseAll dt true, .loadKek dt true, .loadSkey dt slot true, .exportKey dt slot r true, .genDik dt r true,
    .attest dt r true]

/-- A command of SEC_CMD while one runs is ignored with BUSY, and keys keep their rules: LOAD_KEK and GEN_DIK only in READY and
only once until an ERASE_ALL, LOAD_SKEY, EXPORT and ATTEST only with the key they need, and the generator's failure ends a
command with RNG. Nothing but the result code shows it. -/
def Parts.SecurityCommandsAreRefused : Prop :=
  ∀ (dt slot : Nat) (r : Bool) (s : State), HostTakes Reg.SEC_CMD s → slot < 4 →
    let busy := s.is Fl.SEC_RESULT_BUSY
    ∀ c ∈ secCommands dt slot r, ∀ code,
      ((busy = true ∧ code = 1) ∨ (busy = false ∧
        ((s.power ≠ 2 ∧ (c = .loadKek dt true ∨ c = .genDik dt r true) ∧ code = 2) ∨
         (s.power = 2 ∧ c = .loadKek dt true ∧ s.sec.kek.isSome = true ∧ code = 7) ∨
         (s.power = 2 ∧ c = .genDik dt r true ∧ s.sec.dik.isSome = true ∧ code = 7) ∨
         (s.power = 2 ∧ c = .genDik dt r true ∧ s.sec.dik = none ∧ r = false ∧ code = 5) ∨
         (c = .loadSkey dt slot true ∧ s.sec.kek = none ∧ code = 3) ∨
         (c = .exportKey dt slot r true ∧ aGet s.sec.skeys slot = none ∧ code = 3) ∨
         (c = .exportKey dt slot r true ∧ (aGet s.sec.skeys slot).isSome = true ∧ r = false ∧ code = 5) ∨
         (c = .attest dt r true ∧ s.sec.dik = none ∧ code = 3) ∨
         (c = .attest dt r true ∧ s.sec.dik.isSome = true ∧ r = false ∧ code = 5)))) →
      ∃ t, exec c s = .next t ∧ t.get Fl.SEC_RESULT_CODE = code ∧ t.sec = s.sec ∧ Changes dt [.hif] [Fl.SEC_RESULT_CODE] s t

/-- The commands of SEC_CMD that are carried out, each with result 0: the session keys erased; ERASE_ALL begun, with ERASE_PENDING and
BUSY; a KEK from its buffer; a session key unwrapped with its GCM tag, and TAG counted where the tag is wrong; an export of
the records under a session key; a fresh device identity key; a signature under way. -/
def Parts.SecurityCommandsAct : Prop :=
  ∀ (dt slot : Nat) (s : State), HostTakes Reg.SEC_CMD s → slot < 4 → s.is Fl.SEC_RESULT_BUSY = false →
    let ok (t : State) : Prop := t.get Fl.SEC_RESULT_CODE = 0 ∧ Changes dt [.sec, .hif, .free] secFlds s t
    (∃ t, exec (.eraseSession dt true) s = .next t ∧ ok t ∧ t.sec = { s.sec with skeys := [], exportQ := [] } ∧
      t.get Fl.SEC_STATUS_SKEY = 0) ∧
    (∃ t, exec (.eraseAll dt true) s = .next t ∧ ok t ∧ t.sec.skeys = [] ∧ t.sec.kek = s.sec.kek ∧ t.sec.hostErase = true ∧
      t.is Fl.SEC_STATUS_ERASE_PENDING = true ∧ t.is Fl.SEC_RESULT_BUSY = true) ∧
    (s.power = 2 → s.sec.kek = none → ∃ t, exec (.loadKek dt true) s = .next t ∧ ok t ∧
      t.sec = { s.sec with kek := some (bufBytes s.sec.kekBuf 8) } ∧ t.is Fl.SEC_STATUS_KEK = true) ∧
    (∀ kek, s.sec.kek = some kek →
      let b := bufBytes s.sec.skeyBuf 15
      let ct := (b.drop 12).take 32
      (gcmTag kek (b.take 12) [] ct = b.drop 44 → ∃ t, exec (.loadSkey dt slot true) s = .next t ∧ ok t ∧
        aGet t.sec.skeys slot = some (gcmCrypt kek (b.take 12) ct) ∧ t.get ⟨Reg.SEC_STATUS, 4 + slot, 4 + slot⟩ = 1) ∧
      (gcmTag kek (b.take 12) [] ct ≠ b.drop 44 → ∃ t, exec (.loadSkey dt slot true) s = .next t ∧
        t.get Fl.SEC_RESULT_CODE = 4 ∧ t.sec = s.sec ∧
        (s.get ⟨Reg.SEC_TAG_FAIL, 15, 0⟩ < 0xFFFF → t.get ⟨Reg.SEC_TAG_FAIL, 15, 0⟩ = s.get ⟨Reg.SEC_TAG_FAIL, 15, 0⟩ + 1) ∧
        Changes dt [.hif] secFlds s t)) ∧
    (∀ key, aGet s.sec.skeys slot = some key → ∃ t, exec (.exportKey dt slot true true) s = .next t ∧ ok t ∧
      t.sec.skeys = s.sec.skeys ∧
      (let first := s.rd Reg.SEC_EXPORT_FIRST
       let cnt := s.rd Reg.SEC_EXPORT_COUNT
       let txt := (List.range cnt).flatMap (fun i => ((recAt s.log (first + i)).map recBytes).getD (List.replicate 32 0))
       ∃ n < 2 ^ 96,
         let ct := gcmCrypt key (toBE 12 n) txt
         let out := toBE 12 n ++ ct ++ gcmTag key (toBE 12 n) (toBE 4 first ++ toBE 4 cnt ++ toBE 8 Config.dieId) ct
         t.sec.exportQ = (words32 (out.length / 4) out).map (BitVec.ofNat 32))) ∧
    (s.power = 2 → s.sec.dik = none → ∃ t, exec (.genDik dt true true) s = .next t ∧ ok t ∧ t.sec.dik.isSome = true ∧
      t.is Fl.SEC_STATUS_DIK = true) ∧
    (∀ d, s.sec.dik = some d → ∃ t, exec (.attest dt true true) s = .next t ∧ ok t ∧ t.sec.attest.isSome = true ∧
      t.is Fl.SEC_RESULT_BUSY = true)

/-- What ends later: SEC_ERASE leaves KEK and DIK gone, a fresh RSK and the log's next block as the first it seals, with a record;
ATTEST_DONE shows the signature and clears BUSY; a read of SEC_EXPORT_DATA takes the next word, and with H_PRIV low reads 0 and counts;
SEC_ALARM_CLR clears the named triggers whose cause has gone, with result 6 where one stays. -/
def Obligations.ErasesSignaturesAndAlarmsEnd : Prop :=
  ∀ (dt : Nat) (w : Word) (s : State), s.alive = true →
    (s.is Fl.SEC_STATUS_ERASE_PENDING = true → ∃ t, exec (.secErase dt) s = .next t ∧ t.sec.kek = none ∧ t.sec.dik = none ∧
      t.sec.rsk.isSome = true ∧ t.log.firstKeyed = s.log.seals.length + 1 ∧ t.is Fl.SEC_STATUS_ERASE_PENDING = false ∧
      t.is Fl.SEC_STATUS_KEK = false ∧ t.is Fl.SEC_STATUS_DIK = false ∧ t.is Fl.SEC_STATUS_RSK = true ∧
      (s.sec.hostErase = true → t.is Fl.SEC_RESULT_BUSY = false) ∧ Changes dt [.sec, .log, .free] (secFlds ++ logFlds) s t) ∧
    (∀ r q, s.sec.attest = some (r, q) → ∃ t, exec (.attestDone dt) s = .next t ∧ t.sec = { s.sec with attest := none } ∧
      (∀ i < 8, t.rd (Reg.SEC_ATTEST_R i) = beAt (toBE 32 r) (4 * i) 4 ∧ t.rd (Reg.SEC_ATTEST_S i) = beAt (toBE 32 q) (4 * i) 4) ∧
      t.is Fl.SEC_RESULT_BUSY = false ∧ t.get Fl.SEC_RESULT_CODE = 0 ∧ Changes dt [.sec] secFlds s t) ∧
    (s.isOpen 20 = true → ∀ x q, s.sec.exportQ = x :: q → ∃ t, exec (.secExportDataRead dt true) s = .next t ∧
      t.hif.miso = portBytes x.toNat ∧ t.sec = { s.sec with exportQ := q } ∧ Changes dt [.sec, .hif] [] s t) ∧
    (s.hif.unprivRun < 15 → ∃ t, exec (.secExportDataRead dt false) s = .next t ∧ t.hif.miso = portBytes 0 ∧ t.sec = s.sec ∧
      t.hif.unprivRun = s.hif.unprivRun + 1 ∧ t.is Fl.HIF_STATUS_PRIV_REFUSED = true ∧
      Changes dt [.hif] [Fl.HIF_STATUS_PRIV_REFUSED, whole Reg.HIF_LAST_ERR, cntFld Reg.SEC_UNPRIV] s t) ∧
    (s.isOpen 20 = true →
      let on (c : Nat) : Prop := (s.rd Reg.SEC_STATUS).testBit (16 + c) = true
      ∃ t, exec (.secAlarmClr dt w true) s = .next t ∧
        (∀ c < 7, w.toNat.testBit c = true → (s.elapse dt).causePresent c = false → (t.rd Reg.SEC_STATUS).testBit (16 + c) = false) ∧
        (∀ c < 7, w.toNat.testBit c = false ∨ (s.elapse dt).causePresent c = true →
          (t.rd Reg.SEC_STATUS).testBit (16 + c) = (s.rd Reg.SEC_STATUS).testBit (16 + c)) ∧
        (t.get Fl.SEC_RESULT_CODE = 6 ↔ ∃ c < 7, w.toNat.testBit c = true ∧ on c ∧ (s.elapse dt).causePresent c = true) ∧
        (t.get Fl.SEC_RESULT_CODE = 6 ∨ t.get Fl.SEC_RESULT_CODE = 0) ∧
        Changes dt [.hif] [Fl.SEC_STATUS_LATCHED, Fl.SEC_RESULT_CODE] s t)

/-- The debug TAP: without PERMIT, CHALLENGE and UNLOCK do nothing; CHALLENGE gives a fresh challenge for one UNLOCK, which consumes it
and fires trigger 5; only a signature over it that verifies under a key of the image opens the TAP, and then the session keys
are gone and every gate drive is off. -/
def Obligations.TheTapOpensOnlyToASignature : Prop :=
  ∀ (dt r q : Nat) (s : State), s.alive = true →
    (s.is Fl.SEC_JTAG_CTL_PERMIT = false ∨ s.isOpen 20 = false →
      exec (.challenge dt) s = .next (settle s.pending (s.elapse dt)) ∧ exec (.unlock dt r q) s = .next (settle s.pending (s.elapse dt))) ∧
    (s.is Fl.SEC_JTAG_CTL_PERMIT = true → s.isOpen 20 = true →
      (∃ t c, exec (.challenge dt) s = .next t ∧ c < 2 ^ 256 ∧ t.sec = { s.sec with challenge := some c } ∧
        Changes dt [.sec, .free] [] s t) ∧
      (let good : Prop := ∃ c, s.sec.challenge = some c ∧
         (unlockKeys s).any (fun k => ecdsaVerify k.1 k.2 r q (beNat (sha256 (toBE 32 c ++ toBE 8 Config.dieId)))) = true
       ∃ t, exec (.unlock dt r q) s = .next t ∧ t.sec.challenge = none ∧ t.get ⟨Reg.SEC_STATUS, 21, 21⟩ = 1 ∧
         (good → t.is Fl.SEC_STATUS_JTAG_OPEN = true ∧ t.sec.skeys = [] ∧ t.pins.so = 0) ∧
         (¬ good → t.is Fl.SEC_STATUS_JTAG_OPEN = s.is Fl.SEC_STATUS_JTAG_OPEN) ∧
         Changes dt [.sec, .log] (whole Reg.SEC_STATUS :: irqFld 11 :: logFlds) s t))

/-- A command of SEC_CMD is carried out, or refused with its code. -/
def Obligations.SecurityCommandsActOrAreRefused : Prop := Parts.SecurityCommandsAreRefused ∧ Parts.SecurityCommandsAct


/-! ### The Kerb (R263 to R293) -/

/-- The Kerb checks judge every lane in use in both technologies; a violation other than a missing source trips the lane in the open
technology that sees it; and afterwards each technology's switch of a channel is on only where its own evaluation allows it. -/
def Obligations.KerbChecksJudgeAndTrip : Prop :=
  ∀ (dt : Nat) (s : State), s.alive = true → s.markOpen 12 = true → s.kerbOn 0 = true ∨ s.kerbOn 1 = true →
    (∀ tech < 2, ∀ n, 0 ∉ (s.kl tech n).viol) →
    ∃ t, exec (.kerbChecksEnd dt) s = .next t ∧ t.cyc.marks = s.cyc.marks ++ [12] ∧
      (∀ n ∈ s.lanesOn, (t.kl 0 n).judged = true ∧ (t.kl 1 n).judged = true ∧
        ∀ tech < 2, s.kerbOn tech = true → ∀ f ∈ (t.kl tech n).viol, f ≠ 6 → (t.kl tech n).trip ≠ 0) ∧
      (∀ k < 4, ((t.soCh k).hs.on = true → t.soWant 0 k = true) ∧ ((t.soCh k).ls.on = true → t.soWant 1 k = true)) ∧
      t.is Fl.KRB_STATUS_FATAL = (t.krb.fatalP || t.krb.fatalL)

/-- A reading of the seal bank that does not stand is counted and keeps the value in force, and the third in a row is MISMATCH. One that
stands is taken into force outside RUN, where VALID needs its CHECK, its SET and its reserved bits; in RUN a difference in
bits [31:8] or bit 1 makes the state CHANGED and fires trigger 4 with the value kept, and one in bit 0 alone is taken.
A cleared test permit ends a running test. -/
def Obligations.SealReadingsDecideTheSealState : Prop :=
  ∀ (dt : Nat) (a b : Word) (s : State), UnitTakes 15 s → s.pwr.trans = none → s.krb.changed = false →
    (a ≠ b → ∃ t, exec (.sealReading dt a b) s = .next t ∧ t.rd Reg.KRB_SEAL = s.rd Reg.KRB_SEAL ∧
      t.krb.sealBad = s.krb.sealBad + 1 ∧ t.krb.taken = s.krb.taken ∧ (2 ≤ s.krb.sealBad → t.get Fl.KRB_STATUS_SEAL_STATE = 2) ∧
      (s.get ⟨Reg.KRB_SEAL_UNSTABLE, 15, 0⟩ < 0xFFFF →
        t.get ⟨Reg.KRB_SEAL_UNSTABLE, 15, 0⟩ = s.get ⟨Reg.KRB_SEAL_UNSTABLE, 15, 0⟩ + 1)) ∧
    (s.inRun = false ∨ s.krb.taken = false → ∃ t, exec (.sealReading dt a a) s = .next t ∧ t.rd Reg.KRB_SEAL = a.toNat ∧
      t.rd Reg.KRB_SEAL_LAST = a.toNat ∧ t.krb.taken = true ∧ t.krb.sealBad = 0 ∧
      t.get Fl.KRB_STATUS_SEAL_STATE = (if s.sealGood a.toNat then 1 else 2) ∧
      (t.is Fl.KRB_STATUS_TEST_PERMIT = true ↔ a.toNat.testBit 0 = true) ∧
      (a.toNat.testBit 0 = false → s.get Fl.LOOP_TEST_STATUS_STATE = 1 →
        t.get Fl.LOOP_TEST_STATUS_STATE = 3 ∧ t.get Fl.LOOP_TEST_STATUS_CAUSE = 2)) ∧
    (s.inRun = true → s.krb.taken = true → (s.rd Reg.KRB_SEAL ^^^ a.toNat) &&& 0xFFFFFF02 ≠ 0 →
      ∃ t, exec (.sealReading dt a a) s = .next t ∧ t.rd Reg.KRB_SEAL = s.rd Reg.KRB_SEAL ∧ t.krb.changed = true ∧
        t.get Fl.KRB_STATUS_SEAL_STATE = 3 ∧ (s.isOpen 20 = true → t.get ⟨Reg.SEC_STATUS, 20, 20⟩ = 1)) ∧
    (s.inRun = true → s.krb.taken = true → s.rd Reg.KRB_SEAL ^^^ a.toNat = 1 →
      ∃ t, exec (.sealReading dt a a) s = .next t ∧ t.rd Reg.KRB_SEAL = a.toNat ∧ t.krb.changed = false)

/-- An acknowledgement releases the latched trips of the lanes it names in both technologies when neither sees a violation of any
of them, and is refused as a whole otherwise: of local groups by mask, of a remote lane by its number. -/
def Obligations.TripsAreReleasedOnlyByAcknowledgement : Prop :=
  ∀ (dt n mask : Nat) (s : State), HostTakes Reg.KRB_ACK s → n < 64 → mask < 16 →
    ∀ p ∈ [(Instr.krbAckLane dt n true, s.ackLanes 0 (some n)), (Instr.krbAckGroup dt mask true, s.ackLanes mask none)],
      (∃ m ∈ p.2, (s.kl 0 m).trip ≠ 0 ∨ (s.kl 1 m).trip ≠ 0 ∨ m ∈ s.krb.cmdTrip) →
      ((∀ m ∈ p.2, (s.kl 0 m).viol = [] ∧ (s.kl 1 m).viol = []) → ∃ t, exec p.1 s = .next t ∧
        (∀ m ∈ p.2, (t.kl 0 m).trip = 0 ∧ (t.kl 1 m).trip = 0 ∧ m ∉ t.krb.cmdTrip) ∧
        (∀ m, m ∉ p.2 → t.kl 0 m = s.kl 0 m ∧ t.kl 1 m = s.kl 1 m) ∧ Changes dt [.krb, .hif] kerbFlds s t) ∧
      ((∃ m ∈ p.2, (s.kl 0 m).viol ≠ [] ∨ (s.kl 1 m).viol ≠ []) → ∃ t, exec p.1 s = .next t ∧
        t.is Fl.KRB_STATUS_ACK_REFUSED = true ∧ (∀ m, t.kl 0 m = s.kl 0 m ∧ t.kl 1 m = s.kl 1 m) ∧ t.krb.cmdTrip = s.krb.cmdTrip ∧
        Changes dt [.krb, .hif] kerbFlds s t)

/-- A channel whose readbacks have stood against its switches for 50 µs is in FAULT with the table's code: both switches off, the
group's lanes in FAULT and KERB raised; agreeing readbacks change no switch and no fault. CH_CLEAR clears a fault while all
readbacks stand low and is refused otherwise. -/
def Parts.ReadbacksFindFaultyChannels : Prop :=
  ∀ (dt k : Nat) (rh rl : Bool) (s : State), k < 4 →
    (s.alive = true → s.kerbOn 0 = true → s.kerbOn 1 = true → s.soFaultOf k = 0 →
      let c := s.soCh k
      let steady (l : RbLevel) (v : Bool) : Prop := l.run = 3 ∧ l.now = v ∧ l.stands = v
      steady c.hP rh → steady c.hL rh → steady c.lP rl → steady c.lL rl → c.hs.test = false → c.ls.test = false →
      c.changedAt + 50000 ≤ s.now + dt →
      ∃ t, exec (.readbackSample dt [⟨k, rh, rl, rh, rl⟩]) s = .next t ∧
        (State.rbCode c.hs.on c.ls.on rh rl ≠ 0 → t.soFaultOf k = State.rbCode c.hs.on c.ls.on rh rl ∧ (t.soCh k).hs.on = false ∧
          (t.soCh k).ls.on = false ∧ t.get (irqFld 8) = 1 ∧
          ∀ m ∈ s.lanesOn, s.get (Fl.LANE_SAFE_SO_GROUP m) = k → s.laneState m ≠ 0 → s.role ≠ 2 → t.laneState m = 4) ∧
        (State.rbCode c.hs.on c.ls.on rh rl = 0 → t.soFaultOf k = 0 ∧ (t.soCh k).hs = c.hs ∧ (t.soCh k).ls = c.ls ∧
          Changes dt [.krb] [whole (Reg.KRB_SO_STATUS k)] s t)) ∧
    (HostTakes Reg.KRB_ACK s → s.soFaultOf k ≠ 0 →
      let c := s.soCh k
      let low : Prop := c.hP.stands = false ∧ c.lP.stands = false ∧ c.hL.stands = false ∧ c.lL.stands = false
      (low → ∃ t, exec (.krbAckChClear dt (2 ^ k) true) s = .next t ∧ t.soFaultOf k = 0 ∧ Changes dt [.krb, .hif] kerbFlds s t) ∧
      (¬ low → ∃ t, exec (.krbAckChClear dt (2 ^ k) true) s = .next t ∧ t.soFaultOf k = s.soFaultOf k ∧
        t.is Fl.KRB_STATUS_ACK_REFUSED = true ∧ Changes dt [.krb, .hif] kerbFlds s t))

/-- The switch of a technology in a channel. -/
def soSw (c : SoCh) (tech : Nat) : SoSw := if tech = 0 then c.hs else c.ls

/-- The time of a switch's next test has come at `now`: that of a test which is owed, else 1 s after the last of its own interval. -/
def testDue (w : SoSw) (now : Nat) : Bool :=
  match w.due, w.slot with
  | some d, _ => decide (d ≤ now)
  | none, some x => decide (x + 1000000000 ≤ now)
  | none, none => true

/-- A test pulse whose time has come turns its switch off while the other is not under test; a level that came to stand within TEST_W
passes and turns the switch on again; one that did not is FAULT code 2 for the high side and 3 for the low side once
TEST_W has passed, and a switch that has missed eight intervals is FAULT code 7. The level is RBH at 0 for the high side, RBL at 1 for
the low side. -/
def Parts.TestPulsesProveTheSwitches : Prop :=
  ∀ (dt tech k : Nat) (s : State), s.alive = true → tech < 2 → k < 4 → s.soFaultOf k = 0 →
    let c := s.soCh k
    let w := soSw c tech
    let o := soSw c (1 - tech)
    (s.kerbOn tech = true → w.on = true → (tech = 1 → o.on = true) → w.test = false → o.test = false → testDue w (s.now + dt) = true →
      (w.missed < 8 → ∃ t, exec (.testPulseStart dt tech k) s = .next t ∧
        (soSw (t.soCh k) tech).on = false ∧ (soSw (t.soCh k) tech).test = true ∧ (soSw (t.soCh k) tech).missed = w.missed + 1 ∧
        soSw (t.soCh k) (1 - tech) = o ∧ (t.soCh k).changedAt = s.now + dt ∧ Changes dt [.krb] [whole (Reg.KRB_SO_STATUS k)] s t) ∧
      (8 ≤ w.missed → ∃ t, exec (.testPulseStart dt tech k) s = .next t ∧ t.soFaultOf k = 7 ∧ (soSw (t.soCh k) tech).on = false ∧
        (soSw (t.soCh k) (1 - tech)).on = false)) ∧
    (w.test = true →
      let lim := c.changedAt + s.testWidth
      let fell : Prop := (tech = 0 ∧ c.hP.stands = false ∧ c.hP.since ≤ lim) ∨ (tech = 1 ∧ c.lL.stands = true ∧ c.lL.since ≤ lim)
      (fell → o.test = false → o.want = false → ∃ t, exec (.testPulseEnd dt tech k) s = .next t ∧
        (soSw (t.soCh k) tech).test = false ∧ (soSw (t.soCh k) tech).missed = 0 ∧
        t.is (if tech = 0 then Fl.KRB_SO_STATUS_HS_PASS k else Fl.KRB_SO_STATUS_LS_PASS k) = true ∧
        (s.soWant tech k = true → (soSw (t.soCh k) tech).on = true) ∧ Changes dt [.krb] kerbFlds s t) ∧
      (¬ fell → lim ≤ s.now + dt → ∃ t, exec (.testPulseEnd dt tech k) s = .next t ∧
        t.soFaultOf k = 2 + tech ∧ (soSw (t.soCh k) tech).on = false ∧ (soSw (t.soCh k) (1 - tech)).on = false ∧
        t.get (irqFld 8) = 1))

/-- The fields of a safety connection. -/
def connFlds (c : Nat) : List Fld :=
  [whole (Reg.KRB_CONN_STATUS c), cntFld (Reg.KRB_CONN_CRC_ERR c), cntFld (Reg.KRB_CONN_SEQ_ERR c), cntFld (Reg.KRB_CONN_TIMEOUTS c)]

/-- A consumer connection that has accepted nothing for T_EXP ring cycles times out into RESYNC without a reference; its error level
falls by one, never below zero, 900 s after it rose from zero or last fell; a clear zeroes its counters and its level and takes it out of ERROR. -/
def Obligations.ConnectionsTimeOutDecayAndClear : Prop :=
  ∀ (dt c : Nat) (w : Word) (s : State), c < 128 →
    (s.alive = true → s.kerbOn (c % 2) = true →
      s.get (Fl.KRB_CONN_STATUS_STATE c) = 2 ∨ (s.get (Fl.KRB_CONN_STATUS_STATE c) = 1 ∧ (s.kconn c).last.isSome = true) →
      (s.connImage c).2.1 ≤ (s.kconn c).age →
      ∃ t, exec (.connectionTimeout dt c) s = .next t ∧ t.get (Fl.KRB_CONN_STATUS_STATE c) = 1 ∧ (t.kconn c).last = none ∧
        (s.get ⟨Reg.KRB_CONN_TIMEOUTS c, 15, 0⟩ < 0xFFFF →
          t.get ⟨Reg.KRB_CONN_TIMEOUTS c, 15, 0⟩ = s.get ⟨Reg.KRB_CONN_TIMEOUTS c, 15, 0⟩ + 1) ∧
        Changes dt [.krb] (connFlds c ++ kerbFlds) s t) ∧
    (s.alive = true → s.kerbOn (c % 2) = true → (s.kconn c).fallAt + 900000000000 ≤ s.now + dt →
      ∃ t, exec (.errorLevelDecay dt c) s = .next t ∧ (t.kconn c).fallAt = s.now + dt ∧
      t.get (Fl.KRB_CONN_STATUS_ERR_LEVEL c) = s.get (Fl.KRB_CONN_STATUS_ERR_LEVEL c) - 1 ∧
      Changes dt [.krb] [Fl.KRB_CONN_STATUS_ERR_LEVEL c] s t) ∧
    (HostTakes Reg.KRB_CONN_CLR s → w.toNat % 256 = c → w.toNat.testBit 8 = true → ∃ t, exec (.krbConnClr dt w) s = .next t ∧
      t.get (cntFld (Reg.KRB_CONN_CRC_ERR c)) = 0 ∧ t.get (cntFld (Reg.KRB_CONN_SEQ_ERR c)) = 0 ∧
      t.get (cntFld (Reg.KRB_CONN_TIMEOUTS c)) = 0 ∧ t.get (Fl.KRB_CONN_STATUS_ERR_LEVEL c) = 0 ∧
      t.get (Fl.KRB_CONN_STATUS_STATE c) = (if s.get (Fl.KRB_CONN_STATUS_STATE c) = 3 then 1 else s.get (Fl.KRB_CONN_STATUS_STATE c)) ∧
      Changes dt [.krb] (connFlds c ++ kerbFlds) s t)

/-- The safe outputs' readbacks are judged, and their switches are tested. -/
def Obligations.SafeOutputsAreReadAndTested : Prop := Parts.ReadbacksFindFaultyChannels ∧ Parts.TestPulsesProveTheSwitches


/-! ### Lanes and feedback (R243 to R262) -/

/-- A step along a circular sequence: +1 to the next member, −1 to the previous one, 0 for anything else. -/
def ringStep (seq : List Nat) (o n : Nat) : Int :=
  let fwd := seq.zip (seq.drop 1 ++ seq.take 1)
  if (o, n) ∈ fwd then 1 else if (n, o) ∈ fwd then -1 else 0

/-- A line rises. -/
def rises (i o n : Nat) : Bool := !o.testBit i && n.testBit i

/-- What the tables of R244 to R246 count for a change of the filtered lines C B A from `o` to `n`. -/
def fbTable (mode o n : Nat) : Int :=
  match mode with
  | 1 => if rises 0 o n then (if o.testBit 1 then -1 else 1) else 0
  | 2 => (if rises 0 o n then 1 else 0) - (if rises 1 o n then 1 else 0)
  | 3 => ringStep [0, 1, 3, 2] (o % 4) (n % 4)
  | 4 => ringStep [1, 3, 2, 6, 4, 5] (o % 8) (n % 8)
  | _ => 0

/-- The changes that the tables call illegal. -/
def fbIllegal (mode o n : Nat) : Bool :=
  (mode == 3 && o % 4 + n % 4 == 3) || (mode == 4 && o % 8 != n % 8 && fbTable 4 o n == 0)

/-- The registers of a feedback channel that a filtered change may write. -/
def fbFlds (ch : Nat) : List Fld :=
  [whole (Reg.FB_POS ch), whole (Reg.FB_FLAGS ch), whole (Reg.FB_STATE ch), cntFld (Reg.FB_ILLEGAL ch), whole (Reg.FB_CMP ch),
    whole (Reg.FB_CMP_STATUS ch), cntFld (Reg.FB_CMP_FIRES ch), irqFld 6]

/-- The filtered lines after raw inputs `a`, `b`, `c` have stood for `na`, `nb` and `nc` samples over lines `old` (R242, R248): an
inverted input is inverted first, and a line takes a level that stands for FILTER + 1 samples. -/
def fbSeen (s : State) (ch old : Nat) (a b c : Bool) (na nb nc : Nat) : Nat :=
  let line (i : Nat) (x : Bool) (n : Nat) : Bool :=
    if s.get (Fl.FB_CFG_FILTER ch) < n then x != s.is ⟨Reg.FB_CFG ch, 4 + i, 4 + i⟩ else old.testBit i
  fbLines (line 0 a na) (line 1 b nb) (line 2 c nc)

/-- A filtered change counts by the channel's mode: the position moves by the table's count, modulo 2^32, with the direction shown,
STANDSTILL cleared and the wrap flags at the ends; an illegal change leaves the position and sets ILLEGAL with its count; B
changing with a step edge sets DIR_SETUP; a rising C in QUAD with INDEX_EN latches the index. The check path writes no
register, and a closed interface only follows the lines. The command gives raw levels with the samples for which each stands, which the
input filter takes or drops. -/
def Parts.FilteredChangesCount : Prop :=
  ∀ (dt ch na nb nc : Nat) (a b c : Bool) (s : State), ch < 6 →
    let m := s.get (Fl.FB_CFG_MODE ch)
    let old := (s.fbCh ch).main.lines
    let new := fbSeen s ch old a b c na nb nc
    let pos := (s.fbCh ch).main.pos
    let d := fbTable m old new
    (s.alive = true → s.isOpen 12 = true → ∃ t, exec (.fbCountEdge dt ch false a b c na nb nc) s = .next t ∧
      (t.fbCh ch).main.lines = new ∧ (t.fbCh ch).check = (s.fbCh ch).check ∧
      (d ≠ 0 → (t.fbCh ch).main.pos = uInt (sInt pos + d) ∧ t.rd (Reg.FB_POS ch) = uInt (sInt pos + d) ∧
        t.get (Fl.FB_STATE_DIR ch) = (if d = 1 then 1 else 2) ∧ t.is (Fl.FB_STATE_STANDSTILL ch) = false ∧
        (d = 1 → pos = 0x7FFFFFFF → t.is (Fl.FB_FLAGS_WRAP_FWD ch) = true) ∧
        (d = -1 → pos = 0x80000000 → t.is (Fl.FB_FLAGS_WRAP_REV ch) = true)) ∧
      (d = 0 → (t.fbCh ch).main.pos = pos ∧ t.rd (Reg.FB_POS ch) = s.rd (Reg.FB_POS ch)) ∧
      (fbIllegal m old new = true → t.is (Fl.FB_FLAGS_ILLEGAL ch) = true ∧ (s.get ⟨Reg.FB_ILLEGAL ch, 15, 0⟩ < 0xFFFF →
        t.get ⟨Reg.FB_ILLEGAL ch, 15, 0⟩ = s.get ⟨Reg.FB_ILLEGAL ch, 15, 0⟩ + 1)) ∧
      (fbIllegal m old new = false → t.get (cntFld (Reg.FB_ILLEGAL ch)) = s.get (cntFld (Reg.FB_ILLEGAL ch))) ∧
      (m = 1 → rises 0 old new = true → old.testBit 1 ≠ new.testBit 1 → t.is (Fl.FB_FLAGS_DIR_SETUP ch) = true) ∧
      (m = 3 → s.is (Fl.FB_CFG_INDEX_EN ch) = true → rises 2 old new = true → t.is (Fl.FB_STATE_INDEX_SEEN ch) = true ∧
        (t.fbCh ch).idxEvt = some ((t.fbCh ch).main.pos, t.clk)) ∧
      Changes dt [.fbk, .pins] (fbFlds ch) s t) ∧
    (s.alive = true → s.isOpen 12 = true → ∃ t, exec (.fbCountEdge dt ch true a b c na nb nc) s = .next t ∧
      (t.fbCh ch).main = (s.fbCh ch).main ∧ (t.fbCh ch).check.lines = fbSeen s ch (s.fbCh ch).check.lines a b c na nb nc ∧ Changes dt [.fbk] [] s t) ∧
    (s.alive = false ∨ s.isOpen 12 = false → ∃ t, exec (.fbCountEdge dt ch false a b c na nb nc) s = .next t ∧
      (t.fbCh ch).main = { (s.fbCh ch).main with lines := new } ∧ Changes dt [.fbk] [] s t)

/-- The compare fires at a count: toward C in its armed direction onto C, or at any count when armed EITHER. -/
abbrev compareAt (s : State) (ch : Nat) (d : Int) : Prop :=
  s.get (Fl.FB_CMP_STATUS_ARM ch) = 3 ∨ (uInt (sInt (s.fbCh ch).main.pos + d) = s.rd (Reg.FB_CMP ch) ∧
    ((s.get (Fl.FB_CMP_STATUS_ARM ch) = 1 ∧ d = 1) ∨ (s.get (Fl.FB_CMP_STATUS_ARM ch) = 2 ∧ d = -1)))

/-- A count at which the compare fires latches its Waymark, sets FIRED, counts, raises FBK_CMP where IRQ is set, and with AUTO moves C
by STEP in the count's direction armed again that way, or else disarms; any other count leaves the compare as it is. A
divider in COMPARE starts its pulse at a firing; one in DIVIDE adds the count and toggles when it reaches DIV either way. -/
def Parts.ComparesFireOnce : Prop :=
  ∀ (dt ch na nb nc : Nat) (a b c : Bool) (s : State), ch < 6 → s.alive = true → s.isOpen 12 = true →
    let d := fbTable (s.get (Fl.FB_CFG_MODE ch)) (s.fbCh ch).main.lines (fbSeen s ch (s.fbCh ch).main.lines a b c na nb nc)
    d ≠ 0 → ∃ t, exec (.fbCountEdge dt ch false a b c na nb nc) s = .next t ∧
      (compareAt s ch d → (t.fbCh ch).cmpEvt = some ((t.fbCh ch).main.pos, t.clk) ∧ t.is (Fl.FB_CMP_STATUS_FIRED ch) = true ∧
        (s.get ⟨Reg.FB_CMP_FIRES ch, 15, 0⟩ < 0xFFFF →
          t.get ⟨Reg.FB_CMP_FIRES ch, 15, 0⟩ = s.get ⟨Reg.FB_CMP_FIRES ch, 15, 0⟩ + 1) ∧
        (s.is (Fl.FB_CMP_CTL_IRQ ch) = true → t.get (irqFld 6) = 1) ∧ t.is (Fl.FB_CMP_STATUS_BEHIND ch) = false ∧
        (s.is (Fl.FB_CMP_CTL_AUTO ch) = true → t.get (Fl.FB_CMP_STATUS_ARM ch) = (if d = 1 then 1 else 2) ∧
          t.rd (Reg.FB_CMP ch) = uInt (sInt (s.rd (Reg.FB_CMP ch)) + d * s.rd (Reg.FB_CMP_STEP ch))) ∧
        (s.is (Fl.FB_CMP_CTL_AUTO ch) = false → t.get (Fl.FB_CMP_STATUS_ARM ch) = 0 ∧
          t.rd (Reg.FB_CMP ch) = s.rd (Reg.FB_CMP ch)) ∧
        ∀ k < 2, s.get (Fl.FBK_PDIV_CFG_SRC k) = 2 → s.get (Fl.FBK_PDIV_CFG_CHAN k) = ch → t.pdivOf k = true ∧
          aGet t.fbk.pulseAt k = some t.now) ∧
      (¬ compareAt s ch d → t.rd (Reg.FB_CMP ch) = s.rd (Reg.FB_CMP ch) ∧
        t.rd (Reg.FB_CMP_STATUS ch) = s.rd (Reg.FB_CMP_STATUS ch) ∧ (t.fbCh ch).cmpEvt = (s.fbCh ch).cmpEvt) ∧
      ∀ k < 2, s.get (Fl.FBK_PDIV_CFG_SRC k) = 1 → s.get (Fl.FBK_PDIV_CFG_CHAN k) = ch →
        let acc := aGetD s.fbk.acc k 0 + d
        let full := acc.natAbs = s.get (Fl.FBK_PDIV_CFG_DIV_M1 k) + 1
        (full → aGetD t.fbk.acc k 0 = 0 ∧ t.pdivOf k = !s.pdivOf k) ∧ (¬ full → aGetD t.fbk.acc k 0 = acc ∧ t.pdivOf k = s.pdivOf k)

/-- Writing FB_CMP stores C and arms only while EN is set; writing FB_CMP_CTL arms where EN rises, disarms where it clears and keeps
the arm where it stays. Arming takes d = C − P: EITHER at zero, else the direction toward C, with BEHIND where a moving channel runs
away from it. A compare pulse ends 1 µs after the last firing. -/
def Parts.ComparesAreArmed : Prop :=
  ∀ (dt ch k p : Nat) (w : Word) (s : State), ch < 6 → k < 2 →
    let arms (t : State) : Prop :=
      let d := sInt (t.rd (Reg.FB_CMP ch) + 2 ^ 32 - (s.fbCh ch).main.pos)
      let dir := if s.is (Fl.FB_STATE_STANDSTILL ch) then 0 else s.get (Fl.FB_STATE_DIR ch)
      t.get (Fl.FB_CMP_STATUS_ARM ch) = (if d = 0 then 3 else if 0 < d then 1 else 2) ∧
        (t.is (Fl.FB_CMP_STATUS_BEHIND ch) = true ↔ d ≠ 0 ∧ ¬(dir = 0 ∨ (dir = 1 ∧ 0 < d) ∨ (dir = 2 ∧ d < 0)))
    let kept (t : State) : Prop := t.rd (Reg.FB_CMP_STATUS ch) = s.rd (Reg.FB_CMP_STATUS ch)
    (HostTakes (Reg.FB_CMP ch) s → ∃ t, exec (.compareWrite dt ch w) s = .next t ∧ t.rd (Reg.FB_CMP ch) = w.toNat ∧
      (s.is (Fl.FB_CMP_CTL_EN ch) = true → arms t) ∧ (s.is (Fl.FB_CMP_CTL_EN ch) = false → kept t) ∧
      Changes dt [] [whole (Reg.FB_CMP ch), Fl.FB_CMP_STATUS_ARM ch, Fl.FB_CMP_STATUS_BEHIND ch] s t) ∧
    (HostTakes (Reg.FB_CMP_CTL ch) s → ∃ t, exec (.compareCtlWrite dt ch w) s = .next t ∧
      (∀ j < 3, (t.rd (Reg.FB_CMP_CTL ch)).testBit j = w.toNat.testBit j) ∧
      (w.toNat.testBit 0 = false → t.get (Fl.FB_CMP_STATUS_ARM ch) = 0) ∧
      (w.toNat.testBit 0 = true → s.is (Fl.FB_CMP_CTL_EN ch) = false → arms t) ∧
      (w.toNat.testBit 0 = true → s.is (Fl.FB_CMP_CTL_EN ch) = true → kept t) ∧
      Changes dt [] [whole (Reg.FB_CMP_CTL ch), Fl.FB_CMP_STATUS_ARM ch, Fl.FB_CMP_STATUS_BEHIND ch] s t) ∧
    (UnitTakes 12 s → aGet s.fbk.pulseAt k = some p →
      (p + 1000 ≤ s.now + dt → ∃ t, exec (.pdivPulseEnd dt k) s = .next t ∧ t.pdivOf k = false ∧ t.pdivOf (1 - k) = s.pdivOf (1 - k) ∧
        aGet t.fbk.pulseAt k = none ∧ t.fbk.ch = s.fbk.ch ∧ t.fbk.acc = s.fbk.acc ∧ Changes dt [.fbk, .pins] [] s t) ∧
      (s.now + dt < p + 1000 → ∃ t, exec (.pdivPulseEnd dt k) s = .next t ∧ Changes dt [] [] s t))

/-- A LANE_CTL write is held for its boundary, with EN as the command says, or as it reads where CLEAR is written; LANE_AZ_SET is
held only for a lane in HELD with a local angle source. A standby, and a lane that may not take an azimuth, get
BAD_WRITE and nothing else. -/
def Parts.LaneCommandsAreStaged : Prop :=
  ∀ (dt n : Nat) (en : Bool) (w : Word) (s : State), n < 64 →
    (HostStages (Reg.LANE_CTL n) s → s.role ≠ 2 →
      (∃ t, exec (.laneEnable dt n en) s = .next t ∧ Changes dt [.staged] [] s t ∧
        t.staged = aSet s.staged (Reg.LANE_CTL n) (if en then 1 else 0)) ∧
      ∃ t, exec (.laneClear dt n) s = .next t ∧ Changes dt [.staged] [] s t ∧
        t.staged = aSet s.staged (Reg.LANE_CTL n) (if (s.shown (Reg.LANE_CTL n)).testBit 0 then 3 else 2)) ∧
    (HostStages (Reg.LANE_CTL n) s → s.role = 2 → ∀ c ∈ [Instr.laneEnable dt n en, .laneClear dt n],
      ∃ t, exec c s = .next t ∧ t.is Fl.HIF_STATUS_BAD_WRITE = true ∧ Changes dt [.hif] badFlds s t) ∧
    (HostStages (Reg.LANE_AZ_SET n) s →
      (s.laneState n = 1 ∧ s.fbAz n < 6 → ∃ t, exec (.azSet dt n w) s = .next t ∧ Changes dt [.staged] [] s t ∧
        t.staged = aSet s.staged (Reg.LANE_AZ_SET n) w) ∧
      (s.laneState n ≠ 1 ∨ 6 ≤ s.fbAz n → ∃ t, exec (.azSet dt n w) s = .next t ∧ t.is Fl.HIF_STATUS_BAD_WRITE = true ∧
        Changes dt [.hif] badFlds s t))

/-- The lane's row of R261 that holds first is the transition it makes at a pace boundary; a CLEAR while a cause holds is refused. -/
def Parts.LaneTransitionsFollowTheTable : Prop :=
  ∀ (n : Nat) (s : State), n < 64 →
    let st := s.laneState n
    let t := s.laneTransition n
    let leaves := s.inRun = false ∨ s.is Fl.PWR_STATUS_LEAVING = true ∨ s.is (Fl.LANE_CTL_EN n) = false
    ((s.laneSt n).clear = false →
      (st ∈ [1, 2, 3] → s.laneCauses n ≠ [] → t.laneState n = 4 ∧ s.laneCauses n = t.get (Fl.LANE_STATE_CAUSE n) :: (s.laneCauses n).drop 1) ∧
      (s.laneCauses n = [] →
        (st = 2 → s.role ≠ 3 → t.laneState n = 1) ∧
        (st = 2 → s.role = 3 → leaves → t.laneState n = 3 ∧ (t.laneSt n).ramp = 0) ∧
        (st = 2 → s.role = 3 → ¬ leaves → t.laneState n = 2) ∧
        (st = 3 → (t.laneState n = 1 ↔ s.role ≠ 3 ∨ s.get (Fl.LANE_RAMP_RAMP_T n) ≤ (s.laneSt n).ramp + 1) ∧
          (t.laneState n = 1 ∨ t.laneState n = 3)) ∧
        (st = 1 → (t.laneState n = 2 ↔ s.role = 3 ∧ ¬ leaves ∧ (s.fbAz n = 7 ∨ s.is (Fl.LANE_STATE_AZ_VALID n) = true) ∧
            s.is (Fl.LANE_STATE_FB_OK n) = true ∧ s.is (Fl.LANE_STATE_DRIVE_READY n) = true ∧
            s.is (Fl.LANE_STATE_KERB_PERMIT n) = true) ∧ (t.laneState n = 1 ∨ t.laneState n = 2))) ∧
      (st = 4 → t.laneState n = 4)) ∧
    ((s.laneSt n).clear = true → (s.laneSt n).reopened = false → st = 4 →
      (s.laneCauses n = [] → t.laneState n = 1) ∧
      (s.laneCauses n ≠ [] → t.laneState n = 4 ∧ t.is (Fl.LANE_STATE_CLEAR_REFUSED n) = true))

/-- Feedback inputs are filtered and counted, and compare units are armed, fire once and stay quiet otherwise. -/
def Obligations.FeedbackIsFilteredAndCompared : Prop :=
  Parts.FilteredChangesCount ∧ Parts.ComparesFireOnce ∧ Parts.ComparesAreArmed

/-- A lane's commands wait for the pace boundary, where its state follows the lane table. -/
def Obligations.LanesFollowTheirCommands : Prop :=
  Parts.LaneCommandsAreStaged ∧ Parts.LaneTransitionsFollowTheTable


/-! ### The Enrum ring (R295 to R322) -/

/-- A link comes into service where the hold of its ring is high and it is neither in service nor refused: with negotiation as soon as
the partner answers, without it 1 ms after the port came up. A partner that does not advertise full duplex only sets
LINK_REFUSED. A dropped link loses its delay, and at a master port of a WHOLE ring it breaks the ring: BROKEN, counted,
logged and raised. The Causeway's link comes and goes alike. A frame that is not Enrum only counts in FOREIGN of a port that can
receive. -/
def Parts.LinksCarryOrBreak : Prop :=
  ∀ (dt q ability : Nat) (x : RxFrame) (s : State),
    let an : Prop := s.is Fl.RING_CFG_AN_EN = true
    let refused : Prop := an ∧ ability.testBit 0 = false
    (UnitTakes 16 s → q < 4 →
      let down : Prop := s.holdOf (q / 2) = true ∧ s.is (Fl.RING_PORT_STATUS_LINK q) = false ∧
        s.is (Fl.RING_PORT_STATUS_LINK_REFUSED q) = false
      let due : Prop := an ∨ (s.side (q / 2)).upFrom + 1000000 ≤ s.now + dt
      (down → refused → ∃ t, exec (.linkUp dt q ability) s = .next t ∧ t.is (Fl.RING_PORT_STATUS_LINK_REFUSED q) = true ∧
        t.is (Fl.RING_PORT_STATUS_LINK q) = false ∧ Changes dt [] [whole (Reg.RING_PORT_STATUS q)] s t) ∧
      (down → ¬ refused → due → ∃ t, exec (.linkUp dt q ability) s = .next t ∧ t.is (Fl.RING_PORT_STATUS_LINK q) = true ∧
        t.is (Fl.RING_PORT_STATUS_LINK_REFUSED q) = false ∧ t.is (Fl.RING_PORT_STATUS_AN_DONE q) = s.is Fl.RING_CFG_AN_EN ∧
        Changes dt [] [whole (Reg.RING_PORT_STATUS q)] s t) ∧
      (¬ down ∨ ¬ due → ∃ t, exec (.linkUp dt q ability) s = .next t ∧ Changes dt [] [] s t) ∧
      (∃ t, exec (.linkDown dt q) s = .next t ∧ t.is (Fl.RING_PORT_STATUS_LINK q) = false ∧
        t.is (Fl.RING_PORT_STATUS_LINK_REFUSED q) = false ∧ t.get (Fl.RING_PORT_STATUS_PDELAY q) = 0xFFFF ∧
        (s.isMaster (q / 2) = true → s.ringState (q / 2) = 3 → t.ringState (q / 2) = 4 ∧ Counted Reg.RING_BREAKS s t ∧
          t.get (irqFld 13) = 1 ∧ ∃ d, Logged Ev.RING_BREAK (q / 2) d t) ∧
        (s.isMaster (q / 2) = false ∨ s.ringState (q / 2) ≠ 3 → (t.side (q / 2)).upFrom = s.now + dt ∧
          t.side (1 - q / 2) = s.side (1 - q / 2) ∧ Changes dt [.ring] [whole (Reg.RING_PORT_STATUS q)] s t) ∧
        Changes dt [.ring, .log] ([whole (Reg.RING_PORT_STATUS q), whole Reg.RING_STATUS, cntFld Reg.RING_BREAKS, irqFld 13] ++ logFlds) s t)) ∧
    (UnitTakes 17 s →
      (s.red.cwLink = false → s.red.cwRefused = false → refused → ∃ t, exec (.linkUp dt 4 ability) s = .next t ∧
        t.red = { s.red with cwRefused := true } ∧ Changes dt [.red] [] s t) ∧
      (s.red.cwLink = false → s.red.cwRefused = false → ¬ refused → an ∨ s.red.cwFrom + 1000000 ≤ s.now + dt →
        ∃ t, exec (.linkUp dt 4 ability) s = .next t ∧ t.red = { s.red with cwLink := true } ∧ Changes dt [.red] [] s t) ∧
      ∃ t, exec (.linkDown dt 4) s = .next t ∧ t.red = { s.red with cwLink := false, cwRefused := false, cwFrom := s.now + dt } ∧
        Changes dt [.red] [] s t) ∧
    (UnitTakes 16 s → (s.carries (x.port % 4) = true → ∃ t, exec (.foreignFrameReceived dt x) s = .next t ∧
        Counted (Reg.RING_PORT_FOREIGN (x.port % 4)) s t ∧ Changes dt [] [cntFld (Reg.RING_PORT_FOREIGN (x.port % 4))] s t) ∧
      (s.carries (x.port % 4) = false → ∃ t, exec (.foreignFrameReceived dt x) s = .next t ∧ Changes dt [] [] s t))

/-- A device in READY or RUN that is OUT of a ring with its hold low and neither leaving nor released listens; anything else
stays as it is. RELEASE drops the hold and leaves the ring OUT unless it is parked; LEAVE sets its bit and ends a LISTEN.
Three cycles without a SYNC set SYNC_LOST in every device but the master. -/
def Parts.RingsAreJoinedAndLeft : Prop :=
  ∀ (dt r : Nat) (s : State), r < 2 →
    let free : Prop := (s.power = 2 ∨ s.power = 3) ∧ s.ringState r = 0 ∧ s.holdOf r = false ∧ s.leaving r = false ∧ s.released r = false
    (UnitTakes 16 s → free → ∃ t, exec (.ringListen dt r) s = .next t ∧ t.ringState r = 1 ∧
      Changes dt [] [State.ringFld r, whole (Reg.RING_PORT_STATUS (2 * r))] s t) ∧
    (UnitTakes 16 s → ¬ free → ∃ t, exec (.ringListen dt r) s = .next t ∧ Changes dt [] [] s t) ∧
    (HostTakes Reg.RING_CTL s →
      (∃ t, exec (.ringRelease dt r true) s = .next t ∧ t.released r = true ∧ t.holdOf r = false ∧ t.side r = {} ∧
        (s.ringState r ≠ 5 → t.ringState r = 0) ∧ Changes dt [.ring, .hif] [whole Reg.RING_CTL, State.ringFld r] s t) ∧
      ∃ t, exec (.ringLeave dt r true) s = .next t ∧ t.leaving r = true ∧
        t.ringState r = (if s.ringState r = 1 then 0 else s.ringState r) ∧
        Changes dt [.hif] [whole Reg.RING_CTL, State.ringFld r] s t) ∧
    (UnitTakes 16 s → ∃ t, exec (.syncLost dt) s = .next t ∧ Changes dt [] [Fl.RING_STATUS_SYNC_LOST] s t ∧
      (s.isMaster 0 = false → s.isMaster 1 = false → 3 ≤ s.ring.noSync → t.is Fl.RING_STATUS_SYNC_LOST = true) ∧
      (s.isMaster 0 = true ∨ s.isMaster 1 = true ∨ s.ring.noSync < 3 →
        t.is Fl.RING_STATUS_SYNC_LOST = s.is Fl.RING_STATUS_SYNC_LOST))

/-- A frame comes off the ring at its originator, at the cycle master, and at its destination unless it is marked ALL. -/
abbrev TakenOff (r : Nat) (f : Bytes) (s : State) : Prop :=
  beAt f 2 2 = s.address ∨ s.isMaster r = true ∨ (beAt f 4 2 = s.address ∧ (byteAt f 11).testBit 3 = false)

/-- An Enrum frame of a type by its form (R295, R297, R305): 46 to 1,500 bytes, VER 1, and LEN bytes after the header. -/
abbrev EnrumForm (ty : Nat) (f : Bytes) : Prop :=
  46 ≤ f.length ∧ f.length ≤ 1500 ∧ byteAt f 0 = 1 ∧ byteAt f 1 = ty ∧ 16 + beAt f 14 2 ≤ f.length

/-- A port can take a frame: the ring is not parked, and the port's link is in service or listens. -/
abbrev PortTakes (x : RxFrame) (s : State) : Prop :=
  UnitTakes 16 s ∧ x.port < 4 ∧ s.ringState (x.port / 2) ≠ 5 ∧ s.carries x.port = true

/-- An Enrum frame of a type at a port that can take it, with a good FCS, and HOPS left unless the device takes it off the ring. -/
abbrev EnrumFrame (ty : Nat) (x : RxFrame) (s : State) : Prop :=
  let f := bytesNat x.bytes
  PortTakes x s ∧ x.fcsOk = true ∧ EnrumForm ty f ∧ (TakenOff (x.port / 2) f s ∨ 2 ≤ beAt f 12 2)

/-- Its content is of the present cycle, from another device, of a train that counts; and the ring is no Junction's ring B. -/
abbrev FreshFrame (ty : Nat) (x : RxFrame) (s : State) : Prop :=
  EnrumFrame ty x s ∧ beAt (bytesNat x.bytes) 2 2 ≠ s.address ∧ (s.side (x.port / 2)).ignored = false ∧
    s.upstream (x.port / 2) = false ∧ beAt (bytesNat x.bytes) 6 4 = s.rd Reg.RING_CYCLE

/-- The frame commands by TYPE. -/
def frameCommand (dt : Nat) (x : RxFrame) : Nat → Option Instr
  | 1 => some (.syncReceived dt x)
  | 2 => some (.commandFrameReceived dt x)
  | 3 => some (.collectFrameReceived dt x)
  | 4 => some (.imageFrameReceived dt x)
  | 5 => some (.mgmtFrameReceived dt x)
  | _ => none

/-- A ring that forwards: INSERTING, WHOLE or BROKEN. -/
abbrev Forwards (r : Nat) (s : State) : Prop := s.ringState r = 2 ∨ s.ringState r = 3 ∨ s.ringState r = 4

/-- The frames of a device out of both ports of a ring, FLAGS.DIR with the port (R305, R311). -/
def outOfBoth (r : Nat) (g : Bytes) (s : State) : List TxFrame :=
  [⟨2 * r, s.onWire (spliceBytes g 11 [byteAt g 11 / 2 * 2]), true⟩, ⟨2 * r + 1, s.onWire (spliceBytes g 11 [byteAt g 11 / 2 * 2 + 1]), true⟩]

/-- A port that cannot receive, or is parked, takes no frame. A frame with a bad FCS counts in FCS_ERR, is used for nothing and leaves
with its FCS wrong; one of another VER, TYPE or length counts in FOREIGN and one whose HOPS run out in HOPS_EXPIRED, and
neither goes on. A COMMAND or IMAGE frame goes on unchanged but for HOPS, out of the opposite port, or back out of its own
marked LOOPED where that has no link or the device still loops; the master, the originator and a destination of its own take
it off the ring. -/
def Parts.FramesAreForwarded : Prop :=
  ∀ (dt ty : Nat) (c : Instr) (x : RxFrame) (s : State), frameCommand dt x ty = some c → UnitTakes 16 s → x.port < 4 →
    let f := bytesNat x.bytes
    let q := x.port
    let r := q / 2
    let takes : Prop := s.ringState r ≠ 5 ∧ s.carries q = true
    let own : Prop := TakenOff r f s
    let stays (t : State) : Prop := t.ring = { s.ring with sent := [] }
    (¬ takes → ∃ t, exec c s = .next t ∧ stays t ∧ Changes dt [.ring] [] s t) ∧
    (takes → x.fcsOk = false → ∃ t, exec c s = .next t ∧ Counted (Reg.RING_PORT_FCS_ERR q) s t ∧
      (∀ g ∈ t.ring.sent, g.fcsOk = false) ∧ t.ring.pages = s.ring.pages ∧ t.ring.slots = s.ring.slots ∧
      t.ring.lastCmds = s.ring.lastCmds ∧ t.ring.mail = s.ring.mail ∧ t.ring.ins = s.ring.ins ∧ t.ring.got = s.ring.got ∧
      Changes dt [.ring, .free] [cntFld (Reg.RING_PORT_FCS_ERR q), cntFld (Reg.RING_PORT_HOPS_EXPIRED q),
        Fl.RING_PORT_STATUS_LOOPING q] s t) ∧
    (takes → x.fcsOk = true → ¬ EnrumForm ty f → ∃ t, exec c s = .next t ∧ stays t ∧ Counted (Reg.RING_PORT_FOREIGN q) s t ∧
      Changes dt [.ring] [cntFld (Reg.RING_PORT_FOREIGN q)] s t) ∧
    (takes → x.fcsOk = true → EnrumForm ty f → ¬ own → beAt f 12 2 ≤ 1 → ∃ t, exec c s = .next t ∧ stays t ∧
      Counted (Reg.RING_PORT_HOPS_EXPIRED q) s t ∧ Changes dt [.ring] [cntFld (Reg.RING_PORT_HOPS_EXPIRED q)] s t) ∧
    (ty = 2 ∨ ty = 4 → takes → EnrumForm ty f → own ∨ 2 ≤ beAt f 12 2 → ∃ t, exec c s = .next t ∧
      (own → t.ring.sent = []) ∧
      (¬ own → Forwards r s →
        let g := spliceBytes f 12 (toBE 2 (beAt f 12 2 - 1))
        let loops : Prop := s.is (Fl.RING_PORT_STATUS_LINK (q ^^^ 1)) = false ∨ s.is (Fl.RING_PORT_STATUS_LOOPING q) = true
        (¬ loops → t.ring.sent = [⟨q ^^^ 1, s.onWire g, x.fcsOk⟩] ∧ t.is (Fl.RING_PORT_STATUS_LOOPING q) = false) ∧
        (loops → t.ring.sent = [⟨q, s.onWire (spliceBytes g 11 [byteAt g 11 ||| 2]), x.fcsOk⟩] ∧
          t.is (Fl.RING_PORT_STATUS_LOOPING q) = true)) ∧
      Changes dt [.ring, .loop] [cntFld (Reg.RING_PORT_LATE q), cntFld (Reg.RING_PORT_FCS_ERR q), Fl.RING_PORT_STATUS_LOOPING q,
        Fl.LOOP_STATUS_ORIGIN] s t)

/-- What a device takes from a train. The owner's COMMAND blocks are remembered, another sender's are not. An IMAGE page is stored
where none is held or its epoch is after the stored one, and no other page changes. The first filled slot of a node in a
cycle is taken with its NSTATE, drive bits and feedback fields and marks the node present, an absent node joining again; the
device fills its own slot while FILLED is 0. A late frame only counts. On its ring B a Junction takes none of it. -/
def Parts.TrainsAreTaken : Prop :=
  ∀ (dt : Nat) (x : RxFrame) (s : State),
    let f := bytesNat x.bytes
    let q := x.port
    let r := q / 2
    let a := beAt f 16 2
    (FreshFrame 2 x s → ∃ t, exec (.commandFrameReceived dt x) s = .next t ∧
      (beAt f 2 2 = s.rd Reg.RED_OWNER → s.firstOf 2 0 = true → t.ring.lastCmds = (f.drop 16).take (beAt f 14 2)) ∧
      (beAt f 2 2 ≠ s.rd Reg.RED_OWNER ∨ s.firstOf 2 0 = false → t.ring.lastCmds = s.ring.lastCmds)) ∧
    (FreshFrame 4 x s → ∃ t, exec (.imageFrameReceived dt x) s = .next t ∧
      let p := byteAt f 16
      let e := beAt f 20 4
      (∀ n, n ≠ p → aGet t.ring.pages n = aGet s.ring.pages n) ∧
      ((∀ pg, aGet s.ring.pages p = some pg → after32 e pg.epoch = true) →
        aGet t.ring.pages p = some ⟨e, (f.drop 24).take 256⟩) ∧
      (∀ pg, aGet s.ring.pages p = some pg → after32 e pg.epoch = false → aGet t.ring.pages p = some pg)) ∧
    (FreshFrame 3 x s → beAt f 14 2 = 12 + 4 * byteAt f 22 → byteAt f 23 = 0 → max 12 (beAt f 18 2) = beAt f 14 2 →
      byteAt f 20 = 1 → a ≠ s.address → ∃ t, exec (.collectFrameReceived dt x) s = .next t ∧
        (t.side r).filled.contains (a % 256) = true ∧
        (s.ring.absent.contains a = true → Logged Ev.NODE_JOIN (a % 256) 0 t ∧ t.ring.absent = s.ring.absent.erase a) ∧
        (s.firstOf 3 a = true → aGet t.ring.slots a =
          some ⟨byteAt f 21, beAt f 24 4, (List.range (byteAt f 22)).map (fun i => beAt f (28 + 4 * i) 4)⟩) ∧
        (s.firstOf 3 a = false → aGet t.ring.slots a = aGet s.ring.slots a) ∧
        Changes dt [.ring, .log] ([Fl.RING_PORT_STATUS_LOOPING q] ++ logFlds) s t) ∧
    (FreshFrame 3 x s → ¬ TakenOff r f s → Forwards r s → beAt f 14 2 = 12 → a = s.address → byteAt f 20 = 0 →
      ∃ t g, exec (.collectFrameReceived dt x) s = .next t ∧ t.ring.sent = [g] ∧ beAt g.bytes 30 2 = s.address ∧
        byteAt g.bytes 34 = 1 ∧ byteAt g.bytes 35 = s.ownNstate r) ∧
    (∀ ty ∈ [2, 3, 4], ∀ c, frameCommand dt x ty = some c → EnrumFrame ty x s → beAt f 2 2 ≠ s.address →
      s.upstream r = false → (ty = 2 → beAt f 2 2 = s.rd Reg.RED_OWNER) → (s.side r).ignored = false → s.isLate f = true →
      ∃ t, exec c s = .next t ∧
        Counted (Reg.RING_PORT_LATE q) s t ∧ t.ring.pages = s.ring.pages ∧ t.ring.slots = s.ring.slots ∧ t.ring.lastCmds = s.ring.lastCmds) ∧
    (∀ ty ∈ [2, 3, 4], ∀ c, frameCommand dt x ty = some c → EnrumFrame ty x s → s.upstream r = true →
      ∃ t, exec c s = .next t ∧ t.ring.pages = s.ring.pages ∧ t.ring.slots = s.ring.slots ∧ t.ring.lastCmds = s.ring.lastCmds ∧
        t.ring.ins = s.ring.ins)

/-- A SYNC of the held ownership pair, the cycle's first, gives its cycle number and owner, ends SYNC_LOST, and in RUN a standby
follows its pace, phases and cycle of the pace, each advanced by the device's own boundaries after the SYNC's boundary b. A
device that waits for its first owner becomes a ring standby by it, unless the owner is its partner. One of a lower pair makes its train ignored; one of a higher
pair is taken, and demotes an active device at once. Its correction grows by the link delay and at most 800 ns on its way, and
the master's own copy coming back unlooped at the opposite port is noted. -/
def Parts.SyncsAreFollowed : Prop :=
  ∀ (dt : Nat) (x : RxFrame) (s : State), EnrumFrame 1 x s → beAt (bytesNat x.bytes) 14 2 = 72 →
    let f := bytesNat x.bytes
    let q := x.port
    let r := q / 2
    let e := beAt f 18 4
    let o := beAt f 16 2
    let held : Prop := s.ring.hasPair = true ∧ e = s.rd Reg.RED_EPOCH ∧ o = s.rd Reg.RED_OWNER
    let foreign : Prop := beAt f 2 2 ≠ s.address ∧ (s.is Fl.RING_CFG_JUNCTION = false ∨ r = 0)
    let fits : Prop := s.following = false ∨ beAt f 6 4 = s.rd Reg.RING_CYCLE
    let k := s.cyclesAfter (s.now + dt - (beAt f 40 4 + s.linkDelay q))
    (foreign → held → fits → s.firstOf 1 0 = true → s.role ≠ 1 →
      ∃ t, exec (.syncReceived dt x) s = .next t ∧ t.rd Reg.RING_CYCLE = (beAt f 6 4 + k) % 2 ^ 32 ∧ t.get Fl.RING_STATUS_OWNER = o ∧
        t.is Fl.RING_STATUS_SYNC_LOST = false ∧ t.ring.noSync = 0 ∧ t.ring.lastSyncNow = some (s.now + dt) ∧ t.role = s.role ∧
        (s.inRun = true → s.role = 2 →
          let m := (byteAt f 26 + k) / s.cyclesPerPace
          t.cyc.sub = (byteAt f 26 + k) % s.cyclesPerPace ∧ t.cyc.pace = (beAt f 22 4 + m) % 2 ^ 32 ∧
          (m = 0 → byteAt f 27 < s.legPaces → byteAt f 28 < s.stageLegs → t.cyc.leg = byteAt f 27 ∧ t.cyc.stage = byteAt f 28)) ∧
        (s.inRun = false ∨ s.role ≠ 2 → t.cyc = s.cyc) ∧
        (s.ringState r = 3 → ¬ TakenOff r f s → s.is (Fl.RING_PORT_STATUS_LINK (q ^^^ 1)) = true →
          s.is (Fl.RING_PORT_STATUS_LOOPING q) = false → t.ring.sent.length = 1 ∧
          ∀ g ∈ t.ring.sent, g.port = q ^^^ 1 ∧ g.fcsOk = true ∧ beAt g.bytes 26 2 = beAt f 12 2 - 1 ∧
            ∃ res < 801, beAt g.bytes 54 4 = (beAt f 40 4 + s.linkDelay q + res) % 2 ^ 32) ∧
        Changes dt [.ring, .free, .cyc, .red, .loop] [whole Reg.RING_CYCLE, whole Reg.RING_STATUS, cntFld (Reg.RING_PORT_BAD_STAMP q),
          Fl.RING_PORT_STATUS_LOOPING q, whole Reg.GLB_PACE, cntFld Reg.RED_MS_LOST, Fl.LOOP_STATUS_ORIGIN] s t) ∧
    (foreign → held ∨ s.ring.hasPair = false → fits → s.firstOf 1 0 = true → s.role = 1 → s.red.heardOwner = false →
      s.hasPartner = false ∨ o ≠ s.partner →
      ∃ t, exec (.syncReceived dt x) s = .next t ∧ t.role = 2 ∧ t.red.heardOwner = true ∧ t.rd Reg.RED_EPOCH = e ∧
        t.rd Reg.RED_OWNER = o ∧ t.ring.hasPair = true) ∧
    (foreign → s.ring.hasPair = true → ¬ held → precedes e o (s.rd Reg.RED_EPOCH) (s.rd Reg.RED_OWNER) = false →
      ∃ t, exec (.syncReceived dt x) s = .next t ∧ (t.side r).ignored = true ∧ t.rd Reg.RED_EPOCH = s.rd Reg.RED_EPOCH ∧
        t.rd Reg.RED_OWNER = s.rd Reg.RED_OWNER ∧ t.role = s.role ∧ t.cyc = s.cyc ∧
        Changes dt [.ring, .free] [Fl.RING_PORT_STATUS_LOOPING q] s t) ∧
    (foreign → s.ring.hasPair = true → precedes e o (s.rd Reg.RED_EPOCH) (s.rd Reg.RED_OWNER) = true → s.role = 3 →
      ∃ t, exec (.syncReceived dt x) s = .next t ∧ t.rd Reg.RED_EPOCH = e ∧ t.rd Reg.RED_OWNER = o ∧ t.red.epochMram = e ∧
        Counted Reg.RED_DEMOTIONS s t ∧ t.ring.trainOn = false ∧ t.role = (if s.hasPartner = true ∧ o = s.partner then 1 else 2)) ∧
    (beAt f 2 2 = s.address → (byteAt f 11).testBit 1 = false → byteAt f 11 % 2 ≠ q % 2 →
      ∃ t, exec (.syncReceived dt x) s = .next t ∧ t.ring.sent = [] ∧
        (if byteAt f 11 % 2 = 0 then (t.side r).back0 = true else (t.side r).back1 = true) ∧ Changes dt [.ring] [] s t)

/-- A management message addressed to the device: IDENT_REQ is answered by IDENT_RSP with the device's identity, a parameter
access by PARAM_RSP with status REFUSED; an ALARM is logged, and it and every other message but RTCM_DATA enter
the mailbox, which raises MGMT, or count in MGMT_LOST where eight wait. -/
def Parts.MessagesAreAnswered : Prop :=
  ∀ (dt : Nat) (x : RxFrame) (s : State), EnrumFrame 5 x s →
    let f := bytesNat x.bytes
    let m : MgmtMsg := ⟨beAt f 2 2, byteAt f 16, x.port / 2, beAt f 18 2, (f.drop 20).take (min 1024 (beAt f 14 2 - 4))⟩
    m.src ≠ s.address → beAt f 4 2 = s.address → s.firstOf 5 (m.src * 2 ^ 16 + m.tag) = true → m.msg ≠ 7 →
    let caps := 1 + (if s.is Fl.RING_CFG_JUNCTION = true then 2 else 0) + (if s.is Fl.TIM_PTP_CFG_TC_EN = true then 4 else 0)
    let answers (t : State) (a : MgmtMsg) : Prop := t.ring.txq = s.ring.txq ++ [a] ∧ t.ring.mail = s.ring.mail
    ∃ t, exec (.mgmtFrameReceived dt x) s = .next t ∧
      (m.msg = 1 → answers t ⟨m.src, 2, m.ring, m.tag,
        toBE 2 0x0E51 ++ toBE 2 0x6400 ++ toBE 2 0x00B0 ++ toBE 2 s.address ++ toBE 8 Config.dieId ++ toBE 2 caps⟩) ∧
      (m.msg = 3 ∨ m.msg = 4 → answers t ⟨m.src, 5, m.ring, m.tag, m.body.take 2 ++ [2, 0] ++ toBE 4 0⟩) ∧
      (m.msg ∉ [1, 3, 4] → t.ring.txq = s.ring.txq ∧
        (s.ring.mail.length < 8 → t.ring.mail = s.ring.mail ++ [m] ∧ t.is Fl.RING_MGMT_RX_STATUS_AVAIL = true ∧ t.get (irqFld 12) = 1) ∧
        (8 ≤ s.ring.mail.length → t.ring.mail = s.ring.mail ∧ Counted Reg.RING_MGMT_LOST s t)) ∧
      (m.msg = 6 → Logged Ev.RING_NODE_ALARM (m.src % 256) (beAt m.body 2 4) t) ∧
      Changes dt [.ring, .log] ([whole Reg.RING_MGMT_RX_STATUS, whole Reg.RING_MGMT_RX_HDR, cntFld Reg.RING_MGMT_LOST, irqFld 12,
        Fl.RING_PORT_STATUS_LOOPING x.port] ++ wholes 256 Reg.RING_MGMT_RXBUF ++ logFlds) s t

/-- GO queues the message that TX_HDR, TX_CTL and the buffer hold; the oldest queued frame leaves out of both ports of its rings where
the whole of it fits in the window, and stays queued where it does not; GO reads 0 once a host message is sent; a pop removes
the oldest mail and shows the next. -/
def Parts.TheHostExchangesMessages : Prop :=
  ∀ (dt : Nat) (w : Word) (m : MgmtMsg) (q : List MgmtMsg) (s : State),
    (HostTakes Reg.RING_MGMT_TX_CTL s → Rw.RING_MGMT_TX_CTL.legalOk w.toNat = true → w.toNat.testBit 31 = true →
      ∃ t a, exec (.mgmtSend dt w true) s = .next t ∧ t.ring.txq = s.ring.txq ++ [a] ∧ a.src = s.address ∧
        a.msg = s.get Fl.RING_MGMT_TX_HDR_MSG ∧ a.tag = w.toNat % 2 ^ 16 ∧ a.body.length = w.toNat / 2 ^ 16 % 2 ^ 11 ∧
        (∀ i < w.toNat / 2 ^ 16 % 2 ^ 11, a.body[i]? = some (s.rd (Reg.RING_MGMT_TXBUF (i / 4)) / 256 ^ (i % 4) % 256)) ∧
        Changes dt [.ring, .hif] [whole Reg.RING_MGMT_TX_CTL] s t) ∧
    (UnitTakes 16 s → s.ring.txq = m :: q →
      let f := s.mgmtFrame (if 16 ≤ m.ring then s.get Fl.RING_MGMT_TX_HDR_DST else m.src) m
      let away := s.now + dt - s.ring.boundAt
      let fits : Prop := 10 * s.window.1 ≤ away ∧ away + (max 64 (f.length + 18) + 20) * 8 ≤ 10 * s.window.2
      (¬ fits → ∃ t, exec (.mgmtTransmit dt) s = .next t ∧ Changes dt [] [] s t) ∧
      (fits → m.ring < 16 → ∃ t, exec (.mgmtTransmit dt) s = .next t ∧ t.ring.txq = q ∧ t.ring.sent = outOfBoth m.ring f s ∧
        Changes dt [.ring] [] s t) ∧
      (fits → 16 ≤ m.ring → ∃ t, exec (.mgmtTransmit dt) s = .next t ∧ t.ring.txq = q ∧ t.is Fl.RING_MGMT_TX_CTL_GO = false ∧
        t.ring.sent = (if (m.ring - 16) % 4 = 1 then [] else outOfBoth 0 f s) ++ (if (m.ring - 16) % 4 = 0 then [] else outOfBoth 1 f s) ∧
        Changes dt [.ring] [Fl.RING_MGMT_TX_CTL_GO] s t)) ∧
    (HostTakes Reg.RING_MGMT_RX_POP s → ∃ t, exec (.mgmtRxPop dt) s = .next t ∧ t.ring.mail = s.ring.mail.drop 1 ∧
      t.is Fl.RING_MGMT_RX_STATUS_AVAIL = decide (2 ≤ s.ring.mail.length) ∧
      (∀ n, s.ring.mail[1]? = some n → n.tag < 2 ^ 16 → t.get Fl.RING_MGMT_RX_STATUS_TAG = n.tag) ∧
      Changes dt [.ring] ([whole Reg.RING_MGMT_RX_STATUS, whole Reg.RING_MGMT_RX_HDR] ++ wholes 256 Reg.RING_MGMT_RXBUF) s t)

/-- Links come up and break, and rings are joined, left and released. -/
def Obligations.RingsCarryOrBreak : Prop :=
  Parts.LinksCarryOrBreak ∧ Parts.RingsAreJoinedAndLeft

/-- Every ENRUM frame is forwarded or comes off, and the frames of the train are taken. -/
def Obligations.RingFramesAreForwardedAndTaken : Prop :=
  Parts.FramesAreForwarded ∧ Parts.TrainsAreTaken ∧ Parts.SyncsAreFollowed

/-- Management messages are answered by the device or handed to the host, which sends its own. -/
def Obligations.RingMessagesAreExchanged : Prop :=
  Parts.MessagesAreAnswered ∧ Parts.TheHostExchangesMessages


/-! ### The timebase (R323 to R329) -/

/-- The fields that the timebase's jump policy may write. -/
def timFlds : List Fld :=
  [whole Reg.TIM_STATUS, whole Reg.TIM_OFFSET, whole Reg.TIM_FREQ, whole Reg.TIM_JUMP_OFF_LO, whole Reg.TIM_JUMP_OFF_HI,
    cntFld Reg.TIM_JUMPS, irqFld 5] ++ logFlds

/-- A Sync of the best master of the source in use gives an offset, shown in TIM_OFFSET, the first of each sequenceId only. One that
enters the policy in FREE is stepped at the next second; within TIM_JUMP_TH it is slewed and LOCKED at once; above it is
refused: JUMP_REFUSED, JUMP_PENDING, logged, raised, counted and the offset tracked; the quality stays, but that a clock LOCKED on
another source is then in HOLDOVER (log entry 101). In LOCKED a later offset steers. -/
def Parts.OffsetsEnterTheJumpPolicy : Prop :=
  ∀ (dt : Nat) (m : PtpMsg) (s : State), UnitTakes 11 s → m.kind = .sync → m.domain = s.get Fl.TIM_PTP_CFG_DOMAIN → m.port < 4 → s.carries m.port = true →
    let c := if m.port < 2 then 2 else 3
    let x := s.timSrc c
    let off : Int := ((s.elapse dt).clk : Int) - m.origin - m.corr - s.linkDelay m.port
    s.is Fl.TIM_PTP_CFG_OC_EN = true → x.best ≠ [] → x.best.getLast? = some m.clockId →
    (aGet s.tim.seqSeen c = some m.seq → s.is Fl.TIM_PTP_CFG_TC_EN = false →
      ∃ t, exec (.ptpMessageReceived dt m) s = .next t ∧ Changes dt [] [] s t) ∧
    (aGet s.tim.seqSeen c ≠ some m.seq → s.get Fl.TIM_STATUS_SOURCE = c → s.timSelect = c → 10 ≤ x.run →
      ∃ t, exec (.ptpMessageReceived dt m) s = .next t ∧ aGet t.tim.seqSeen c = some m.seq ∧
        t.rd Reg.TIM_OFFSET = uInt (sat32 off) ∧ (t.timSrc c).offset = off ∧ (t.timSrc c).run = x.run + 1 ∧
        (s.tim.entering = true → s.get Fl.TIM_STATUS_QUALITY = 0 → t.tim.step = some off ∧ t.get Fl.TIM_STATUS_QUALITY = 0) ∧
        (s.tim.entering = true → s.get Fl.TIM_STATUS_QUALITY ≠ 0 → off.natAbs ≤ s.get ⟨Reg.TIM_JUMP_TH, 19, 0⟩ →
          t.get Fl.TIM_STATUS_QUALITY = 1 ∧ t.tim.slewLeft = off ∧ t.is Fl.TIM_STATUS_JUMP_PENDING = false ∧
            (t.is Fl.TIM_STATUS_SLEWING = true ↔ off ≠ 0)) ∧
        (s.tim.entering = true → s.get Fl.TIM_STATUS_QUALITY ≠ 0 → s.get ⟨Reg.TIM_JUMP_TH, 19, 0⟩ < off.natAbs →
          t.is Fl.TIM_STATUS_JUMP_REFUSED = true ∧ t.is Fl.TIM_STATUS_JUMP_PENDING = true ∧ t.get (irqFld 5) = 1 ∧
            Counted Reg.TIM_JUMPS s t ∧ Logged Ev.TIME_JUMP_REFUSED 0 0 t ∧
            t.get Fl.TIM_STATUS_QUALITY = (if s.get Fl.TIM_STATUS_QUALITY = 1 then 2 else s.get Fl.TIM_STATUS_QUALITY) ∧
            t.rd Reg.TIM_JUMP_OFF_LO = (off % 2 ^ 32).toNat ∧
            t.rd Reg.TIM_JUMP_OFF_HI = (off / 2 ^ 32 % 2 ^ 32).toNat) ∧
        (s.tim.entering = false → s.is Fl.TIM_STATUS_JUMP_PENDING = false → s.tim.step = none → s.get Fl.TIM_STATUS_QUALITY = 1 →
          t.tim.slewLeft = off ∧ t.get Fl.TIM_STATUS_QUALITY = 1) ∧
        Changes dt [.tim, .clock, .log, .free] timFlds s t)

/-- A 1588 source has failed: announceReceiptTimeout intervals without an Announce, or three Sync intervals without a Sync of the master that
announces (R324). -/
def ptpFailed (s : State) (c now : Nat) : Bool :=
  let a := aGetD s.tim.annAt c 0
  decide (a + s.get Fl.TIM_PTP_INTV_ANN_TMO * s.ptpInterval Fl.TIM_PTP_INTV_LOG_ANNOUNCE ≤ now) ||
    decide (max a (aGetD s.tim.syncAt c 0) + 3 * s.ptpInterval Fl.TIM_PTP_INTV_LOG_SYNC ≤ now)

/-- A 1588 source that has failed is lost, and one that has not stays. Losing the source in use ends its slew and its pending jump and moves LOCKED to HOLDOVER where no source is left. ACCEPT places
a pending jump at the next second and does nothing with none pending. The step there is one write of the time-stamp, LOCKED,
with TIME_STEP logged where it was accepted; at another instant, or in the second of its placing, no step is made. A slew ends with no
steering left once TIM_SLEW has absorbed the offset. -/
def Parts.JumpsAndLosses : Prop :=
  ∀ (dt c : Nat) (off : Int) (s : State),
    (UnitTakes 11 s → 2 ≤ c → c ≤ 4 → ptpFailed s c (s.now + dt) = true → ∃ t, exec (.ptpSourceLost dt c) s = .next t ∧ (t.timSrc c).run = 0 ∧ (t.timSrc c).best = [] ∧
      (s.get Fl.TIM_STATUS_SOURCE = c → t.get Fl.TIM_STATUS_SOURCE ≠ c ∧ t.is Fl.TIM_STATUS_JUMP_PENDING = false ∧
        t.is Fl.TIM_STATUS_SLEWING = false ∧ t.tim.step = none ∧ (s.get Fl.TIM_STATUS_QUALITY = 1 →
          t.get Fl.TIM_STATUS_QUALITY = (if t.get Fl.TIM_STATUS_SOURCE = 0 then 2 else 1))) ∧
      (s.get Fl.TIM_STATUS_SOURCE ≠ c → t.get Fl.TIM_STATUS_QUALITY = s.get Fl.TIM_STATUS_QUALITY) ∧
      Changes dt [.tim, .clock] [whole Reg.TIM_STATUS, whole Reg.TIM_FREQ] s t) ∧
    (UnitTakes 11 s → ptpFailed s c (s.now + dt) = false → ∃ t, exec (.ptpSourceLost dt c) s = .next t ∧ Changes dt [] [] s t) ∧
    (HostTakes Reg.TIM_JUMP_CTL s → ∃ t, exec (.accept dt true) s = .next t ∧ Changes dt [.tim, .hif] [] s t ∧
      (s.is Fl.TIM_STATUS_JUMP_PENDING = true → t.tim.step = some (s.timSrc (s.get Fl.TIM_STATUS_SOURCE)).offset ∧
        t.tim.accepted = true ∧ t.tim.stepSec = (s.elapse dt).clk / 10 ^ 9) ∧
      (s.is Fl.TIM_STATUS_JUMP_PENDING = false → t.tim = s.tim)) ∧
    (UnitTakes 11 s → s.tim.step = some off → (s.elapse dt).clk % 10 ^ 9 ≤ 4 → s.tim.stepSec < (s.elapse dt).clk / 10 ^ 9 →
      ∃ t, exec (.timeStep dt) s = .next t ∧
      t.clock.t = (((s.elapse dt).clock.t : Int) - off * 2 ^ 32).toNat ∧ t.get Fl.TIM_STATUS_QUALITY = 1 ∧
      t.is Fl.TIM_STATUS_JUMP_PENDING = false ∧ t.tim.step = none ∧ (s.tim.accepted = true → Logged Ev.TIME_STEP 0 0 t) ∧
      t.cyc = s.cyc ∧ t.ring = s.ring ∧ t.lanes = s.lanes ∧ t.units = s.units) ∧
    (UnitTakes 11 s → s.tim.step = none ∨ 4 < (s.elapse dt).clk % 10 ^ 9 ∨ (s.elapse dt).clk / 10 ^ 9 ≤ s.tim.stepSec → ∃ t, exec (.timeStep dt) s = .next t ∧ Changes dt [] [] s t) ∧
    let done : Prop := s.tim.slewLeft.natAbs * 10 ^ 9 ≤ (s.now + dt - s.tim.slewFrom) * s.rd Reg.TIM_SLEW
    (UnitTakes 11 s → done → ∃ t, exec (.slewComplete dt) s = .next t ∧ t.is Fl.TIM_STATUS_SLEWING = false ∧ t.tim.slewLeft = 0 ∧
      t.clock.inc = 0 ∧ t.rd Reg.TIM_FREQ = 0 ∧ Changes dt [.tim, .clock] [Fl.TIM_STATUS_SLEWING, whole Reg.TIM_FREQ] s t) ∧
    (UnitTakes 11 s → ¬ done → ∃ t, exec (.slewComplete dt) s = .next t ∧ Changes dt [] [] s t)

/-- A read of TIM_NOW_NS answers the nanoseconds of the local clock and latches the seconds of the same instant. A peer-delay answer
gives the port's mean link delay, a request is answered, and requests, Sync and Announce go out at their intervals, on a ring in the window; Sync and
Announce only while the device offers itself and wins under the BMCA, with the attributes of its quality. A forwarded Sync of the transparent clock carries the link delay and its
residence, at most 800 ns, in its correction. -/
def Parts.TimeIsReadAndSent : Prop :=
  ∀ (dt port t1 : Nat) (m : PtpMsg) (s : State),
    let clk := (s.elapse dt).clk
    (HostTakes Reg.TIM_NOW_NS s → ∃ t, exec (.timNowNsRead dt) s = .next t ∧ t.hif.miso = portBytes (clk % 10 ^ 9) ∧
      t.rd Reg.TIM_NOW_NS = clk % 10 ^ 9 ∧ t.rd Reg.TIM_NOW_SEC_LO = clk / 10 ^ 9 % 2 ^ 32 ∧
      t.rd Reg.TIM_NOW_SEC_HI = clk / 10 ^ 9 / 2 ^ 32 % 2 ^ 16 ∧
      Changes dt [.hif] [whole Reg.TIM_NOW_NS, whole Reg.TIM_NOW_SEC_LO, whole Reg.TIM_NOW_SEC_HI] s t) ∧
    (UnitTakes 11 s → m.domain = s.get Fl.TIM_PTP_CFG_DOMAIN → m.port < 4 → s.carries m.port = true →
      (m.kind = .pdelayResp → aGet s.tim.reqT1 m.port = some t1 → ∃ t, exec (.ptpMessageReceived dt m) s = .next t ∧
        t.get (Fl.RING_PORT_STATUS_PDELAY m.port) = min 0xFFFE (((clk : Int) - t1 - m.turn - m.corr) / 2).toNat ∧
        aGet t.tim.reqT1 m.port = none ∧ Changes dt [.tim] [Fl.RING_PORT_STATUS_PDELAY m.port] s t) ∧
      (m.kind = .pdelayReq → ∃ t x, exec (.ptpMessageReceived dt m) s = .next t ∧ t.tim.txLast = some x ∧ x.kind = 4 ∧
        x.port = m.port ∧ x.seq = m.seq ∧ m.corr ≤ x.corr ∧ Changes dt [.tim, .free] [] s t) ∧
      (m.kind = .sync → s.is Fl.TIM_PTP_CFG_TC_EN = true → ∃ t x res, exec (.ptpMessageReceived dt m) s = .next t ∧
        t.tim.txLast = some x ∧ x.port = m.port ^^^ 1 ∧ x.seq = m.seq ∧ res ≤ 800 ∧
        x.corr = m.corr + s.linkDelay m.port + (res : Nat))) ∧
    (UnitTakes 11 s → port ≤ 4 →
      let c := ptpSource port
      let way (len : Nat) : Prop := (port < 4 ∧ (s.elapse dt).inWindow len = true) ∨ (port = 4 ∧ s.red.cwLink = true)
      let due (k : PtpKind) : Prop := ∀ u, aGet s.tim.txAt ((State.ptpCode k).1 * 8 + port) = some u → u + s.ptpEvery k ≤ s.now + dt
      let offers : Prop := s.is Fl.TIM_PTP_CFG_GM_EN = true ∧ (s.is Fl.RING_CFG_JUNCTION = false ∨ c ≠ 3) ∧
        (port = 4 → s.is Fl.TIM_PTP_CFG_E2E_CW = true) ∧ ((s.timSrc c).best = [] ∨ bmcaBetter s.ownDataset (s.timSrc c).best = true)
      let sent (t : State) (x : PtpTx) (kind : Nat) : Prop := t.tim.txLast = some x ∧ x.kind = kind ∧ x.port = port ∧ x.stamp = clk ∧
        x.clockId = Config.dieId ∧ x.domain = s.get Fl.TIM_PTP_CFG_DOMAIN ∧ aGet t.tim.txAt (kind * 8 + port) = some (s.now + dt) ∧
        Changes dt [.tim] [Fl.TIM_STATUS_GM] s t
      (port < 4 → due .pdelayReq → way 54 → ∃ t x, exec (.ptpMessageTransmit dt .pdelayReq port) s = .next t ∧ sent t x 2 ∧
        aGet t.tim.reqT1 port = some clk) ∧
      (port = 4 → s.is Fl.TIM_PTP_CFG_OC_EN = true → s.is Fl.TIM_PTP_CFG_E2E_CW = true → due .delayReq → way 44 →
        ∃ t x, exec (.ptpMessageTransmit dt .delayReq port) s = .next t ∧ sent t x 3 ∧ aGet t.tim.reqT1 port = some clk) ∧
      ∀ k ∈ [PtpKind.sync, .announce],
        (¬ offers ∨ ¬ due k ∨ ¬ way (State.ptpCode k).2 → ∃ t, exec (.ptpMessageTransmit dt k port) s = .next t ∧ Changes dt [] [] s t) ∧
        (offers → due k → way (State.ptpCode k).2 → ∃ t x, exec (.ptpMessageTransmit dt k port) s = .next t ∧ sent t x (State.ptpCode k).1 ∧
          x.priority1 = s.get Fl.TIM_PTP_CFG_PRIORITY1 ∧ x.priority2 = s.get Fl.TIM_PTP_CFG_PRIORITY2 ∧
          some x.clockClass = [248, 6, 7, 52][s.get Fl.TIM_STATUS_QUALITY]? ∧
          (let src := if s.get Fl.TIM_STATUS_SOURCE = 0 then s.tim.lastSrc else s.get Fl.TIM_STATUS_SOURCE
           x.timeSource = if s.get Fl.TIM_STATUS_QUALITY = 0 then 0xA0 else if src = 1 then 0x20 else 0x40)))

/-- Time sources enter the jump policy, jumps wait for acceptance, and the time is read and sent. -/
def Obligations.TimeIsDisciplined : Prop :=
  Parts.OffsetsEnterTheJumpPolicy ∧ Parts.JumpsAndLosses ∧ Parts.TimeIsReadAndSent


/-! ### Redundancy (R330 to R352) -/

/-- A path's last evidence is 375 µs old at an instant, or there never was any (R335). -/
def quietAt (now : Nat) (o : Option Nat) : Bool := match o with | none => true | some v => decide (v + 375000 ≤ now)

/-- A valid heartbeat of the Causeway partner (R333). -/
abbrev PartnerHeartbeat (f : Bytes) (s : State) : Prop :=
  s.hasPartner = true ∧ s.red.cwLink = true ∧ byteAt f 0 = 1 ∧ byteAt f 1 = 0x10 ∧ beAt f 2 2 = s.partner ∧ 70 ≤ f.length

/-- A heartbeat goes out in READY, RUN and HARBOUR to a configured partner, with the role, the epoch and owner held and the pace, and
is numbered, at each multiple of 125 µs from the ring-cycle boundary while the Causeway has its link; in another state, or while FAULTED,
none does. -/
def Parts.HeartbeatsAreSent : Prop :=
  ∀ (dt : Nat) (s : State), UnitTakes 17 s →
    let sends : Prop := (s.power = 2 ∨ s.power = 3 ∨ s.power = 4) ∧ s.role ≠ 4 ∧ s.hasPartner = true ∧
      s.red.cwLink = true ∧ (s.now + dt - s.ring.boundAt) % 125000 < 4
    (sends → ∃ t g, exec (.heartbeatSend dt) s = .next t ∧ t.red.sent = [(0x10, g)] ∧ g.length = 70 ∧ byteAt g 0 = 1 ∧
      byteAt g 1 = 0x10 ∧ beAt g 2 2 = s.address ∧ beAt g 4 2 = s.partner ∧ beAt g 12 2 = 1 ∧ beAt g 14 2 = 54 ∧ byteAt g 16 = s.role ∧
      (byteAt g 17).testBit 0 = s.is Fl.RED_STATUS_CURRENT ∧ byteAt g 18 = s.get Fl.FUS_DETOUR_LEVEL ∧ byteAt g 19 = s.red.hbIndex % 8 ∧
      beAt g 20 4 = s.rd Reg.RED_EPOCH ∧ beAt g 24 2 = s.rd Reg.RED_OWNER % 2 ^ 16 ∧ beAt g 28 4 = s.cyc.pace % 2 ^ 32 ∧
      t.red.hbIndex = (s.red.hbIndex + 1) % 8 ∧ (∀ u, s.red.exchAsked = some u → t.red.exch = some ((s.cyc.pace + 3) % 2 ^ 32) ∧
        beAt g 66 4 = (s.cyc.pace + 3) % 2 ^ 32 ∧ (s.role = 3 → (byteAt g 17).testBit 3 = true)) ∧
      Changes dt [.red] [] s t) ∧
    (¬ sends → ∃ t, exec (.heartbeatSend dt) s = .next t ∧ Changes dt [] [] s t)

/-- A valid heartbeat is evidence of the Causeway and shows the partner's role; an invalid one is ignored. The first heard from an ACTIVE
partner starts the resynchronisation of a SYNCING device, or makes it a ring standby where the layouts differ. An edge of the
HB line is evidence 40 to 90 µs after the edge before, and noise closer than that. -/
def Parts.HeartbeatsAreHeard : Prop :=
  ∀ (dt e : Nat) (fs : List Byte) (b : Bool) (s : State), UnitTakes 17 s →
    let f := bytesNat fs
    let now := s.now + dt
    (¬ PartnerHeartbeat f s → ∃ t, exec (.heartbeatReceived dt fs true) s = .next t ∧ Changes dt [] [] s t) ∧
    (∃ t, exec (.heartbeatReceived dt fs false) s = .next t ∧ Changes dt [] [] s t) ∧
    (PartnerHeartbeat f s → byteAt f 16 ≠ 3 → ∃ t, exec (.heartbeatReceived dt fs true) s = .next t ∧ t.red.cwAt = some now ∧
      t.is Fl.RED_STATUS_CW_SILENT = false ∧ t.get Fl.RED_STATUS_PARTNER_ROLE = byteAt f 16 % 8 ∧ t.role = s.role ∧
      t.ring = { s.ring with highEpoch := if after32 (beAt f 20 4) s.ring.highEpoch then beAt f 20 4 else s.ring.highEpoch } ∧
      Changes dt [.red, .ring] [whole Reg.RED_STATUS] s t) ∧
    (PartnerHeartbeat f s → byteAt f 16 = 3 → s.inRun = true → s.role = 1 → s.red.heardOwner = false → s.red.loaded = false →
      ∃ t, exec (.heartbeatReceived dt fs true) s = .next t ∧ t.red.heardOwner = true ∧ t.red.cwAt = some now ∧
        (beAt f 48 8 = s.layoutId → t.role = 1 ∧ t.red.resyncFrom = some now) ∧
        (beAt f 48 8 ≠ s.layoutId → t.role = 2 ∧ t.is Fl.RED_STATUS_RING_STANDBY = true ∧ t.red.resyncFrom = none ∧
          Logged Ev.RESYNC_REFUSED 0 0 t)) ∧
    (s.red.edgeAt = some e →
      (now < e + 40000 → ∃ t, exec (.hbInEdge dt b) s = .next t ∧ Changes dt [] [] s t) ∧
      (e + 40000 ≤ now → now ≤ e + 90000 → ∃ t, exec (.hbInEdge dt b) s = .next t ∧ t.red.edgeAt = some now ∧
        t.red.hbAt = some now ∧ t.is Fl.RED_STATUS_HB_SILENT = false ∧ Changes dt [.red] [Fl.RED_STATUS_HB_SILENT] s t) ∧
      (e + 90000 < now → ∃ t, exec (.hbInEdge dt b) s = .next t ∧ t.red = { s.red with edgeAt := some now } ∧ Changes dt [.red] [] s t))

/-- A path 375 µs after its last evidence is silent. With the other alive it is a path fault, logged, raised and counted, and the
roles stay. With both silent a current standby takes over: epoch plus one kept in MRAM, role ACTIVE, logged, raised and counted;
and an active logs PARTNER_LOST. A path alive for 10 ms after a fault is logged as restored. -/
def Parts.SilenceDecides : Prop :=
  ∀ (dt u : Nat) (cw : Bool) (s : State), UnitTakes 17 s →
    let now := s.now + dt
    let mine := if cw then s.red.cwAt else s.red.hbAt
    let other := if cw then s.red.hbAt else s.red.cwAt
    let silent := if cw then Fl.RED_STATUS_CW_SILENT else Fl.RED_STATUS_HB_SILENT
    let fault := if cw then s.red.cwFault else s.red.hbFault
    let since := if cw then s.red.cwSince else s.red.hbSince
    (s.is silent = true ∨ s.hasPartner = false ∨ ¬ quietAt now mine → ∃ t, exec (.pathSilence dt cw) s = .next t ∧ Changes dt [] [] s t) ∧
    (s.is silent = false → s.hasPartner = true → mine = some u → u + 375000 ≤ now →
      (¬ quietAt now other → ∃ t, exec (.pathSilence dt cw) s = .next t ∧ t.is silent = true ∧ t.role = s.role ∧
        Logged Ev.PATH_FAULT (if cw then 0 else 1) 0 t ∧ t.get (irqFld 10) = 1 ∧ Counted Reg.RED_PATH_FAULTS s t ∧
        Changes dt [.red, .log] ([whole Reg.RED_STATUS, cntFld Reg.RED_PATH_FAULTS, irqFld 10] ++ logFlds) s t) ∧
      (quietAt now other → s.role = 3 → ∃ t, exec (.pathSilence dt cw) s = .next t ∧ t.is silent = true ∧ t.role = 3 ∧
        Logged Ev.PARTNER_LOST 0 0 t ∧ Changes dt [.red, .log] (whole Reg.RED_STATUS :: logFlds) s t) ∧
      (quietAt now other → s.inRun = true → s.role = 2 → s.red.loaded = true → s.red.partnerRole = 3 →
        (∃ n, s.red.fastApplied = some n ∧ (s.cyc.pace + 2 ^ 32 - n) % 2 ^ 32 ≤ 4) → State.msDone s.red.fast = none → s.red.fullDone = [] →
        ∃ t, exec (.pathSilence dt cw) s = .next t ∧ t.is silent = true ∧ t.role = 3 ∧
          t.rd Reg.RED_EPOCH = (s.rd Reg.RED_EPOCH + 1) % 2 ^ 32 ∧ t.red.epochMram = t.rd Reg.RED_EPOCH ∧ t.rd Reg.RED_OWNER = s.address ∧
          t.red.how = 1 ∧ t.cyc.active = false ∧ t.cyc.pace = s.cyc.pace ∧ Logged Ev.TAKEOVER 0 0 t ∧ t.get (irqFld 9) = 1 ∧
          Counted Reg.RED_TAKEOVERS s t)) ∧
    (fault = true → ¬ quietAt now mine → since + 10000000 ≤ now → ∃ t, exec (.pathRestored dt cw) s = .next t ∧
      (if cw then t.red.cwFault else t.red.hbFault) = false ∧ Logged Ev.PATH_RESTORED (if cw then 0 else 1) 0 t ∧
      Changes dt [.red, .log] logFlds s t) ∧
    (fault = false ∨ quietAt now mine ∨ now < since + 10000000 → ∃ t, exec (.pathRestored dt cw) s = .next t ∧ Changes dt [] [] s t)

/-- A frame of the partner that carries Milestone data. -/
abbrev PartnerData (ty : Nat) (f : Bytes) (s : State) : Prop :=
  s.hasPartner = true ∧ s.red.cwLink = true ∧ byteAt f 0 = 1 ∧ byteAt f 1 = ty ∧ beAt f 2 2 = s.partner ∧ 32 ≤ f.length ∧ s.inRun = true

/-- Milestone fragments gather by kind, each pace and count of its own; resync fragments gather in order and a gap loses them all; a frame
with a bad FCS is nothing. At the apply mark, once in a pace and 400 µs after its boundary, a loaded standby applies the complete fast
Milestone of the pace before, and discards and counts one that is missing, incomplete, fails its CRC or is of another pace; a void
count applies nothing. -/
def Parts.MilestonesAreGatheredAndApplied : Prop :=
  ∀ (dt : Nat) (fs : List Byte) (p : Nat) (d : Bytes) (s : State), UnitTakes 17 s →
    let f := bytesNat fs
    (∃ t, exec (.milestoneFrameReceived dt fs false) s = .next t ∧ Changes dt [] [] s t) ∧
    (∃ t, exec (.resyncFrameReceived dt fs false) s = .next t ∧ Changes dt [] [] s t) ∧
    (PartnerData 0x11 f s → s.role = 1 ∨ s.role = 2 → s.red.exch = none →
      ∃ t, exec (.milestoneFrameReceived dt fs true) s = .next t ∧ Changes dt [.red] [] s t ∧
        (byteAt f 16 = 0 → t.red = { s.red with fast := some (State.takeFrag s.red.fast f) }) ∧
        (byteAt f 16 = 1 → State.msDone (some (State.takeFrag s.red.full f)) = none → t.red = { s.red with full := some (State.takeFrag s.red.full f) }) ∧
        (byteAt f 16 = 1 → ∀ e, State.msDone (some (State.takeFrag s.red.full f)) = some e → t.red.full = none ∧ t.red.fullDone.getLast? = some e)) ∧
    (PartnerData 0x12 f s → s.role = 1 → s.red.resyncFrom.isSome = true →
      ∃ t, exec (.resyncFrameReceived dt fs true) s = .next t ∧ Changes dt [.red] [] s t ∧
        (beAt f 18 2 = 0 → t.red.resync = some (State.takeFrag none f)) ∧
        (∀ q n l, s.red.resync = some (q, n, l) → q = beAt f 24 4 → beAt f 18 2 ≠ 0 →
          t.red.resync = if beAt f 18 2 = l.length then some (State.takeFrag s.red.resync f) else none)) ∧
    (s.cyc.voided = true ∨ 13 ∈ s.cyc.marks ∨ s.now + dt < s.cyc.boundaryAt + 400000 → ∃ t, exec (.milestoneApplyMark dt) s = .next t ∧ Changes dt [] [] s t) ∧
    (s.inRun = true → s.cyc.voided = false → 13 ∉ s.cyc.marks → s.cyc.boundaryAt + 400000 ≤ s.now + dt → s.hasPartner = true →
      s.role = 2 → s.red.loaded = true → s.cyc.leg ≠ 4 →
      let want := (s.cyc.pace + 2 ^ 32 - 1) % 2 ^ 32
      (State.msDone s.red.fast = some (want, d) → ∃ t, exec (.milestoneApplyMark dt) s = .next t ∧ t.red.fast = none ∧
        t.red.fastApplied = some want ∧ t.rd Reg.RED_MS_FAST = want) ∧
      ((State.msDone s.red.fast = some (p, d) ∧ p ≠ want) ∨ (State.msDone s.red.fast = none ∧ (s.red.fast.isSome = true ∨ s.red.partnerRole = 3)) →
        ∃ t, exec (.milestoneApplyMark dt) s = .next t ∧ t.red = { s.red with fast := none } ∧ Counted Reg.RED_MS_LOST s t ∧
          Changes dt [.red, .cyc] [whole Reg.RED_STATUS, cntFld Reg.RED_MS_LOST] s t))

/-- EXCHANGE is refused with the first code that holds, or asked for; ASSUME takes over only from a partner heard in a role other than
ACTIVE. A SYNCING device that hears no owner for 64 ring cycles, and 2 s more where it prefers standby, becomes ACTIVE with the
next epoch and starts a working epoch. A ring standby that hears no SYNC for TAKE_WAIT, and no partner, takes the segment with
the highest epoch heard plus one, its planner and allocation cold and the last commands it forwarded held. -/
def Parts.RolesChangeHands : Prop :=
  ∀ (dt : Nat) (s : State),
    let now := s.now + dt
    let pr := s.get Fl.RED_STATUS_PARTNER_ROLE
    let refusal := if s.red.exch.isSome = true ∨ s.red.exchAsked.isSome = true then 7
      else if s.role ≠ 3 ∨ pr ≠ 2 ∨ s.red.partnerCurrent = false then 2
      else if s.red.cwFault = true ∨ s.red.hbFault = true ∨ (quietAt now s.red.cwAt ∧ quietAt now s.red.hbAt) then 3
      else if s.red.partnerLayout ≠ s.layoutId then 4 else 0
    let extra := if s.is Fl.RED_CFG_ROLE_SEL = true then 2000000000 else 0
    let waits := s.red.waitFrom + 64 * s.cycleNs + extra
    let lastSync := s.ring.lastSyncNow.getD s.red.waitFrom
    let takes : Prop := s.inRun = true ∧ s.role = 2 ∧ s.is Fl.RED_STATUS_RING_STANDBY = true ∧
      lastSync + s.get Fl.RED_CFG_TAKE_WAIT * 1000000 ≤ now ∧ (s.hasPartner = true → quietAt now s.red.cwAt ∧ quietAt now s.red.hbAt)
    (HostTakes Reg.RED_CMD s →
      (∃ t, exec (.exchange dt true) s = .next t ∧ t.get Fl.RED_STATUS_EXCH_RESULT = refusal ∧
        (refusal = 0 → t.red.exchAsked.isSome = true) ∧ (refusal ≠ 0 → t.red = s.red) ∧
        Changes dt [.hif, .red] [Fl.RED_STATUS_EXCH_RESULT] s t) ∧
      (s.inRun = true → s.role = 2 → pr ≠ 3 → pr ≠ 7 → State.msDone s.red.fast = none → s.red.fullDone = [] →
        ∃ t, exec (.assume dt true) s = .next t ∧ t.role = 3 ∧ t.red.how = 3 ∧ t.rd Reg.RED_EPOCH = (s.rd Reg.RED_EPOCH + 1) % 2 ^ 32 ∧
          Counted Reg.RED_TAKEOVERS s t) ∧
      (s.inRun = false ∨ s.role ≠ 2 ∨ pr = 3 ∨ pr = 7 → ∃ t, exec (.assume dt true) s = .next t ∧
        t.get Fl.RED_STATUS_EXCH_RESULT = 5 ∧ Changes dt [.hif] [Fl.RED_STATUS_EXCH_RESULT] s t)) ∧
    (UnitTakes 17 s →
      (s.inRun = true → s.role = 1 → s.red.heardOwner = false → 64 ≤ s.red.waitCycles → waits ≤ now →
        let base := if after32 s.ring.highEpoch s.red.epochMram = true then s.ring.highEpoch else s.red.epochMram
        ∃ t, exec (.roleWaitExpiry dt) s = .next t ∧ t.role = 3 ∧ t.rd Reg.RED_EPOCH = (base + 1) % 2 ^ 32 ∧
          t.red.epochMram = (base + 1) % 2 ^ 32 ∧ t.rd Reg.RED_OWNER = s.address ∧ t.cyc = { s.cyc with epochDue := true, active := false }) ∧
      (s.role ≠ 1 ∨ s.red.heardOwner = true ∨ s.red.waitCycles < 64 ∨ now < waits →
        ∃ t, exec (.roleWaitExpiry dt) s = .next t ∧ Changes dt [] [] s t) ∧
      (takes → ∃ t, exec (.ringTakeover dt) s = .next t ∧ t.role = 3 ∧ t.rd Reg.RED_EPOCH = (s.ring.highEpoch + 1) % 2 ^ 32 ∧
        t.rd Reg.RED_OWNER = s.address ∧ t.red.how = 4 ∧ t.red.heldCmds = s.ring.lastCmds ∧ t.hzn.cold = true ∧
        Counted Reg.RED_TAKEOVERS s t ∧ Logged Ev.TAKEOVER 0 0 t) ∧
      (¬ takes → ∃ t, exec (.ringTakeover dt) s = .next t ∧ Changes dt [] [] s t))

/-- Heartbeats are sent and heard, and the silence of the paths decides. -/
def Obligations.PartnersHearEachOther : Prop :=
  Parts.HeartbeatsAreSent ∧ Parts.HeartbeatsAreHeard ∧ Parts.SilenceDecides

/-- Milestones are gathered and applied, and roles change hands by rule. -/
def Obligations.RolesAndMilestonesMove : Prop :=
  Parts.MilestonesAreGatheredAndApplied ∧ Parts.RolesChangeHands

/-- One pair (EPOCH, OWNER) precedes another when its EPOCH is after the other's modulo 2^32, or when neither is after the other and
its OWNER is the lower address (R342). -/
def Obligations.PairsPrecedeByEpochThenOwner : Prop :=
  ∀ (e o e' o' : Nat), e < 2 ^ 32 → e' < 2 ^ 32 →
    let isAfter (a b : Nat) : Prop := ∃ d, 1 ≤ d ∧ d < 2 ^ 31 ∧ (a = b + d ∨ a + 2 ^ 32 = b + d)
    (precedes e o e' o' = true ↔ isAfter e e' ∨ (¬ isAfter e e' ∧ ¬ isAfter e' e ∧ o < o'))


/-! ### Sensor ports and filter banks (R79 to R104) -/

/-- The registers that a sample of stream n through channel c may write. -/
def sampleFlds (n c : Nat) : List Fld :=
  [Reg.SNS_STR_STATUS n, Reg.SNS_STR_SKEW n, Reg.SNS_STR_TRACK n, Reg.SNS_STR_SLIP n, Reg.SNS_STR_GAP n, Reg.SNS_STR_DISCARD n,
    Reg.FIR_CH_STATUS c, Reg.FIR_CH_FADE c].map whole

/-- Stream n takes a sample stamped `st` as it comes: the image has its record, its path is open, it waits for no trigger, and the
sample is newer than its last. -/
def TakesSample (n : Nat) (r : Bytes) (st : Nat) (s : State) : Prop :=
  strRec s n = some r ∧ s.pathOpen = true ∧ (byteAt r 20 = 0 ∨ byteAt r 1 = 6) ∧ ∀ l, (s.strm n).last = some l → l < st

/-- The stream's newest input is this value at this stamp. -/
def Arrived (n : Nat) (v : List Int) (st : Nat) (t : State) : Prop := (t.strm n).prev = v ∧ (t.strm n).last = some st

/-- The error counters of a port. -/
def portErrs (p : Nat) : List Fld :=
  [Reg.SNS_PORT_ERR_FRAME p, Reg.SNS_PORT_ERR_CHECK p, Reg.SNS_PORT_ERR_OVERRUN p, Reg.SNS_PORT_ERR_OTHER p].map cntFld

/-- A serial port in IEC mode counts a sentence of no form, one that no stream is bound to or that R82 refuses, and one that began
before the port's present settings, in ERR_OTHER and one whose checksum fails in ERR_CHECK, and delivers a bound one's value with
the stamp of its first character less the latency; a DTM other than W84 holds its talker's positions back. A port in
another mode takes nothing. -/
def Parts.SentencesAreChecked : Prop :=
  ∀ (dt p : Nat) (rx : SerialIn) (s : State), UnitTakes 8 s → p < 5 → rx.chars ≠ [] → rx.lost = 0 →
    let cs := bytesNat rx.chars
    let counts (a : Nat) : Prop := ∃ t, exec (.iecSentenceReceived dt p rx) s = .next t ∧ Counted a s t ∧ Changes dt [.sns] (portErrs p) s t
    (s.get (Fl.SNS_PORT_CFG_MODE p) ≠ 1 → ∃ t, exec (.iecSentenceReceived dt p rx) s = .next t ∧ Changes dt [] [] s t) ∧
    (s.get (Fl.SNS_PORT_CFG_MODE p) = 1 → s.now + dt < (s.port p).cfgAt + rx.agoNs → counts (Reg.SNS_PORT_ERR_OTHER p)) ∧
    (s.get (Fl.SNS_PORT_CFG_MODE p) = 1 → (s.port p).cfgAt + rx.agoNs ≤ s.now + dt →
      (sentenceBody cs = none → counts (Reg.SNS_PORT_ERR_OTHER p)) ∧
      ∀ ck b, sentenceBody cs = some (ck, b) →
        let good := ck.getD (s.is (Fl.SNS_PORT_CFG_CSUM_OPT p))
        let addr := (splitOn 44 b).headD []
        let rs := s.boundStreams p (beAt addr 0 2) (addr.drop 2)
        let d := decodeSentence (addr.drop 2) ((splitOn 44 b).drop 1)
        let stamp (n : Nat) : Nat := (s.elapse dt).edgeStamp p rx.agoNs - s.strLatAt n (s.now + dt - rx.agoNs)
        (good = false → counts (Reg.SNS_PORT_ERR_CHECK p)) ∧
        (good = true → addr.length ≠ 5 ∨ rs = [] ∨ d = .refused → counts (Reg.SNS_PORT_ERR_OTHER p)) ∧
        (good = true → addr.length = 5 → ∀ r v, rs = [r] → d = .values [v] → TakesSample (byteAt r 0) r (stamp (byteAt r 0)) s →
          ∃ t, exec (.iecSentenceReceived dt p rx) s = .next t ∧ Arrived (byteAt r 0) v (stamp (byteAt r 0)) t ∧
            Changes dt [.sns, .fus, .log] (portErrs p ++ sampleFlds (byteAt r 0) (byteAt r 21) ++ logFlds) s t) ∧
        (good = true → addr.length = 5 → rs ≠ [] → ∀ w84, d = .dtm w84 → ∃ t, exec (.iecSentenceReceived dt p rx) s = .next t ∧
          (t.port p).datum.contains (beAt addr 0 2) = !w84))

/-- In binary mode bytes without a sync byte are passed over, a frame that is not complete waits for its rest, one whose length is no
frame's counts in ERR_OTHER and one whose check value differs in ERR_CHECK, and an accepted one delivers its field with the stamp of
its first character less the latency. A port in another mode takes nothing. (The clauses are of a reception that starts
with nothing waiting.) -/
def Parts.BinaryFramesAreChecked : Prop :=
  ∀ (dt p : Nat) (rx : SerialIn) (s : State), UnitTakes 8 s → p < 5 → rx.chars ≠ [] → rx.lost = 0 →
    let cs := bytesNat rx.chars
    let ex := exec (.binaryFrameReceived dt p rx) s
    let counts (a : Nat) : Prop := ∃ t, ex = .next t ∧ Counted a s t ∧ Changes dt [.sns] (portErrs p) s t
    (s.get (Fl.SNS_PORT_CFG_MODE p) ≠ 2 → ∃ t, ex = .next t ∧ Changes dt [] [] s t) ∧
    (s.get (Fl.SNS_PORT_CFG_MODE p) = 2 → (s.port p).bin = [] → (s.port p).cfgAt + rx.agoNs ≤ s.now + dt →
      let f := framingOf s (s.get (Fl.SNS_PORT_CFG_FRAMING p))
      let n := byteAt f 0
      let len := frameLen f cs
      let ck := checkSize (byteAt f 1)
      let range : Prop := len ≤ 512 ∧ ((byteAt f 11 + ck : Nat) : Int) ≤ len ∧ 1 ≤ len
      let raw := cs.drop (cs.length - ck)
      let got := beNat (if byteAt f 12 = 1 then raw.reverse else raw)
      let ok : Prop := byteAt f 1 = 0 ∨ frameCheck (byteAt f 1) ((cs.take (cs.length - ck)).drop (byteAt f 11)) = got
      let alone : Prop := ∀ b ∈ cs.drop 1, b ≠ byteAt f 4
      (1 ≤ n → (∀ b ∈ cs, b ≠ byteAt f 4) → ∃ t, ex = .next t ∧ (t.port p).bin = [] ∧ Changes dt [.sns] (portErrs p) s t) ∧
      (1 ≤ n → n ≤ cs.length → cs.take n = (f.drop 4).take n → beAt f 2 2 ≠ 0 ∨ byteAt f 8 + byteAt f 9 ≤ cs.length →
        (¬ range → alone → counts (Reg.SNS_PORT_ERR_OTHER p)) ∧
        (range → (cs.length : Int) < len → ∃ t, ex = .next t ∧ (t.port p).bin.map (·.1) = cs ∧ Changes dt [.sns] (portErrs p) s t) ∧
        (range → (cs.length : Int) = len → ¬ ok → alone → counts (Reg.SNS_PORT_ERR_CHECK p)) ∧
        (range → (cs.length : Int) = len → ok → byteAt f 13 = 1 → rx.agoNs ≤ s.now + dt →
          let d := (f.drop 16).take 12
          let m := byteAt d 4
          let st := (s.elapse dt).edgeStamp p rx.agoNs - s.strLatAt m (s.now + dt - rx.agoNs)
          ∀ q, strRec s m = some q → TakesSample m q st s → byteAt q 1 = p + 1 → byteAt q 3 = 1 →
            byteAt q 11 = s.get (Fl.SNS_PORT_CFG_FRAMING p) →
            ∃ t, ex = .next t ∧ (t.port p).bin = [] ∧ Arrived m [frameField (byteAt q 24 == 6) d cs] st t)))

/-- A byte written to a port waits behind those not yet sent, and one that meets a full FIFO is lost with TX_LOST, which a read of the
status shows and clears. -/
def Parts.BytesAreSent : Prop :=
  ∀ (dt p : Nat) (w : Word) (s : State), p < 5 → HostTakes (Reg.SNS_PORT_TXDATA p) s →
    let x := s.port p
    let sent := min x.tx.length ((s.now + dt - x.txFrom) / max 1 (s.charNs p))
    let left := x.tx.drop sent
    (left.length < 256 → ∃ t, exec (.snsPortTxdata dt p w) s = .next t ∧ (t.port p).tx = left ++ [w.toNat % 256] ∧
      t.get (Fl.SNS_PORT_STATUS_TX_LEVEL p) = left.length + 1 ∧ Changes dt [.sns] [Fl.SNS_PORT_STATUS_TX_LEVEL p] s t) ∧
    (256 ≤ left.length → ∃ t, exec (.snsPortTxdata dt p w) s = .next t ∧ (t.port p).tx = left ∧
      t.is (Fl.SNS_PORT_STATUS_TX_LOST p) = true ∧ Changes dt [.sns] [whole (Reg.SNS_PORT_STATUS p)] s t) ∧
    (left.length ≤ 256 → ∃ t v, exec (.snsPortStatusRead dt p) s = .next t ∧ t.hif.miso = portBytes v ∧
      v.testBit 2 = s.is (Fl.SNS_PORT_STATUS_TX_LOST p) ∧ v / 256 % 512 = left.length ∧ v.testBit 1 = x.brk ∧
      t.is (Fl.SNS_PORT_STATUS_TX_LOST p) = false ∧ Changes dt [.sns, .hif] [whole (Reg.SNS_PORT_STATUS p)] s t)

/-- A stream takes a newer sample as its newest input, counts one that is not newer in DISCARD, and takes none while its path is closed; a
triggered stream takes at most one sample per edge, stamped with the edge, within its window, and counts a gap for an edge that passed
without one. It is STALE after STALE_N nominal periods of silence. -/
def Parts.StreamsTakeSamples : Prop :=
  ∀ (dt n st e at0 : Nat) (older : List (Nat × Nat)) (v : List Int) (r : Bytes) (s : State), s.alive = true →
    strRec s n = some r → v ≠ [] →
    let x := s.strm n
    let triggered : Prop := byteAt r 20 ≠ 0 ∧ byteAt r 1 ≠ 6
    let lim := at0 + s.strLatAt n (s.now + dt)
    let discards : Prop := ∃ t, exec (.streamSample dt n v st) s = .next t ∧ Counted (Reg.SNS_STR_DISCARD n) s t ∧
      Changes dt [] [cntFld (Reg.SNS_STR_DISCARD n)] s t
    (s.pathOpen = false → ∃ t, exec (.streamSample dt n v st) s = .next t ∧ Changes dt [] [] s t) ∧
    (TakesSample n r st s → ∃ t, exec (.streamSample dt n v st) s = .next t ∧ Arrived n v st t ∧
      Changes dt [.sns, .fus, .log] (sampleFlds n (byteAt r 21) ++ logFlds) s t) ∧
    (s.pathOpen = true → ¬ triggered → ∀ l, x.last = some l → st ≤ l → discards) ∧
    (s.pathOpen = true → triggered → aGetD s.sns.edges (byteAt r 20 - 1) [] = [] → discards) ∧
    (s.pathOpen = true → triggered → aGetD s.sns.edges (byteAt r 20 - 1) [] = (e, at0) :: older → at0 ≤ s.now + dt →
      (s.now + dt ≤ lim → (∀ p, x.edge = some p → p < e) → (∀ l, x.last = some l → l < e) →
        ∃ t, exec (.streamSample dt n v st) s = .next t ∧ Arrived n v e t ∧ (t.strm n).edge = some e ∧
          (x.seen = 2 → (∀ p ∈ older, p.1 ≤ e) → Counted (Reg.SNS_STR_GAP n) s t) ∧
          Changes dt [.sns, .fus, .log] (sampleFlds n (byteAt r 21) ++ logFlds) s t) ∧
      (lim < s.now + dt → discards) ∧
      (∀ p, x.edge = some p → e ≤ p → discards)) ∧
    (s.pathOpen = true → x.last.isSome = true →
      (x.lastAt + byteAt r 22 * strNom r * 1000 ≤ s.now + dt → ∃ t, exec (.streamStale dt n) s = .next t ∧
        t.get (Fl.SNS_STR_STATUS_STATE n) = 3 ∧ Changes dt [] [Fl.SNS_STR_STATUS_STATE n] s t) ∧
      (s.now + dt < x.lastAt + byteAt r 22 * strNom r * 1000 → ∃ t, exec (.streamStale dt n) s = .next t ∧ Changes dt [] [] s t))

/-- A frame of the enabled sample port is due at a pace boundary and every 1/f_S after it, at 500 Hz at every second boundary, of even
paces in RUN (R87); instants are judged on the 4 ns grid. -/
def frameDueAt (s : State) (now : Nat) : Bool :=
  let since := now - s.cyc.boundaryAt
  if s.get Fl.SNS_SMP_CFG_RATE = 0 then decide (since < 4) && (if s.inRun then s.cyc.pace % 2 == 0 else s.sns.bnd % 2 == 0)
  else decide (since % (1000000000 / (500 * 2 ^ s.get Fl.SNS_SMP_CFG_RATE)) < 4)

/-- A frame of the sample port starts when one is due while it is enabled; a complete slot of an enabled lane gives its stream bits 31
to 8 as a signed value with its own frame's stamp, the frame before where FS_DELAY ends slot 7 in the next frame. A running
trigger's edge falls on its schedule of PHASE and PERIOD and is dated at the local clock, and each of its streams has one more
edge to answer. -/
def Parts.FramesAndTriggers : Prop :=
  ∀ (dt lane slot k t0 at0 t1 at1 : Nat) (w : Word) (r : Bytes) (s : State), UnitTakes 8 s → k < 2 →
    let now := s.now + dt
    let clk := (s.elapse dt).clk
    let starts : Prop := s.is Fl.SNS_SMP_CFG_EN = true ∧ frameDueAt s now = true ∧ ∀ f, s.sns.frame = some f → f.2 + 4 ≤ now
    let ends (a : Nat) : Prop :=
      a + (32 * slot + 32 + s.get Fl.SNS_SMP_CFG_FS_DELAY) * (1000000000 / (500 * 2 ^ s.get Fl.SNS_SMP_CFG_RATE)) / 256 < now + 4
    let on : Prop := s.is Fl.SNS_SMP_CFG_EN = true ∧ lane < 4 ∧ slot < 8 ∧ (s.get Fl.SNS_SMP_CFG_LANES).testBit lane = true
    let last7 : Prop := slot = 7 ∧ s.get Fl.SNS_SMP_CFG_FS_DELAY = 1
    let bound : Prop := (strRecs s).filter (fun x => byteAt x 1 == 6 && byteAt x 2 == 8 * lane + slot) = [r]
    let period := s.rd (Reg.SNS_TRIG_PERIOD k) % 2 ^ 20 * 1000
    let phase := s.rd (Reg.SNS_TRIG_PHASE k) % 2 ^ 20 * 1000
    let due : Prop := period ≠ 0 ∧ (clk + period - phase % period) % period ≤ 4 ∧
      ∀ l, (aGetD s.sns.edges k []).head? = some l → l.2 + 8 ≤ now
    (starts → ∃ t, exec (.samplePortFrameStart dt) s = .next t ∧
      t.sns = { s.sns with frame := some (clk, now), prevFrame := s.sns.frame, frameBnd := 0 } ∧ Changes dt [.sns] [] s t) ∧
    (¬ starts → ∃ t, exec (.samplePortFrameStart dt) s = .next t ∧ Changes dt [] [] s t) ∧
    (s.sns.frame = some (t0, at0) → ends at0 → on → bound → TakesSample (byteAt r 0) r (t0 - s.strLat (byteAt r 0)) s →
      ∃ t, exec (.sampleSlotComplete dt lane slot w) s = .next t ∧
        Arrived (byteAt r 0) [sBits 24 (w.toNat / 256)] (t0 - s.strLat (byteAt r 0)) t) ∧
    (s.sns.frame = some (t0, at0) → ¬ ends at0 → s.sns.prevFrame = some (t1, at1) → ends at1 → last7 → on → bound →
      TakesSample (byteAt r 0) r (t1 - s.strLat (byteAt r 0)) s →
      ∃ t, exec (.sampleSlotComplete dt lane slot w) s = .next t ∧
        Arrived (byteAt r 0) [sBits 24 (w.toNat / 256)] (t1 - s.strLat (byteAt r 0)) t) ∧
    (¬ on ∨ (s.sns.frame = some (t0, at0) ∧ ¬ ends at0 ∧ ¬ last7) ∨ (s.sns.frame = none ∧ s.sns.prevFrame = none) →
      ∃ t, exec (.sampleSlotComplete dt lane slot w) s = .next t ∧ Changes dt [] [] s t) ∧
    (s.is (Fl.SNS_TRIG_CTL_EN k) = false ∨ s.clock.running = false ∨ ¬ due →
      ∃ t, exec (.triggerEdge dt k) s = .next t ∧ Changes dt [] [] s t) ∧
    (s.is (Fl.SNS_TRIG_CTL_EN k) = true → s.clock.running = true → due → s.sns.skip = [] →
      ∃ t, exec (.triggerEdge dt k) s = .next t ∧ (aGetD t.sns.edges k []).head? = some (clk, now) ∧
        (∀ q ∈ strRecs s, byteAt q 20 ≠ k + 1 → (∀ q' ∈ strRecs s, byteAt q' 0 = byteAt q 0 → byteAt q' 20 ≠ k + 1) →
          t.strm (byteAt q 0) = s.strm (byteAt q 0)) ∧
        ((strRecs s).filter (fun x => byteAt x 20 == k + 1) = [r] →
          t.strm (byteAt r 0) = { s.strm (byteAt r 0) with seen := (s.strm (byteAt r 0)).seen + 1 }) ∧
        Changes dt [.sns] [] s t)

/-- A coefficient reaches the selected channel's inactive bank only, and its group delay GD_INACT; while a fade is in progress either
write is ignored and sets COEF_LOST. A fade is refused with the first code that holds and changes nothing else, or held for
the leg boundary with GO. -/
def Parts.BanksAndFades : Prop :=
  ∀ (dt i c : Nat) (w : Word) (s : State), i < 768 → c < 48 →
    let sel := s.get ⟨Reg.FIR_COEF_SEL, 5, 0⟩
    let m := w.toNat % 2048
    let code := if s.fading c = true then 3 else if s.bankOther c = [] then 5 else if m = 0 ∨ 1024 < m then 4
      else if s.rd (Reg.FIR_CH_GD_ACT c) ≠ s.rd (Reg.FIR_CH_GD_INACT c) then 2 else 0
    (HostTakes (Reg.FIR_COEF i) s → sel < 48 →
      (s.fading sel = true → ∃ t, exec (.firCoefWrite dt i w) s = .next t ∧ t.is (Fl.FIR_CH_STATUS_COEF_LOST sel) = true ∧
        Changes dt [] [Fl.FIR_CH_STATUS_COEF_LOST sel] s t) ∧
      (s.fading sel = false → ∃ t, exec (.firCoefWrite dt i w) s = .next t ∧ t.bankOther sel = (s.bankOther sel).set i (sInt w.toNat) ∧
        t.bankActive sel = s.bankActive sel ∧ Changes dt [.sns] [] s t)) ∧
    (HostTakes (Reg.FIR_CH_GD_INACT c) s → Rw.FIR_CH_GD_INACT.legalOk w.toNat = true →
      (s.fading c = true → ∃ t, exec (.firGdInactWrite dt c w) s = .next t ∧ t.is (Fl.FIR_CH_STATUS_COEF_LOST c) = true ∧
        Changes dt [] [Fl.FIR_CH_STATUS_COEF_LOST c] s t) ∧
      (s.fading c = false → ∃ t, exec (.firGdInactWrite dt c w) s = .next t ∧ t.rd (Reg.FIR_CH_GD_INACT c) = w.toNat % 2 ^ 18 ∧
        Changes dt [] [whole (Reg.FIR_CH_GD_INACT c)] s t)) ∧
    (HostStages (Reg.FIR_CH_FADE c) s → Rw.FIR_CH_FADE.legalOk w.toNat = true → w.toNat.testBit 31 = true →
      (code = 0 → ∃ t, exec (.fadeRequest dt c w) s = .next t ∧ Changes dt [.staged] [] s t ∧
        t.staged = aSet s.staged (Reg.FIR_CH_FADE c) (BitVec.ofNat 32 (2 ^ 31 + m))) ∧
      (code ≠ 0 → ∃ t, exec (.fadeRequest dt c w) s = .next t ∧ t.get (Fl.FIR_CH_STATUS_RESULT c) = code ∧
        Changes dt [] [Fl.FIR_CH_STATUS_RESULT c] s t))

/-- A sensor port checks its sentences and frames, and sends the host's bytes. -/
def Obligations.PortsCheckWhatTheyReceive : Prop :=
  Parts.SentencesAreChecked ∧ Parts.BinaryFramesAreChecked ∧ Parts.BytesAreSent

/-- Samples enter their streams, sample frames and triggers run by the schedule, and coefficient banks fade. -/
def Obligations.SamplesEnterTheirStreams : Prop :=
  Parts.StreamsTakeSamples ∧ Parts.FramesAndTriggers ∧ Parts.BanksAndFades

/-- A binary angle is the degrees times 2^32/360 rounded to nearest, halves away from zero, modulo 2^32; the difference of two angles
is their unsigned difference read as signed 32-bit, and 350° minus 10° is −20° (R8). -/
def Obligations.AnglesRoundToNearest : Prop :=
  (∀ q : Rat, ∃ r k : Int, degAng q = r + k * 2 ^ 32 ∧ 0 ≤ degAng q ∧ degAng q < 2 ^ 32 ∧
    -(1 / 2) ≤ q * 4294967296 / 360 - (r : Rat) ∧ q * 4294967296 / 360 - (r : Rat) ≤ 1 / 2 ∧
    (q * 4294967296 / 360 - (r : Rat) = 1 / 2 → q < 0) ∧ (q * 4294967296 / 360 - (r : Rat) = -(1 / 2) → 0 < q)) ∧
  (∀ a b : Nat, a < 2 ^ 32 → b < 2 ^ 32 → ∃ k : Int, angDiff a b = (a : Int) - b + k * 2 ^ 32 ∧
    -(2 ^ 31) ≤ angDiff a b ∧ angDiff a b < 2 ^ 31) ∧
  angDiff (degAng 350).toNat (degAng 10).toNat = -((degAng 20 : Int))


/-! ### The satellite navigation baseband (R105 to R138) -/

/-- An acquired channel enters track, VECTOR where the baseband is, with its C/N0; a lost signal returns its channel to ACQUIRING; the
loss of GCLK idles every channel; the mode is ACQUIRING exactly while no channel is in track. A channel in another state
stays as it is. -/
def Parts.ChannelsTrack : Prop :=
  ∀ (dt k : Nat) (a : Acq) (s : State), UnitTakes 10 s →
    let acquires : Prop := k < 192 ∧ s.chState k = 1 ∧ s.is Fl.GNS_STATUS_GCLK_LOST = false
    let loses : Prop := k < 192 ∧ 2 ≤ s.chState k
    let tracks (t : State) : Prop := ∃ j < 192, 2 ≤ t.chState j
    let fields := [Fl.GNS_CH_STATUS_STATE k, Fl.GNS_CH_STATUS_CN0 k, Fl.GNS_STATUS_MODE]
    (acquires → ∃ t, exec (.acquisitionDone dt k a) s = .next t ∧ t.chState k = (if s.get Fl.GNS_STATUS_MODE = 2 then 3 else 2) ∧
      t.get (Fl.GNS_CH_STATUS_CN0 k) = min 255 (a.cn0 / 100) ∧
      t.get Fl.GNS_STATUS_MODE = (if s.get Fl.GNS_STATUS_MODE = 0 then 1 else s.get Fl.GNS_STATUS_MODE) ∧ Changes dt [] fields s t) ∧
    (¬ acquires → ∃ t, exec (.acquisitionDone dt k a) s = .next t ∧ Changes dt [] [] s t) ∧
    (loses → ∃ t, exec (.signalLost dt k) s = .next t ∧ t.chState k = 1 ∧ (t.get Fl.GNS_STATUS_MODE ≠ 0 ↔ tracks t) ∧
      Changes dt [] fields s t) ∧
    (¬ loses → ∃ t, exec (.signalLost dt k) s = .next t ∧ Changes dt [] [] s t) ∧
    ∃ t, exec (.gclkLost dt) s = .next t ∧ (∀ j < 192, t.chState j = 0) ∧ t.is Fl.GNS_STATUS_GCLK_LOST = true ∧
      t.get Fl.GNS_STATUS_MODE = 0 ∧
      Changes dt [] ([Fl.GNS_STATUS_GCLK_LOST, Fl.GNS_STATUS_MODE] ++ (List.range 192).map Fl.GNS_CH_STATUS_STATE) s t

/-- The fields that an epoch may write. -/
def pvtFlds : List Fld :=
  [Reg.GNS_STATUS, Reg.GNS_INTEGRITY, Reg.GNS_HDG, Reg.GNS_HDG_Q, Reg.GNS_PVT_LAT, Reg.GNS_PVT_LON, Reg.GNS_PVT_HGT, Reg.GNS_PVT_Q,
    Reg.GNS_RTCM_STATUS, Reg.GNS_TIME_RET, Reg.GNS_TIME_OFFSET, Reg.TIM_UTC].map whole ++ [irqFld 4] ++ wholes 3 Reg.GNS_BASE_MEAS ++
    wholes 192 Reg.GNS_CH_STATUS ++ timFlds

/-- An epoch with a solution shows it: with no base epoch FIX is 2 where SBAS corrections were applied and 1 otherwise, with a base position
and an epoch no older than AGE_MAX it is 4 or 3; in SCALAR mode the position and the velocity go to fusion unless delivery is
barred. One without a solution shows FIX 0. An epoch that gives no time, from a closed baseband too, takes the GNSS source's
qualification. -/
def Parts.EpochsGivePositions : Prop :=
  ∀ (dt : Nat) (e : PvtIn) (s : State), s.alive = true →
    let barred (t : State) : Prop := t.is Fl.GNS_STATUS_GCLK_UNLOCK = true ∨ t.is Fl.GNS_STATUS_GCLK_LOST = true ∨
      t.is Fl.GNS_STATUS_INTEGRITY = true
    (s.isOpen 10 = true → ∃ t, exec (.pvtEpoch dt e) s = .next t ∧
      (e.sol = none → t.get Fl.GNS_STATUS_FIX = 0) ∧
      (∀ p, e.sol = some p → t.rd Reg.GNS_PVT_LAT = p.lat.toNat ∧ t.rd Reg.GNS_PVT_LON = p.lon.toNat ∧
        t.rd Reg.GNS_PVT_HGT = uInt p.hgt ∧ t.get Fl.GNS_PVT_Q_HDOP = min 65535 p.hdop ∧
        (s.gns.baseAt = none → t.get Fl.GNS_PVT_Q_AGE = 255 ∧ t.get Fl.GNS_STATUS_FIX =
          (if s.is Fl.GNS_CTL_SBAS_CORR = true ∧ (s.rd Reg.GNS_CTL).testBit 3 = true ∧ p.sbas = true then 2 else 1)) ∧
        (∀ b a, s.gns.base = some b → (s.elapse dt).baseAge = some a → t.get Fl.GNS_PVT_Q_AGE = min (a / 1000) 254 ∧
          (a ≤ s.rd Reg.GNS_RTCM_CFG % 64 * 1000 → s.gns.rtkRestart = false → ∀ q, e.rtkRatio = some q →
            t.get Fl.GNS_STATUS_FIX = (if 30 ≤ q then 4 else 3)) ∧
          (a ≤ s.rd Reg.GNS_RTCM_CFG % 64 * 1000 → s.gns.rtkRestart = true → t.get Fl.GNS_STATUS_FIX = 3) ∧
          (s.rd Reg.GNS_RTCM_CFG % 64 * 1000 < a → t.get Fl.GNS_STATUS_FIX < 3)) ∧
        (t.get Fl.GNS_STATUS_MODE = 1 → ¬ barred t → s.isOpen 9 = true → ∃ x ∈ t.fus.inbox, x.dest = 64 ∧
          x.v = [sInt p.lat.toNat, (p.lon.toNat : Int), p.vn, p.ve] ∧ x.att = { gst := some (p.sn, p.se) })) ∧
      (t.get Fl.GNS_STATUS_SATS_USED < 2 ∨ barred t → s.isOpen 11 = true → (t.timSrc 1).run = 0 ∧ t.get ⟨Reg.GNS_TIME_RET, 3, 0⟩ = 0) ∧
      Changes dt [.gns, .fus, .tim, .clock, .log] pvtFlds s t) ∧
    (s.isOpen 10 = false → s.isOpen 11 = true → ∃ t, exec (.pvtEpoch dt e) s = .next t ∧ (t.timSrc 1).run = 0 ∧
      t.get ⟨Reg.GNS_TIME_RET, 3, 0⟩ = 0 ∧ Changes dt [.tim, .clock] (whole Reg.GNS_TIME_RET :: timFlds) s t) ∧
    (s.isOpen 10 = false → s.isOpen 11 = false → ∃ t, exec (.pvtEpoch dt e) s = .next t ∧ Changes dt [] [] s t)

/-- A host byte of RTCM enters the FIFO while the source is the host, or counts as ignored; what leaves the FIFO reaches the decoder. With
nothing waiting, a preamble whose frame is not complete waits for its rest; one whose CRC fails counts in RTCM_ERR and the search resumes
at the byte after it; a good frame gives the base's station and position, the base's epoch, an ephemeris, or counts as ignored by its type.
Without a source nothing is decoded. -/
def Parts.CorrectionsAreChecked : Prop :=
  ∀ (dt : Nat) (w : Word) (fs : List Byte) (s : State),
    let f := bytesNat fs
    let n := beAt f 1 2 % 1024
    let m := (f.drop 3).take n
    let ty := State.bitsAt m 0 12
    let sound : Prop := crc24q (f.take (n + 3)) = beAt f (n + 3) 3
    let msm := [1074, 1075, 1077, 1094, 1095, 1097]
    let glo := [1124, 1125, 1127]
    let eph := [1019, 1042, 1045, 1046]
    let ex := exec (.rtcmFrameReceived dt fs) s
    (HostTakes Reg.GNS_RTCM_DATA s →
      (s.get Fl.GNS_CTL_RTK_SRC ≠ 1 → ∃ t, exec (.gnsRtcmData dt w) s = .next t ∧ Counted Reg.GNS_RTCM_IGNORED s t ∧
        Changes dt [] [cntFld Reg.GNS_RTCM_IGNORED] s t) ∧
      (s.get Fl.GNS_CTL_RTK_SRC = 1 → ∃ t k, exec (.gnsRtcmData dt w) s = .next t ∧ k ≤ s.gns.fifo.length ∧
        t.gns.dec = s.gns.dec ++ s.gns.fifo.take k ∧
        ((s.gns.fifo.drop k).length < 256 → t.gns.fifo = s.gns.fifo.drop k ++ [w.toNat % 256]) ∧
        (256 ≤ (s.gns.fifo.drop k).length → t.gns.fifo = s.gns.fifo.drop k ∧ Counted Reg.GNS_RTCM_IGNORED s t) ∧
        Changes dt [.gns, .free] [cntFld Reg.GNS_RTCM_IGNORED] s t)) ∧
    (UnitTakes 10 s → s.get Fl.GNS_CTL_RTK_SRC = 0 → ∃ t, ex = .next t ∧ Changes dt [] [] s t) ∧
    (UnitTakes 10 s → s.get Fl.GNS_CTL_RTK_SRC ≠ 0 → s.gns.fifo = [] → s.gns.dec = [] →
      (0xD3 ∉ f → ∃ t, ex = .next t ∧ t.gns = s.gns ∧ Changes dt [.gns] [] s t) ∧
      (byteAt f 0 = 0xD3 → f.length < 3 ∨ f.length < n + 6 → ∃ t, ex = .next t ∧ t.gns = { s.gns with dec := f } ∧
        Changes dt [.gns] [] s t) ∧
      (byteAt f 0 = 0xD3 → 3 ≤ f.length → n + 6 ≤ f.length → ¬ sound → 0xD3 ∉ f.drop 1 →
        ∃ t, ex = .next t ∧ Counted Reg.GNS_RTCM_ERR s t ∧ t.gns = s.gns ∧ Changes dt [.gns] [cntFld Reg.GNS_RTCM_ERR] s t) ∧
      (byteAt f 0 = 0xD3 → 3 ≤ f.length → f.length = n + 6 → sound → ∃ t, ex = .next t ∧
        (ty = 1005 ∨ ty = 1006 → t.gns.base = some (State.bitsAt m 12 12, sBits 38 (State.bitsAt m 34 38),
          sBits 38 (State.bitsAt m 74 38), sBits 38 (State.bitsAt m 114 38)) ∧ t.get Fl.GNS_RTCM_STATUS_STATION = State.bitsAt m 12 12) ∧
        (ty ∈ msm → t.gns.baseAt = some (State.bitsAt m 24 30) ∧ t.gns.base = s.gns.base) ∧
        (ty ∈ glo → t.gns.baseAt = some ((State.bitsAt m 24 30 + 14000) % 604800000) ∧ t.gns.base = s.gns.base) ∧
        (ty ∈ eph → aGetD t.gns.aid (ty * 256 + State.bitsAt m 12 6) [] = m ∧ t.gns.base = s.gns.base) ∧
        (ty ∉ [1005, 1006] ++ msm ++ glo ++ eph → Counted Reg.GNS_RTCM_IGNORED s t ∧ t.gns = s.gns) ∧
        Changes dt [.gns] [cntFld Reg.GNS_RTCM_IGNORED, Fl.GNS_RTCM_STATUS_STATION] s t))

/-- A line above TH engages a free notch of its stream, with a record; an engaged notch follows its line; an engaged notch of a stream whose
notches are turned off releases, with a record, and such a stream has none. NOTCH_FULL shows more than two lines of an enabled
stream above TH. -/
def Parts.NotchesFollowLines : Prop :=
  ∀ (dt : Nat) (l : SpecLine) (s : State), UnitTakes 10 s → l.stream < 4 →
    let en (i : Nat) : Prop := (s.get Fl.GNS_NOTCH_CFG_EN).testBit i = true
    ∃ t, exec (.notchSpectrumUpdate dt [l]) s = .next t ∧
      (s.get Fl.GNS_NOTCH_CFG_TH < l.level → en l.stream → s.notchOn l.stream 0 = false → s.notchOn l.stream 1 = false →
        t.notchOn l.stream 0 = true ∧ t.notchOn l.stream 1 = false ∧
          ((∀ i < 4, i ≠ l.stream → ¬ en i → s.notchOn i 0 = false ∧ s.notchOn i 1 = false) → Logged Ev.NOTCH_ENGAGED l.stream 0 t) ∧
          t.get (Fl.GNS_NOTCH_STATUS_FREQ (2 * l.stream)) = (l.freq % 65536).toNat ∧
          t.get (Fl.GNS_NOTCH_STATUS_JNR (2 * l.stream)) = min 127 l.level) ∧
      (s.get Fl.GNS_NOTCH_CFG_TH ≤ l.level → en l.stream → s.notchOn l.stream 0 = true → s.notchOn l.stream 1 = false →
        (l.freq - s.notchFreq l.stream 0).natAbs ≤ 10 → t.notchOn l.stream 0 = true ∧
          t.get (Fl.GNS_NOTCH_STATUS_FREQ (2 * l.stream)) = (l.freq % 65536).toNat) ∧
      (∀ i < 4, ¬ en i → t.notchOn i 0 = false ∧ t.notchOn i 1 = false) ∧
      (s.get Fl.GNS_NOTCH_CFG_EN = 0 → (∀ i < 4, s.notchOn i 0 = false ∧ s.notchOn i 1 = false) → t.log = s.log) ∧
      (∀ i < 4, s.get Fl.GNS_NOTCH_CFG_EN = 0 → (∀ k < 4, k ≠ i → s.notchOn k 0 = false ∧ s.notchOn k 1 = false) →
        s.notchOn i 0 = true → s.notchOn i 1 = false → Logged Ev.NOTCH_RELEASED i 0 t) ∧
      t.is Fl.GNS_STATUS_NOTCH_FULL = false ∧
      Changes dt [.gns, .log] ([Fl.GNS_STATUS_NOTCH_FULL] ++ wholes 8 Reg.GNS_NOTCH_STATUS ++ logFlds) s t

/-- A front-end command is ignored while one runs; GO starts one, and at its STOP the bits read stand right-aligned in GNS_FE_DATA and GO
reads 0. HOLDOVER becomes UNQUALIFIED at its limit. A PPS edge is given at a second boundary of the local clock plus
GNS_PPS_OFFSET, on the 4 ns grid, while enabled unless an unqualified time holds it back. -/
def Parts.WireHoldoverAndPulse : Prop :=
  ∀ (dt : Nat) (w : Word) (s : State),
    let q := s.get Fl.TIM_STATUS_QUALITY
    let limit := s.tim.holdAt + s.rd Reg.GNS_HOLD_LIMIT % 65536 * 1000000000
    let held : Prop := s.is Fl.GNS_PPS_CTL_SUPPRESS_UNQUAL = true ∧ (q = 3 ∨ (s.gns.ppsHeld = true ∧ q ≠ 1))
    let go : Prop := s.is Fl.GNS_FE_CMD_GO = true
    let half := ([500, 200, 100, 50] : List Nat).getD (s.get Fl.GNS_FE_CMD_RATE) 500
    let li := s.get Fl.GNS_FE_CMD_LEN_IN
    let lasts := (3 + 2 * s.get Fl.GNS_FE_CMD_LEN_OUT + (if li = 0 then 0 else 2 + 2 * li)) * half
    let ended : Prop := ∃ f, s.gns.fe = some f ∧ f.1 + lasts ≤ s.now + dt
    let phase := (((s.elapse dt).clk : Int) - sBits 16 (s.rd Reg.GNS_PPS_OFFSET)) % 1000000000
    let due : Prop := phase ≤ 4 ∧ ∀ a, s.gns.ppsAt = some a → a + 8 < s.now + dt
    (HostTakes Reg.GNS_FE_CMD s → Rw.GNS_FE_CMD.legalOk w.toNat = true → ∃ t, exec (.feTransaction dt w true) s = .next t ∧
      (go → t.rd Reg.GNS_FE_CMD = s.rd Reg.GNS_FE_CMD ∧ t.gns = s.gns) ∧
      (¬ go → t.rd Reg.GNS_FE_CMD = w.toNat &&& 0x83003F3F ∧
        t.gns = { s.gns with fe := if w.toNat.testBit 31 = true then some (s.now + dt, s.rd Reg.GNS_FE_DATA) else s.gns.fe }) ∧
      Changes dt [.hif, .gns] [whole Reg.GNS_FE_CMD] s t) ∧
    (UnitTakes 10 s →
      (go → ended → ∃ t, exec (.feTransactionDone dt w) s = .next t ∧ t.is Fl.GNS_FE_CMD_GO = false ∧
        t.rd Reg.GNS_FE_DATA = (if li = 0 then s.rd Reg.GNS_FE_DATA else w.toNat % 2 ^ li) ∧
        t.gns = { s.gns with fe := none } ∧ Changes dt [.gns] [Fl.GNS_FE_CMD_GO, whole Reg.GNS_FE_DATA] s t) ∧
      (¬ (go ∧ ended) → ∃ t, exec (.feTransactionDone dt w) s = .next t ∧ Changes dt [] [] s t)) ∧
    (UnitTakes 11 s → (∃ t, exec (.holdoverLimit dt) s = .next t ∧
        t.get Fl.TIM_STATUS_QUALITY = (if q = 2 ∧ limit ≤ s.now + dt then 3 else q) ∧ Changes dt [.gns] [Fl.TIM_STATUS_QUALITY] s t) ∧
      (due → ∃ t, exec (.ppsEdge dt) s = .next t ∧ (t.gns.ppsHeld = true ↔ held) ∧
        (s.is Fl.GNS_PPS_CTL_EN = true → ¬ held → t.gns.ppsAt = some (s.now + dt)) ∧
        (s.is Fl.GNS_PPS_CTL_EN = false ∨ held → t.gns.ppsAt = s.gns.ppsAt) ∧ Changes dt [.gns] [] s t) ∧
      (¬ due → ∃ t, exec (.ppsEdge dt) s = .next t ∧ Changes dt [] [] s t))

/-- The satellite baseband's channels, epochs, corrections, notches, wire, holdover and pulse. -/
def Obligations.TheBasebandTracksAndFixes : Prop :=
  Parts.ChannelsTrack ∧ Parts.EpochsGivePositions ∧ Parts.CorrectionsAreChecked ∧ Parts.NotchesFollowLines ∧ Parts.WireHoldoverAndPulse


/-! ### Fusion decisions, the control law's host commands and the loop engine's tools (R166, R172, R181, R191 to R197) -/

/-- A decision of the host waits for the observer mark, behind those before it, with its action and track; one that names no track
there is is refused as a value. D4's decisions name no track. -/
def Parts.DecisionsWaitForTheObserverMark : Prop :=
  ∀ (dt k : Nat) (s : State), HostTakes Reg.FUS_CMD s →
    (∀ p ∈ [(Instr.select dt k, 1, k % 32), (Instr.reject dt k, 2, k % 32), (Instr.release dt k, 3, k % 32), (Instr.d4Enter dt, 4, 0),
        (Instr.d4Exit dt, 5, 0)],
      (p.2.2 < 18 → ∃ t, exec p.1 s = .next t ∧ t.fus = { s.fus with cmds := s.fus.cmds ++ [p.2] } ∧ Changes dt [.fus] [] s t) ∧
      (18 ≤ p.2.2 → ∃ t, exec p.1 s = .next t ∧ t.is Fl.HIF_STATUS_BAD_WRITE = true ∧ Changes dt [] badFlds s t))

/-- GO holds the setpoint registers' values for the leg boundary, and a write without it holds nothing. In JOYSTICK the host's silence
for LOOP_JOY_TMO begins the ramp from the joystick's demand, with JOY_STALE; otherwise nothing happens. CLR and I_LOAD wait
for the slot's boundary, each beside one already waiting, with AW as the slot's register shows it. -/
def Parts.TheHostSteersTheLaw : Prop :=
  ∀ (dt k : Nat) (w : Word) (s : State),
    let sig (a : Nat) : Int := sInt (s.rd a)
    let quiet : Prop := s.lawMode = 2 ∧ s.loop.ramp = none ∧ s.loop.joyAt + s.get ⟨Reg.LOOP_JOY_TMO, 15, 0⟩ * 1000000 ≤ s.now + dt
    let addr := Reg.LOOP_SLOT_CTL k
    let held := ((aGet s.staged addr).map (·.toNat)).getD 0
    (HostTakes Reg.LOOP_SP_GO s → Rw.LOOP_SP_GO.legalOk w.toNat = true →
      (w.toNat.testBit 0 = true → ∃ t, exec (.spGo dt w) s = .next t ∧ t.loop = { s.loop with go := some ⟨sig Reg.LOOP_SP_N,
        sig Reg.LOOP_SP_E, s.rd Reg.LOOP_SP_HDG, s.rd Reg.LOOP_MOVE_SPEED, s.rd Reg.LOOP_MOVE_TURN, s.rd Reg.LOOP_MOVE_ACCEL,
        w.toNat / 2 % 4, w.toNat.testBit 3⟩ } ∧ Changes dt [.loop] [] s t) ∧
      (w.toNat.testBit 0 = false → ∃ t, exec (.spGo dt w) s = .next t ∧ Changes dt [] [] s t)) ∧
    (UnitTakes 6 s →
      (quiet → ∃ t, exec (.joyStale dt) s = .next t ∧ t.is Fl.LOOP_STATUS_JOY_STALE = true ∧ t.get (irqFld 19) = 1 ∧
        Logged Ev.JOY_STALE 0 0 t ∧
        t.loop.ramp = some (s.now + dt, [sig Reg.LOOP_JOY_X, sig Reg.LOOP_JOY_Y, sig Reg.LOOP_JOY_N]) ∧
        Changes dt [.loop, .log] ([Fl.LOOP_STATUS_JOY_STALE, irqFld 19] ++ logFlds) s t) ∧
      (¬ quiet → ∃ t, exec (.joyStale dt) s = .next t ∧ Changes dt [] [] s t)) ∧
    (k < 96 → HostStages addr s → ∀ p ∈ [(Instr.slotClr dt k, 31, 30), (Instr.slotILoad dt k, 30, 31)],
      ∃ t v, exec p.1 s = .next t ∧ t.staged = aSet s.staged addr v ∧ v.toNat.testBit p.2.1 = true ∧
        v.toNat.testBit p.2.2 = held.testBit p.2.2 ∧ v.toNat / 16 % 4 = s.shown addr / 16 % 4 ∧
        Changes dt [.staged] [] s t)

/-- A test starts where the sealed permit, RUN, the active role and the slot's rate allow it, from the registers as they read then, and
is refused otherwise with ABORTED and cause REFUSED; STOP aborts a running one with cause 3. -/
def Parts.TestsNeedThePermit : Prop :=
  ∀ (dt : Nat) (w : Word) (s : State), HostTakes Reg.LOOP_TEST_CTL s →
    let k := w.toNat % 128
    let permitted : Prop := s.is Fl.KRB_STATUS_TEST_PERMIT = true ∧ s.inRun = true ∧ s.role = 3 ∧ s.slotRate k ≠ 0
    let state (t : State) (st c : Nat) : Prop := t.get Fl.LOOP_TEST_STATUS_STATE = st ∧ t.get Fl.LOOP_TEST_STATUS_CAUSE = c
    let fields := [whole Reg.LOOP_TEST_CTL, whole Reg.LOOP_TEST_STATUS]
    (Rw.LOOP_TEST_CTL.legalOk w.toNat = true →
      (permitted → ∃ t, exec (.testGo dt w true) s = .next t ∧ state t 1 0 ∧ t.get Fl.LOOP_TEST_STATUS_SAMPLES = 0 ∧
        t.is Fl.LOOP_TEST_CTL_GO = true ∧ t.loop.gen.slot = k ∧ t.loop.gen.point = w.toNat / 256 % 2 ∧
        t.loop.gen.shape = w.toNat / 4096 % 8 ∧ t.loop.gen.amp = sInt (s.rd Reg.LOOP_TEST_AMP) ∧
        t.loop.gen.offset = sInt (s.rd Reg.LOOP_TEST_OFFSET) ∧ t.loop.gen.freq = s.rd Reg.LOOP_TEST_FREQ ∧
        t.loop.gen.dur = s.rd Reg.LOOP_TEST_DUR ∧ t.loop = { s.loop with gen := t.loop.gen } ∧
        Changes dt [.loop, .hif] fields s t) ∧
      (¬ permitted → ∃ t, exec (.testGo dt w true) s = .next t ∧ state t 3 1 ∧ t.is Fl.LOOP_TEST_CTL_GO = false ∧
        Changes dt [.hif] fields s t)) ∧
    (s.get Fl.LOOP_TEST_STATUS_STATE = 1 → ∃ t, exec (.testStop dt true) s = .next t ∧ state t 3 3 ∧
      t.is Fl.LOOP_TEST_CTL_GO = false ∧ Changes dt [.hif] fields s t) ∧
    (s.get Fl.LOOP_TEST_STATUS_STATE ≠ 1 → ∃ t, exec (.testStop dt true) s = .next t ∧
      t.rd Reg.LOOP_TEST_STATUS = s.rd Reg.LOOP_TEST_STATUS ∧ Changes dt [.hif] fields s t)

/-- ARM begins an empty capture in ARMED and ABORT returns the buffer to IDLE. A read of RDDATA answers the word at RDPTR and advances
it modulo 8,192 while DONE, and zero otherwise; a closed loop engine answers zero. -/
def Parts.CapturesAreArmedAndRead : Prop :=
  ∀ (dt b : Nat) (w : Word) (s : State), b < 2 →
    let p := s.get ⟨Reg.LOOP_CAP_RDPTR b, 12, 0⟩
    let x := (s.cap b).buf.getD (p / 2) (0, 0)
    let fields := [whole (Reg.LOOP_CAP_CTL b), whole (Reg.LOOP_CAP_STATUS b)]
    (HostTakes (Reg.LOOP_CAP_CTL b) s → Rw.LOOP_CAP_CTL.legalOk w.toNat = true → ∃ t, exec (.captureArm dt b w) s = .next t ∧
      t.cap b = {} ∧ t.cap (1 - b) = s.cap (1 - b) ∧ t.get (Fl.LOOP_CAP_STATUS_STATE b) = 1 ∧
      t.get (Fl.LOOP_CAP_STATUS_COUNT b) = 0 ∧ t.rd (Reg.LOOP_CAP_CTL b) = (w.toNat &&& 0x007F3FF0) ||| 2 ^ 31 ∧
      Changes dt [.loop] fields s t) ∧
    (HostTakes (Reg.LOOP_CAP_CTL b) s → ∃ t, exec (.captureAbort dt b) s = .next t ∧ t.get (Fl.LOOP_CAP_STATUS_STATE b) = 0 ∧
      t.rd (Reg.LOOP_CAP_CTL b) = s.rd (Reg.LOOP_CAP_CTL b) &&& 0x007F3FF0 ∧
      t.get (Fl.LOOP_CAP_STATUS_COUNT b) = s.get (Fl.LOOP_CAP_STATUS_COUNT b) ∧ Changes dt [] fields s t) ∧
    (HostTakes (Reg.LOOP_CAP_RDDATA b) s → s.get (Fl.LOOP_CAP_STATUS_STATE b) = 3 →
      ∃ t, exec (.captureRddataRead dt b) s = .next t ∧ t.hif.miso = portBytes (uInt (if p % 2 = 0 then x.1 else x.2)) ∧
        t.rd (Reg.LOOP_CAP_RDPTR b) = (p + 1) % 8192 ∧ Changes dt [.hif] [whole (Reg.LOOP_CAP_RDPTR b)] s t) ∧
    (HostTakes (Reg.LOOP_CAP_RDDATA b) s → s.get (Fl.LOOP_CAP_STATUS_STATE b) ≠ 3 →
      ∃ t, exec (.captureRddataRead dt b) s = .next t ∧ t.hif.miso = portBytes 0 ∧ Changes dt [.hif] [] s t) ∧
    (s.alive = true → s.hostClosed (Reg.LOOP_CAP_RDDATA b) = true → ∃ t, exec (.captureRddataRead dt b) s = .next t ∧
      t.hif.miso = portBytes 0 ∧ t.is Fl.HIF_STATUS_CLOSED_UNIT = true ∧
      Changes dt [.hif] [Fl.HIF_STATUS_CLOSED_UNIT, whole Reg.HIF_LAST_ERR] s t)

/-- The host's decisions, setpoints, tests and captures. -/
def Obligations.FusionAndLoopTakeTheHostsWord : Prop :=
  Parts.DecisionsWaitForTheObserverMark ∧ Parts.TheHostSteersTheLaw ∧ Parts.TestsNeedThePermit ∧ Parts.CapturesAreArmedAndRead


/-! ### The health manager and the Verge (R395, R437 to R442) -/

/-- The fields that the wear monitors and the Verge may write. -/
def healthFlds : List Fld :=
  wholes 66 Reg.HLT_MON_VALUE ++ wholes 66 Reg.HLT_MON_STATUS ++ [whole Reg.HLT_STATUS, whole Reg.HLT_SPARES, irqFld 16] ++ logFlds

/-- The fields that a swap's beginning and end may write. -/
def swapFlds : List Fld :=
  [whole Reg.HLT_VERGE_STATUS, Fl.HLT_STATUS_SWAP_BUSY] ++ (List.range 16).map Fl.ENG_STATUS_STATE

/-- A whole second of operation counts one operating second, which sticks at its end; before the second is whole nothing counts. The ROW_TH-th corrected error of a row within 24 operating hours takes one of
its bank's spare rows, at once; with none left the bank is WORN, and WATCH while it has errors and a row. -/
def Parts.SecondsAndCorrectedErrors : Prop :=
  ∀ (dt bank row : Nat) (s : State), s.alive = true → bank < 32 →
    let key := State.eccKey bank row
    let now := s.log.opsec
    let due : Prop := s.get Fl.HLT_VERGE_CTL_ROW_TH ≤ 1 + ((aGetD s.hlt.ecc key []).filter (fun u => decide (now < u + 86400))).length
    let rows (t : State) : Nat := t.get (Fl.HLT_MON_STATUS_SPARE_ROWS (27 + bank))
    (s.now + dt < s.log.secAt + 1000000000 → ∃ t, exec (.operatingSecond dt) s = .next t ∧ Changes dt [] [] s t) ∧
    (s.log.secAt + 1000000000 ≤ s.now + dt → ∃ t, exec (.operatingSecond dt) s = .next t ∧
      t.log.secAt = s.log.secAt + 1000000000 ∧
      (now < 0xFFFFFFFF → t.log.opsec = now + 1 ∧ t.rd Reg.LOG_OPSEC = now + 1) ∧
      (now = 0xFFFFFFFF → t.log.opsec = now ∧ t.log.opsecStuck = true ∧ t.is Fl.LOG_STATUS_OPSEC_STUCK = true) ∧
      Changes dt [.log, .hlt] healthFlds s t) ∧
    ∃ t, exec (.eccCorrected dt bank row) s = .next t ∧
      (due → 0 < rows s → rows t = rows s - 1 ∧ t.hlt.remapped = s.hlt.remapped ++ [key] ∧
        t.get Fl.HLT_SPARES_ROWS_MIN = t.rowsMin) ∧
      (¬ due ∨ rows s = 0 → rows t = rows s ∧ t.hlt.remapped = s.hlt.remapped) ∧
      t.hlt.selector = s.hlt.selector + (if due ∧ 0 < rows s then 1 else 0) ∧
      t.monState (27 + bank) = (if rows t = 0 then 2 else 1) ∧ (rows t = 0 → t.is Fl.HLT_STATUS_DEGRADED = true) ∧
      Changes dt [.log, .hlt] healthFlds s t

/-- An average shows its value and its state by the table's levels; a latency ratio is WORN from 60 averages in a row at its level or
above until 60 in a row below it. WORN raises HEALTH as it begins. SRAM banks and retired resources stay as they are. -/
def Parts.WearMonitorsJudgeAverages : Prop :=
  ∀ (dt i v : Nat) (s : State), s.alive = true → i < 66 →
    let m := aGetD s.hlt.mons i {}
    let th := s.get Fl.HLT_VERGE_CTL_LAT_TH
    let up := m.above + 1
    let down := m.below + 1
    (27 ≤ i ∧ i ≤ 58 ∨ s.monState i = 3 → ∃ t, exec (.wearMonitorUpdate dt i v) s = .next t ∧ Changes dt [] [] s t) ∧
    (¬ (27 ≤ i ∧ i ≤ 58) → s.monState i ≠ 3 → ∃ t, exec (.wearMonitorUpdate dt i v) s = .next t ∧
      t.get ⟨Reg.HLT_MON_VALUE i, 15, 0⟩ = min 0xFFFF v ∧
      (i ≤ 26 → th ≤ v → aGetD t.hlt.mons i {} = ⟨up, 0⟩ ∧
        t.monState i = (if 60 ≤ up ∨ s.monState i = 2 then 2 else if 1024 + th ≤ 2 * v then 1 else 0)) ∧
      (i ≤ 26 → v < th → aGetD t.hlt.mons i {} = ⟨0, down⟩ ∧
        t.monState i = (if s.monState i = 2 ∧ down < 60 then 2 else if 1024 + th ≤ 2 * v then 1 else 0)) ∧
      (i = 59 ∨ i = 60 → t.monState i = (if 32 ≤ v then 2 else if 8 ≤ v then 1 else 0)) ∧
      (61 ≤ i → t.monState i = (if v < 51 then 2 else if v < 77 then 1 else 0)) ∧
      (t.monState i = 2 → s.monState i ≠ 2 → t.get (irqFld 16) = 1) ∧
      Changes dt [.hlt, .log, .free] (healthFlds ++ swapFlds) s t)

/-- A swap starts its copy to the lowest free spare, and is refused BUSY beside another and NO_SPARE without a spare. An abort before
the selector write keeps the mapping and is logged; it does nothing to a swap past it. The copy's end is recorded. -/
def Parts.SwapsStartAndAbort : Prop :=
  ∀ (dt n : Nat) (s : State), n < 16 →
    (HostTakes Reg.HLT_VERGE_CMD s →
      (∀ p l, s.hlt.swap = none → s.freeEngines = p :: l → ∃ t, exec (.swap dt n true) s = .next t ∧
        t.hlt = { s.hlt with swap := some { engine := n, target := p } } ∧ t.get Fl.HLT_VERGE_STATUS_PHASE = 1 ∧
        t.get Fl.HLT_VERGE_STATUS_ENGINE = n ∧ t.get Fl.HLT_VERGE_STATUS_TARGET = p ∧ t.get Fl.HLT_VERGE_STATUS_RESULT = 0 ∧
        t.is Fl.HLT_STATUS_SWAP_BUSY = true ∧ t.get (Fl.ENG_STATUS_STATE n) = (if s.engOpen n = true then 2 else 1) ∧
        Changes dt [.hlt, .hif] ([whole Reg.HLT_VERGE_STATUS, Fl.HLT_STATUS_SWAP_BUSY, Fl.ENG_STATUS_STATE n]) s t) ∧
      (s.hlt.swap = none → s.freeEngines = [] → ∃ t, exec (.swap dt n true) s = .next t ∧ t.get Fl.HLT_VERGE_STATUS_RESULT = 2 ∧
        Changes dt [.hif] [Fl.HLT_VERGE_STATUS_RESULT] s t) ∧
      (s.hlt.swap ≠ none → ∃ t, exec (.swap dt n true) s = .next t ∧ t.get Fl.HLT_VERGE_STATUS_RESULT = 3 ∧
        Changes dt [.hif] [Fl.HLT_VERGE_STATUS_RESULT] s t) ∧
      (∀ x, s.hlt.swap = some x → x.engine < 16 → x.switched = false → ∃ t, exec (.swapAbort dt true) s = .next t ∧
        t.hlt = { s.hlt with swap := none } ∧ t.get Fl.HLT_VERGE_STATUS_PHASE = 4 ∧ t.get Fl.HLT_VERGE_STATUS_RESULT = 4 ∧
        t.is Fl.HLT_STATUS_SWAP_BUSY = false ∧ Logged Ev.SWAP_ABORTED x.engine (d8 4) t ∧
        Changes dt [.hlt, .log, .hif] (swapFlds ++ logFlds) s t) ∧
      (s.hlt.swap = none ∨ (∃ x, s.hlt.swap = some x ∧ x.switched = true) → ∃ t, exec (.swapAbort dt true) s = .next t ∧
        Changes dt [.hif] [] s t)) ∧
    (s.alive = true → (∀ x, s.hlt.swap = some x → ∃ t, exec (.swapCopyDone dt) s = .next t ∧
        t.hlt = { s.hlt with swap := some { x with copied := true } } ∧ Changes dt [.hlt] [] s t) ∧
      (s.hlt.swap = none → ∃ t, exec (.swapCopyDone dt) s = .next t ∧ Changes dt [] [] s t))

/-- A worn log sector's copy done takes one log spare, which its blocks use from then on, and is logged. A resource that its self-check
finds wrong is retired with DEGRADED where no spare is left for it: a cell in the array's count, a channel in the baseband's,
an engine in its monitor. -/
def Parts.SectorsAndSelfChecks : Prop :=
  ∀ (dt k : Nat) (s : State), s.alive = true →
    let left := s.get Fl.HLT_SPARES_SECTORS
    let cell : State → Nat := fun t => t.get Fl.SLV_VERGE_RETIRED
    let chan : State → Nat := fun t => t.get Fl.GNS_VERGE_RETIRED
    (s.log.sectorCopy = none → ∃ t, exec (.logSectorCopyDone dt) s = .next t ∧ Changes dt [] [] s t) ∧
    (s.log.sectorCopy = some k → ∃ t, exec (.logSectorCopyDone dt) s = .next t ∧ t.get Fl.HLT_SPARES_SECTORS = left - 1 ∧
      aGet t.log.sectors k = some (2 - left) ∧ t.log.sectorCopy = none ∧ t.monState 59 = 0 ∧
      Logged Ev.VERGE_SECTOR k (d8 (2 - left)) t ∧
      t.hlt = { s.hlt with selector := s.hlt.selector + 1 } ∧
      Changes dt [.log, .hlt] ([Fl.HLT_SPARES_SECTORS, Fl.HLT_MON_STATUS_STATE 59] ++ logFlds) s t) ∧
    (k < 72 → s.cellsLeft = 0 → ∃ t, exec (.selfCheckWrongResult dt (.cell k)) s = .next t ∧ cell t = min 255 (cell s + 1) ∧
      t.is Fl.HLT_STATUS_DEGRADED = true ∧ Changes dt [] [Fl.SLV_VERGE_RETIRED, Fl.HLT_STATUS_DEGRADED] s t) ∧
    (k < 72 → 0 < s.cellsLeft → ∃ t, exec (.selfCheckWrongResult dt (.cell k)) s = .next t ∧ k / 8 ∈ t.hlt.cellsDue ∧
      Changes dt [.hlt] [] s t) ∧
    (k < 192 → s.get Fl.GNS_VERGE_SPARES_FREE ≤ s.hlt.chansDue.length → s.gns.dead.contains k = false →
      ∃ t, exec (.selfCheckWrongResult dt (.channel k)) s = .next t ∧ t.gns.dead = s.gns.dead ++ [k] ∧ t.chState k = 0 ∧
        chan t = min 255 (chan s + 1) ∧ t.is Fl.HLT_STATUS_DEGRADED = true ∧
        Changes dt [.gns] [whole (Reg.GNS_CH_STATUS k), Fl.GNS_VERGE_RETIRED, Fl.HLT_STATUS_DEGRADED] s t) ∧
    (k < 192 → s.hlt.chansDue.length < s.get Fl.GNS_VERGE_SPARES_FREE →
      ∃ t, exec (.selfCheckWrongResult dt (.channel k)) s = .next t ∧ k ∈ t.hlt.chansDue ∧ Changes dt [.hlt] [] s t) ∧
    (k < 18 → s.hlt.retired.contains k = true → ∃ t, exec (.selfCheckWrongResult dt (.engine k)) s = .next t ∧ Changes dt [] [] s t) ∧
    (∀ n, k < 18 → s.hlt.retired.contains k = false → s.freeEngines = [] → s.logEng k = some n →
      ∃ t, exec (.selfCheckWrongResult dt (.engine k)) s = .next t ∧ k ∈ t.hlt.retired ∧ t.monState k = 3 ∧ t.engOpen n = false ∧
        t.is Fl.HLT_STATUS_DEGRADED = true)

/-- Wear is watched, and worn resources are replaced or retired. -/
def Obligations.WearIsWatchedAndReplaced : Prop :=
  Parts.SecondsAndCorrectedErrors ∧ Parts.WearMonitorsJudgeAverages ∧ Parts.SwapsStartAndAbort ∧ Parts.SectorsAndSelfChecks


/-! ### Reset (R355, R426, R429, R446) -/

/-- The device leaves reset in BOOT with role NONE, its H_RDY high, no lane enabled, no gate drive and no bypass held, the boot units'
ports open alone, no commit armed, no freeze in force and no write held; and registers of every block read the reset values of their tables. -/
def Obligations.ResetGivesTheSpecsValues : Prop :=
  State.reset.power = 1 ∧ State.reset.role = 0 ∧ State.reset.pins.hRdy = true ∧ State.reset.pins.so = 0 ∧
  State.reset.pins.bypA = false ∧ State.reset.pins.bypB = false ∧ State.reset.lanesOn = [] ∧
  (∀ u < 23, State.reset.isOpen u = true ↔ u ∈ [1, 18, 19, 20, 21, 22]) ∧
  State.reset.tg.armed = none ∧ State.reset.freeze = none ∧ State.reset.staged = [] ∧
  (∀ p ∈ [(Reg.GLB_ID, 0x4A516400), (Reg.ENG_SPARE, 3), (Reg.SLV_EPS_PIV, 0x35800000), (Reg.ALC_BUS_LIMIT 7, 0xFFFFFFFF),
      (Reg.HZN_RHO, 0x42C80000), (Reg.LOOP_LAW_CTL, 0x80000004), (Reg.LOOP_SLOT_LIM_LO 95, 0x80000000), (Reg.FUS_GATE, 0x0AD40DD2),
      (Reg.FUS_DETOUR, 0x33), (Reg.GNS_IF_CFG 3, 0x4FEC), (Reg.GNS_HOLD_LIMIT, 600), (Reg.TIM_JUMP_TH, 1000), (Reg.FB_CFG 5, 0x320A0300),
      (Reg.RING_PORT_STATUS 3, 0xFFFF0000), (Reg.HLT_PACE_MARGIN, 0xFFFFFFFF), (Reg.HLT_SPARES, 0x10021082),
      (Reg.HIF_IRQ_STATUS, 0), (Reg.KRB_STATUS, 0), (Reg.SNS_PORT_STATUS 4, 0), (Reg.SEC_STATUS, 0)],
    State.reset.rd p.1 = p.2)


/-! ### What each command does where it runs: the cycle and the planner (R30 to R50, R213 to R241) -/

/-- The commands of the cycle, each where it has its effect: the boundaries count, each mark passes with what it commits, a class-A solve
leaves its result and the allocation level falls, an iteration is counted, the deadline ends the solve, and the planner's two
commands are carried out. -/
def Obligations.CycleCommandsComplete : Prop :=
  ∀ (dt ns : Nat) (b : Bool) (gclk : Option Int) (agree : List Nat) (vec : List VecSig) (sats : List SatView) (s : State), s.alive = true →
    let after (t : State) (c : Nat) : Prop := t.cyc.marks = s.cyc.marks ++ [c]
    (CycleInstant dt s → ∃ t, exec (.ringCycleBoundary dt) s = .next t ∧ t.cyc.sub = (s.cyc.sub + 1) % s.cyclesPerPace) ∧
    (CycleInstant dt s → ∃ t, exec (.paceBoundary dt) s = .next t ∧ t.cyc.boundaryAt = s.now + dt ∧ t.cyc.marks = []) ∧
    (PaceMark 1 s → s.isOpen 4 = true → ∃ t, exec (.commitMark dt) s = .next t ∧ after t 1 ∧
      (t.alc.src = 0 ↔ s.aheadGood = true ∧ s.fab.aheadBroken = false)) ∧
    (s.isOpen 3 = true → s.isOpen 4 = true → s.alc.prob.isSome = true → s.alc.res = none →
      ∃ t, exec (.allocationSolveDone dt) s = .next t ∧ t.alc.res.isSome = true ∧ t.alc.prob = s.alc.prob) ∧
    (PaceMark 2 s → s.isOpen 4 = true → ∃ t, exec (.allocationMark dt) s = .next t ∧ after t 2 ∧ t.alc.prob = none ∧ t.alc.res = none) ∧
    (s.isOpen 4 = true → 0 < s.alc.level →
      max s.alc.changedAt s.alc.missAt + s.get ⟨Reg.ALC_LEVEL_HOLD, 15, 0⟩ * 1000000000 ≤ s.now + dt →
      ∃ t, exec (.alcLevelHoldExpiry dt) s = .next t ∧ t.alc.level = s.alc.level - 1) ∧
    (s.markOpen 12 = true → s.kerbOn 0 = true → ∃ t, exec (.kerbChecksEnd dt) s = .next t ∧ after t 12 ∧
      ∀ n ∈ s.lanesOn, (t.kl 0 n).judged = true) ∧
    (PaceMark 3 s → s.isOpen 13 = true → ∃ t, exec (.commandMark dt) s = .next t ∧ after t 3 ∧
      ∀ n ∈ s.lanesOn, s.laneState n = 2 → laneKind s n ≠ 4 → t.rd (Reg.LANE_CMD_T n) = s.rd (Reg.ALC_LANE_CMD_T n)) ∧
    (s.markOpen 4 = true → ∃ t, exec (.endMark dt ns) s = .next t ∧ after t 4 ∧ t.pace.complete = t.regs) ∧
    (s.legOpen 5 0 = true → ∃ t, exec (.legBoundary dt gclk agree vec) s = .next t ∧ after t 5 ∧ t.cyc.obsMet = false) ∧
    (s.legWork = true → s.legOpen 11 0 = true → s.isOpen 9 = true → s.role ≠ 2 → ∃ t, exec (.gateMark dt) s = .next t ∧ after t 11 ∧
      t.fus.inputs = []) ∧
    (s.legWork = true → s.legOpen 6 2 = true → s.groupOpen 0 = true → ∃ t, exec (.observerMark dt false) s = .next t ∧ after t 6 ∧
      t.cyc.obsMet = true ∧ t.fus.gated = []) ∧
    (s.paceWork = true → s.legOpen 7 3 = true → s.groupOpen 3 = true → ∃ t, exec (.envelopeMark dt false) s = .next t ∧ after t 7 ∧
      t.alc.mat.isSome = true) ∧
    (s.paceWork = true → s.legOpen 8 3 = true → s.isOpen 6 = true → (∀ k < 3, s.lawValid k = true) → s.lawMode = 2 → s.loop.ramp = none →
      ∃ t, exec (.demandMark dt false) s = .next t ∧ after t 8 ∧ t.rd (Reg.LOOP_TAU 2) = s.rd Reg.LOOP_JOY_N) ∧
    (s.hzn.warm.isSome = true → s.hzn.run = true → s.hzn.stopped = false → s.isOpen 3 = true → s.plannerOpen = true →
      ∃ t, exec (.hznIterationDone dt) s = .next t ∧ t.hzn.done = s.hzn.done + 1) ∧
    (DeadlineInstant s → s.plannerOpen = true → s.isOpen 3 = true → s.hzn.warm.isSome = true →
      ∃ t, exec (.classHDeadline dt b) s = .next t ∧ after t 9 ∧ t.hzn.next.isSome = true ∧ t.hzn.run = false) ∧
    (s.legOpen 10 0 = true → s.cyc.stage = 0 → ∃ t, exec (.stageBoundary dt sats) s = .next t ∧ after t 10 ∧
      (s.paceWork = true → t.hzn.force = s.hzn.next)) ∧
    (s.hostClosed Reg.HZN_ID_CMD = false → ∃ t, exec (.hznRestore dt) s = .next t ∧ t.hzn.restore = true) ∧
    (s.hostClosed Reg.HZN_ID_CMD = false → ∃ t, exec (.hznResetEst dt) s = .next t ∧
      ∀ p < 9, t.rd (Reg.HZN_ID_EST p) = s.rd (Reg.HZN_MODEL_IMG p))


/-! ### What each command does where it runs: fabric, power, lanes, the Kerb and wear (R51 to R65, R243 to R293, R426 to R442) -/

/-- The commands of the fabric, the supplies and the power states, each where it has its effect: an operation takes a tag, its reply
completes it, a unit reopens, parks, unparks and resets, a supply and a reset pin do what they do, and a power state is asked for and
entered. -/
def Parts.PowerCommandsComplete : Prop :=
  ∀ (dt n e b t0 m0 m : Nat) (u : Uid) (op : FabOp) (pin : Bool) (s : State), s.alive = true →
    let takes (a : Nat) : Prop := s.hostClosed a = false
    let shut (w : Nat) : Prop := parkable.any (s.parkRefused (State.putBits (s.rd Reg.PWR_PARK) b b w)) = true
    let idle : Prop := s.role ≠ 4 ∧ s.is Fl.PWR_STATUS_BUSY = false
    (MayIssue op s → (s.tagFor op.src).isSome = true → s.uidOpen op.tgt = true → State.locReserved op.tgt op.loc = false →
      op.wr = none ∨ 2 ^ 24 ≤ op.loc → ∃ t, exec (.operationIssue dt op) s = .next t ∧ t.fab.tags.length = s.fab.tags.length + 1 ∧
        t.fab.tags.getLast?.map (·.op) = some op) ∧
    (∀ g, s.fab.tags.find? (·.num == n) = some g → g.st = .issued → g.prov = false → s.fab.stalled = [] →
      ∃ t, exec (.replyReceived dt n (s.incarn (srcOwner g.op.src)) (s.incarn g.op.tgt) .ok) s = .next t ∧
        t.fab.replies = [⟨g.op.src, n, .ok, g.value, .committed⟩] ∧ t.fab.tags.all (·.num != n) = true) ∧
    (1 ≤ n → n ≤ 22 → n ≠ 2 → s.units.ready.contains (.unit n) = true → s.units.since.find? (·.1 == .unit n) = some (.unit n, t0, m0) →
      (s.power = 3 → s.now + dt = s.cyc.boundaryAt ∧ t0 < s.now + dt) →
      (s.power ≠ 3 → (s.elapse dt).clk % 1000000 ≤ 4 ∧ (s.elapse dt).clk / 1000000 ≠ m0) →
      ∃ t, exec (.unitReopen dt (.unit n)) s = .next t ∧ t.isOpen n = true) ∧
    (takes Reg.PWR_PARK → u ∈ parkable → parkBit u = some b → (s.rd Reg.PWR_PARK &&& Rw.PWR_PARK.mask) = s.rd Reg.PWR_PARK →
      (s.parkAsked u = false → ¬ shut 1 → ∃ t, exec (.unitPark dt u true) s = .next t ∧ t.get ⟨Reg.PWR_PARK, b, b⟩ = 1 ∧ t.uidOpen u = false) ∧
      (s.parkAsked u = true → ¬ shut 0 → ∃ t, exec (.unitUnpark dt u true) s = .next t ∧ t.get ⟨Reg.PWR_PARK, b, b⟩ = 0)) ∧
    (takes Reg.PWR_UNIT_RESET → 1 ≤ n → n ≤ 22 → n ≠ 2 → s.resetOk n = true → ∃ t, exec (.unitReset dt n e true) s = .next t ∧
      t.isOpen n = false ∧ Counted Reg.PWR_UNIT_RESETS s t) ∧
    (∃ t, exec (.vcorePowerOn dt pin) s = .next t ∧ t.power = 1 ∧ (s.log.pcc < 0xFFFFFF → t.log.pcc = s.log.pcc + 1)) ∧
    (s.pwr.rstn = true → ∃ t, exec (.rstNAssert dt) s = .next t ∧ t.power = 1 ∧ t.pwr.rstn = false) ∧
    (∀ q, q.pwr.rstn = false → ∃ t, exec (.rstNRelease dt pin) q = .next t ∧ t.pwr.rstn = true ∧ t.pins.roleSel = pin) ∧
    (takes Reg.PWR_CMD → idle → s.power = 2 → s.is Fl.SEC_STATUS_JTAG_OPEN = false → ∃ t, exec (.pwrCmdRun dt true) s = .next t ∧
      t.is Fl.PWR_STATUS_BUSY = true ∧ t.get Fl.PWR_STATUS_TARGET = 3) ∧
    (takes Reg.PWR_CMD → idle → s.power = 3 → ∃ t, exec (.pwrCmdReady dt true) s = .next t ∧
      t.is Fl.PWR_STATUS_BUSY = true ∧ t.get Fl.PWR_STATUS_TARGET = 2) ∧
    (takes Reg.PWR_CMD → idle → s.power = 2 → ∃ t, exec (.pwrCmdHarbour dt true) s = .next t ∧ t.power = 4) ∧
    (takes Reg.PWR_CMD → idle → s.power = 2 → s.is Fl.TG_NVW_STATUS_BUSY = false → ∃ t, exec (.pwrCmdQuiet dt true) s = .next t ∧ t.power = 5) ∧
    (s.pwr.trans = some ⟨3, some m⟩ → m * 1000000 ≤ (s.elapse dt).clk → ∃ t, exec (.runEntry dt) s = .next t ∧ t.power = 3 ∧ t.role = 1) ∧
    (s.is Fl.HLT_STATUS_FATAL = false → ∃ t, exec (.healthFatal dt .uncorr) s = .next t ∧ t.role = 4 ∧ t.pins.faultN = false)

/-- The commands of the lanes and the Kerb, each where it has its effect: a filtered change counts, a compare pulse ends, compares are
armed, lanes are commanded, connections time out, decay and clear, trips and channels are acknowledged, the seal is read,
readbacks and test pulses are judged, and the Kerb's fatal faults turn everything off. -/
def Parts.LaneCommandsComplete : Prop :=
  ∀ (dt n k c na nb nc : Nat) (la lb lc rh rl en : Bool) (w a : Word) (s : State), s.alive = true →
    let takes (x : Nat) : Prop := s.hostClosed x = false
    let x := s.soCh k
    let steady (l : RbLevel) (v : Bool) : Prop := l.run = 3 ∧ l.now = v ∧ l.stands = v
    let fatal (t : State) : Prop := t.role = 4 ∧ t.pins.so = 0
    (c < 6 → s.isOpen 12 = true → ∃ t, exec (.fbCountEdge dt c false la lb lc na nb nc) s = .next t ∧
      (t.fbCh c).main.lines = fbSeen s c (s.fbCh c).main.lines la lb lc na nb nc) ∧
    (k < 2 → s.isOpen 12 = true → ∀ p, aGet s.fbk.pulseAt k = some p → p + 1000 ≤ s.now + dt → ∃ t, exec (.pdivPulseEnd dt k) s = .next t ∧
      t.pdivOf k = false) ∧
    (c < 6 → takes (Reg.FB_CMP c) → ∃ t, exec (.compareWrite dt c w) s = .next t ∧ t.rd (Reg.FB_CMP c) = w.toNat) ∧
    (c < 6 → takes (Reg.FB_CMP_CTL c) → ∃ t, exec (.compareCtlWrite dt c w) s = .next t ∧
      t.is (Fl.FB_CMP_CTL_EN c) = w.toNat.testBit 0) ∧
    (n < 64 → HostStages (Reg.LANE_CTL n) s → s.role ≠ 2 → ∃ t, exec (.laneEnable dt n en) s = .next t ∧
      (aGet t.staged (Reg.LANE_CTL n)).map (·.toNat) = some (if en then 1 else 0)) ∧
    (n < 64 → HostStages (Reg.LANE_CTL n) s → s.role ≠ 2 → ∃ t, exec (.laneClear dt n) s = .next t ∧
      (aGet t.staged (Reg.LANE_CTL n)).map (·.toNat.testBit 1) = some true) ∧
    (n < 64 → HostStages (Reg.LANE_AZ_SET n) s → s.laneState n = 1 → s.fbAz n < 6 → ∃ t, exec (.azSet dt n w) s = .next t ∧
      aGet t.staged (Reg.LANE_AZ_SET n) = some w) ∧
    (c < 128 → s.kerbOn (c % 2) = true → s.get (Fl.KRB_CONN_STATUS_STATE c) = 2 → (s.connImage c).2.1 ≤ (s.kconn c).age →
      ∃ t, exec (.connectionTimeout dt c) s = .next t ∧ t.get (Fl.KRB_CONN_STATUS_STATE c) = 1 ∧ Counted (Reg.KRB_CONN_TIMEOUTS c) s t) ∧
    (c < 128 → s.kerbOn (c % 2) = true → (s.kconn c).fallAt + 900000000000 ≤ s.now + dt → ∃ t, exec (.errorLevelDecay dt c) s = .next t ∧
      t.get (Fl.KRB_CONN_STATUS_ERR_LEVEL c) = s.get (Fl.KRB_CONN_STATUS_ERR_LEVEL c) - 1) ∧
    (c < 128 → takes Reg.KRB_CONN_CLR → w.toNat % 256 = c → w.toNat.testBit 8 = true → ∃ t, exec (.krbConnClr dt w) s = .next t ∧
      t.get (Fl.KRB_CONN_STATUS_ERR_LEVEL c) = 0) ∧
    (n < 64 → takes Reg.KRB_ACK → (∀ m ∈ s.ackLanes 0 (some n), (s.kl 0 m).viol = [] ∧ (s.kl 1 m).viol = []) →
      ∃ t, exec (.krbAckLane dt n true) s = .next t ∧ ∀ m ∈ s.ackLanes 0 (some n), (t.kl 0 m).trip = 0 ∧ (t.kl 1 m).trip = 0) ∧
    (k < 16 → takes Reg.KRB_ACK → (∀ m ∈ s.ackLanes k none, (s.kl 0 m).viol = [] ∧ (s.kl 1 m).viol = []) →
      ∃ t, exec (.krbAckGroup dt k true) s = .next t ∧ ∀ m ∈ s.ackLanes k none, (t.kl 0 m).trip = 0 ∧ (t.kl 1 m).trip = 0) ∧
    (k < 4 → takes Reg.KRB_ACK → s.soFaultOf k ≠ 0 → x.hP.stands = false → x.lP.stands = false → x.hL.stands = false → x.lL.stands = false →
      ∃ t, exec (.krbAckChClear dt (2 ^ k) true) s = .next t ∧ t.soFaultOf k = 0) ∧
    (s.isOpen 15 = true → s.pwr.trans = none → s.krb.changed = false → s.inRun = false → ∃ t, exec (.sealReading dt a a) s = .next t ∧
      t.rd Reg.KRB_SEAL = a.toNat) ∧
    (k < 4 → s.kerbOn 0 = true → s.kerbOn 1 = true → s.soFaultOf k = 0 → steady x.hP rh → steady x.hL rh → steady x.lP rl → steady x.lL rl →
      x.hs.test = false → x.ls.test = false → x.changedAt + 50000 ≤ s.now + dt →
      ∃ t, exec (.readbackSample dt [⟨k, rh, rl, rh, rl⟩]) s = .next t ∧ t.soFaultOf k = State.rbCode x.hs.on x.ls.on rh rl) ∧
    (k < 4 → s.soFaultOf k = 0 → s.kerbOn 0 = true → x.hs.on = true → x.hs.test = false → x.ls.test = false →
      testDue x.hs (s.now + dt) = true → x.hs.missed < 8 → ∃ t, exec (.testPulseStart dt 0 k) s = .next t ∧
        (t.soCh k).hs.on = false ∧ (t.soCh k).hs.test = true) ∧
    (k < 4 → s.soFaultOf k = 0 → x.hs.test = true → x.ls.test = false → x.ls.want = false → x.hP.stands = false →
      x.hP.since ≤ x.changedAt + s.testWidth → ∃ t, exec (.testPulseEnd dt 0 k) s = .next t ∧ (t.soCh k).hs.test = false ∧
        t.is (Fl.KRB_SO_STATUS_HS_PASS k) = true) ∧
    (s.kerbOn 0 = true → s.krb.fatalP = false → ∃ t, exec (.kerbFatal dt .lockstep) s = .next t ∧ fatal t) ∧
    (s.power = 3 → s.kerbOn 1 = true → s.krb.strobe + 1800000 ≤ s.now + dt → s.krb.fatalL = false →
      ∃ t, exec (.paceLost dt) s = .next t ∧ fatal t) ∧
    (s.kerbOn 0 = true → s.krb.mailL + 1800000 ≤ s.now + dt → s.krb.fatalP = false → ∃ t, exec (.exchangeTimeout dt 0) s = .next t ∧ fatal t)

/-- The commands of the health manager, each where it has its effect: a second of operation, an average, a corrected error, a worn sector
copied, an engine swapped, its swap aborted or copied, and a resource found wrong with no spare left. -/
def Parts.HealthCommandsComplete : Prop :=
  ∀ (dt n i v bank row : Nat) (s : State), s.alive = true →
    (s.log.secAt + 1000000000 ≤ s.now + dt → s.log.opsec < 0xFFFFFFFF → ∃ t, exec (.operatingSecond dt) s = .next t ∧
      t.log.opsec = s.log.opsec + 1 ∧ t.rd Reg.LOG_OPSEC = s.log.opsec + 1) ∧
    (i < 66 → ¬ (27 ≤ i ∧ i ≤ 58) → s.monState i ≠ 3 → ∃ t, exec (.wearMonitorUpdate dt i v) s = .next t ∧
      t.get ⟨Reg.HLT_MON_VALUE i, 15, 0⟩ = min 0xFFFF v) ∧
    (bank < 32 → 0 < s.get (Fl.HLT_MON_STATUS_SPARE_ROWS (27 + bank)) → s.get Fl.HLT_VERGE_CTL_ROW_TH ≤ 1 →
      ∃ t, exec (.eccCorrected dt bank row) s = .next t ∧
        t.get (Fl.HLT_MON_STATUS_SPARE_ROWS (27 + bank)) = s.get (Fl.HLT_MON_STATUS_SPARE_ROWS (27 + bank)) - 1) ∧
    (s.log.sectorCopy.isSome = true → ∃ t, exec (.logSectorCopyDone dt) s = .next t ∧
      t.get Fl.HLT_SPARES_SECTORS = s.get Fl.HLT_SPARES_SECTORS - 1 ∧ t.log.sectorCopy = none) ∧
    (n < 16 → s.hostClosed Reg.HLT_VERGE_CMD = false → s.hlt.swap = none → s.freeEngines ≠ [] → ∃ t, exec (.swap dt n true) s = .next t ∧
      t.hlt.swap.map (·.engine) = some n ∧ t.is Fl.HLT_STATUS_SWAP_BUSY = true) ∧
    (s.hostClosed Reg.HLT_VERGE_CMD = false → s.hlt.swap.map (·.switched) = some false → ∃ t, exec (.swapAbort dt true) s = .next t ∧
      t.hlt.swap = none ∧ t.get Fl.HLT_VERGE_STATUS_RESULT = 4) ∧
    (s.hlt.swap.isSome = true → ∃ t, exec (.swapCopyDone dt) s = .next t ∧ t.hlt.swap.map (·.copied) = some true) ∧
    (n < 72 → s.cellsLeft = 0 → ∃ t, exec (.selfCheckWrongResult dt (.cell n)) s = .next t ∧ t.is Fl.HLT_STATUS_DEGRADED = true) ∧
    (∃ t, exec (.vkeepLoss dt) s = .next t ∧ t.gns.retKeep = none ∧ t.sec.tamperLatch = false)

/-- The commands of the fabric, power, lanes, Kerb and wear complete. -/
def Obligations.PowerLaneAndHealthCommandsComplete : Prop :=
  Parts.PowerCommandsComplete ∧ Parts.LaneCommandsComplete ∧ Parts.HealthCommandsComplete


/-! ### What each command does where it runs: sensors, satellites, fusion and the loop engine (R79 to R138, R166 to R197) -/

/-- The commands of the sensor ports and the filter chain, each where it has its effect: a good sentence and a good frame deliver their
value, a byte waits to be sent, a status read answers, a sample frame starts and its slots complete, a trigger's edge is dated, a
stream takes its sample and goes stale, and coefficients, delays and fades reach their channel. -/
def Parts.SensorCommandsComplete : Prop :=
  ∀ (dt p n c i k slot lane st t0 at0 : Nat) (w : Word) (v : List Int) (rx : SerialIn) (r : Bytes) (s : State), s.alive = true →
    let now := s.now + dt
    let cs := bytesNat rx.chars
    let addr (b : List Nat) : List Nat := (splitOn 44 b).headD []
    let stamp (m : Nat) : Nat := (s.elapse dt).edgeStamp p rx.agoNs - s.strLatAt m (now - rx.agoNs)
    let f := framingOf s (s.get (Fl.SNS_PORT_CFG_FRAMING p))
    let d := (f.drop 16).take 12
    let sel := s.get ⟨Reg.FIR_COEF_SEL, 5, 0⟩
    (s.isOpen 8 = true → p < 5 → rx.lost = 0 → s.get (Fl.SNS_PORT_CFG_MODE p) = 1 → (s.port p).cfgAt + rx.agoNs ≤ now → ∀ ck b,
      sentenceBody cs = some (ck, b) → ck.getD (s.is (Fl.SNS_PORT_CFG_CSUM_OPT p)) = true → (addr b).length = 5 →
      s.boundStreams p (beAt (addr b) 0 2) ((addr b).drop 2) = [r] → ∀ z,
      decodeSentence ((addr b).drop 2) ((splitOn 44 b).drop 1) = .values [z] → TakesSample (byteAt r 0) r (stamp (byteAt r 0)) s →
      ∃ t, exec (.iecSentenceReceived dt p rx) s = .next t ∧ Arrived (byteAt r 0) z (stamp (byteAt r 0)) t) ∧
    (s.isOpen 8 = true → p < 5 → rx.lost = 0 → s.get (Fl.SNS_PORT_CFG_MODE p) = 2 → (s.port p).bin = [] → (s.port p).cfgAt + rx.agoNs ≤ now →
      rx.agoNs ≤ now → 1 ≤ byteAt f 0 → byteAt f 0 ≤ cs.length → cs.take (byteAt f 0) = (f.drop 4).take (byteAt f 0) →
      beAt f 2 2 = cs.length → cs.length ≤ 512 → byteAt f 11 + checkSize (byteAt f 1) ≤ cs.length → byteAt f 1 = 0 → byteAt f 13 = 1 →
      ∀ q, strRec s (byteAt d 4) = some q → TakesSample (byteAt d 4) q (stamp (byteAt d 4)) s → byteAt q 1 = p + 1 → byteAt q 3 = 1 →
      byteAt q 11 = s.get (Fl.SNS_PORT_CFG_FRAMING p) →
      ∃ t, exec (.binaryFrameReceived dt p rx) s = .next t ∧
        Arrived (byteAt d 4) [frameField (byteAt q 24 == 6) d cs] (stamp (byteAt d 4)) t) ∧
    (p < 5 → s.hostClosed (Reg.SNS_PORT_TXDATA p) = false → (s.port p).tx = [] → ∃ t, exec (.snsPortTxdata dt p w) s = .next t ∧
      (t.port p).tx = [w.toNat % 256]) ∧
    (p < 5 → s.hostClosed (Reg.SNS_PORT_STATUS p) = false → ∃ t, exec (.snsPortStatusRead dt p) s = .next t ∧
      t.hif.miso.length = 4 ∧ t.is (Fl.SNS_PORT_STATUS_TX_LOST p) = false) ∧
    (s.isOpen 8 = true → s.is Fl.SNS_SMP_CFG_EN = true → frameDueAt s now = true → s.sns.frame = none →
      ∃ t, exec (.samplePortFrameStart dt) s = .next t ∧ t.sns.frame = some ((s.elapse dt).clk, now)) ∧
    (s.isOpen 8 = true → s.is Fl.SNS_SMP_CFG_EN = true → lane < 4 → slot < 8 → (s.get Fl.SNS_SMP_CFG_LANES).testBit lane = true →
      s.sns.frame = some (t0, at0) → at0 + 1000000000 ≤ now →
      (strRecs s).filter (fun x => byteAt x 1 == 6 && byteAt x 2 == 8 * lane + slot) = [r] →
      TakesSample (byteAt r 0) r (t0 - s.strLat (byteAt r 0)) s → ∃ t, exec (.sampleSlotComplete dt lane slot w) s = .next t ∧
        Arrived (byteAt r 0) [sBits 24 (w.toNat / 256)] (t0 - s.strLat (byteAt r 0)) t) ∧
    (k < 2 → s.isOpen 8 = true → s.is (Fl.SNS_TRIG_CTL_EN k) = true → s.clock.running = true → aGetD s.sns.edges k [] = [] →
      s.rd (Reg.SNS_TRIG_PERIOD k) % 2 ^ 20 ≠ 0 → (s.elapse dt).clk % (s.rd (Reg.SNS_TRIG_PERIOD k) % 2 ^ 20 * 1000) = 0 →
      s.rd (Reg.SNS_TRIG_PHASE k) = 0 →
      ∃ t, exec (.triggerEdge dt k) s = .next t ∧ (aGetD t.sns.edges k []).head? = some ((s.elapse dt).clk, now)) ∧
    (v ≠ [] → TakesSample n r st s → ∃ t, exec (.streamSample dt n v st) s = .next t ∧ Arrived n v st t) ∧
    (s.pathOpen = true → strRec s n = some r → (s.strm n).last.isSome = true → (s.strm n).lastAt + byteAt r 22 * strNom r * 1000 ≤ now →
      ∃ t, exec (.streamStale dt n) s = .next t ∧ t.get (Fl.SNS_STR_STATUS_STATE n) = 3) ∧
    (i < 768 → sel < 48 → s.hostClosed (Reg.FIR_COEF i) = false → s.fading sel = false → ∃ t, exec (.firCoefWrite dt i w) s = .next t ∧
      t.bankOther sel = (s.bankOther sel).set i (sInt w.toNat)) ∧
    (c < 48 → s.hostClosed (Reg.FIR_CH_GD_INACT c) = false → Rw.FIR_CH_GD_INACT.legalOk w.toNat = true → s.fading c = false →
      ∃ t, exec (.firGdInactWrite dt c w) s = .next t ∧ t.rd (Reg.FIR_CH_GD_INACT c) = w.toNat % 2 ^ 18) ∧
    (c < 48 → HostStages (Reg.FIR_CH_FADE c) s → Rw.FIR_CH_FADE.legalOk w.toNat = true → w.toNat.testBit 31 = true →
      s.fading c = false → s.bankOther c ≠ [] → 1 ≤ w.toNat % 2048 → w.toNat % 2048 ≤ 1024 →
      s.rd (Reg.FIR_CH_GD_ACT c) = s.rd (Reg.FIR_CH_GD_INACT c) → ∃ t, exec (.fadeRequest dt c w) s = .next t ∧
        (aGet t.staged (Reg.FIR_CH_FADE c)).map (·.toNat) = some (2 ^ 31 + w.toNat % 2048))

/-- The commands of the satellite baseband, each where it has its effect: a channel acquires, loses its signal and loses GCLK, the
front-end wire starts and ends a transaction, an epoch shows its solution, corrections arrive and are decoded, notches engage, the holdover
ends and the pulse is given. -/
def Parts.BasebandCommandsComplete : Prop :=
  ∀ (dt k : Nat) (w : Word) (q : Acq) (e : PvtIn) (l : SpecLine) (fs : List Byte) (s : State), s.alive = true →
    let now := s.now + dt
    let f := bytesNat fs
    let n := beAt f 1 2 % 1024
    let m := (f.drop 3).take n
    (s.isOpen 10 = true → k < 192 → s.chState k = 1 → s.is Fl.GNS_STATUS_GCLK_LOST = false → ∃ t, exec (.acquisitionDone dt k q) s = .next t ∧
      2 ≤ t.chState k) ∧
    (s.isOpen 10 = true → k < 192 → 2 ≤ s.chState k → ∃ t, exec (.signalLost dt k) s = .next t ∧ t.chState k = 1) ∧
    (s.isOpen 10 = true → ∃ t, exec (.gclkLost dt) s = .next t ∧ t.is Fl.GNS_STATUS_GCLK_LOST = true) ∧
    (s.hostClosed Reg.GNS_FE_CMD = false → Rw.GNS_FE_CMD.legalOk w.toNat = true → s.is Fl.GNS_FE_CMD_GO = false → w.toNat.testBit 31 = true →
      ∃ t, exec (.feTransaction dt w true) s = .next t ∧ t.is Fl.GNS_FE_CMD_GO = true ∧ t.gns.fe.isSome = true) ∧
    (s.isOpen 10 = true → s.is Fl.GNS_FE_CMD_GO = true → ∀ x, s.gns.fe = some x → x.1 + 100000 ≤ now →
      ∃ t, exec (.feTransactionDone dt w) s = .next t ∧ t.is Fl.GNS_FE_CMD_GO = false) ∧
    (s.isOpen 10 = true → ∀ p, e.sol = some p → ∃ t, exec (.pvtEpoch dt e) s = .next t ∧ t.rd Reg.GNS_PVT_LAT = p.lat.toNat) ∧
    (s.isOpen 11 = true → s.get Fl.TIM_STATUS_QUALITY = 2 → s.tim.holdAt + s.rd Reg.GNS_HOLD_LIMIT % 65536 * 1000000000 ≤ now →
      ∃ t, exec (.holdoverLimit dt) s = .next t ∧ t.get Fl.TIM_STATUS_QUALITY = 3) ∧
    (s.hostClosed Reg.GNS_RTCM_DATA = false → s.get Fl.GNS_CTL_RTK_SRC = 1 → s.gns.fifo.length < 256 →
      ∃ t, exec (.gnsRtcmData dt w) s = .next t ∧ t.gns.fifo.getLast? = some (w.toNat % 256)) ∧
    (s.isOpen 10 = true → s.get Fl.GNS_CTL_RTK_SRC ≠ 0 → s.gns.fifo = [] → s.gns.dec = [] → byteAt f 0 = 0xD3 → 3 ≤ f.length →
      f.length = n + 6 → crc24q (f.take (n + 3)) = beAt f (n + 3) 3 → State.bitsAt m 0 12 = 1005 →
      ∃ t, exec (.rtcmFrameReceived dt fs) s = .next t ∧ t.get Fl.GNS_RTCM_STATUS_STATION = State.bitsAt m 12 12) ∧
    (s.isOpen 10 = true → l.stream < 4 → s.get Fl.GNS_NOTCH_CFG_TH < l.level → (s.get Fl.GNS_NOTCH_CFG_EN).testBit l.stream = true →
      s.notchOn l.stream 0 = false → s.notchOn l.stream 1 = false → ∃ t, exec (.notchSpectrumUpdate dt [l]) s = .next t ∧
        t.notchOn l.stream 0 = true) ∧
    (s.isOpen 11 = true → (((s.elapse dt).clk : Int) - sBits 16 (s.rd Reg.GNS_PPS_OFFSET)) % 1000000000 = 0 → s.gns.ppsAt = none →
      s.is Fl.GNS_PPS_CTL_EN = true → s.is Fl.GNS_PPS_CTL_SUPPRESS_UNQUAL = false → ∃ t, exec (.ppsEdge dt) s = .next t ∧
        t.gns.ppsAt = some now)

/-- The host's commands to fusion and the loop engine, each where it has its effect: decisions wait for the observer mark, a setpoint for
the leg boundary, a silent joystick begins its ramp, a slot's commands wait for theirs, a test starts and stops, and a capture is armed,
aborted and read. -/
def Parts.LoopCommandsComplete : Prop :=
  ∀ (dt k b : Nat) (w : Word) (s : State), s.alive = true →
    let asked (t : State) (a n : Nat) : Prop := t.fus.cmds = s.fus.cmds ++ [(a, n)]
    (s.hostClosed Reg.FUS_CMD = false → k < 18 → ∃ t, exec (.select dt k) s = .next t ∧ asked t 1 k) ∧
    (s.hostClosed Reg.FUS_CMD = false → k < 18 → ∃ t, exec (.reject dt k) s = .next t ∧ asked t 2 k) ∧
    (s.hostClosed Reg.FUS_CMD = false → k < 18 → ∃ t, exec (.release dt k) s = .next t ∧ asked t 3 k) ∧
    (s.hostClosed Reg.FUS_CMD = false → ∃ t, exec (.d4Enter dt) s = .next t ∧ asked t 4 0) ∧
    (s.hostClosed Reg.FUS_CMD = false → ∃ t, exec (.d4Exit dt) s = .next t ∧ asked t 5 0) ∧
    (s.hostClosed Reg.LOOP_SP_GO = false → Rw.LOOP_SP_GO.legalOk w.toNat = true → w.toNat.testBit 0 = true →
      ∃ t, exec (.spGo dt w) s = .next t ∧ t.loop.go.isSome = true) ∧
    (s.isOpen 6 = true → s.lawMode = 2 → s.loop.ramp = none → s.loop.joyAt + s.get ⟨Reg.LOOP_JOY_TMO, 15, 0⟩ * 1000000 ≤ s.now + dt →
      ∃ t, exec (.joyStale dt) s = .next t ∧ t.is Fl.LOOP_STATUS_JOY_STALE = true ∧ t.loop.ramp.isSome = true) ∧
    (k < 96 → HostStages (Reg.LOOP_SLOT_CTL k) s → ∃ t, exec (.slotClr dt k) s = .next t ∧
      (aGet t.staged (Reg.LOOP_SLOT_CTL k)).map (·.toNat.testBit 31) = some true) ∧
    (k < 96 → HostStages (Reg.LOOP_SLOT_CTL k) s → ∃ t, exec (.slotILoad dt k) s = .next t ∧
      (aGet t.staged (Reg.LOOP_SLOT_CTL k)).map (·.toNat.testBit 30) = some true) ∧
    (s.hostClosed Reg.LOOP_TEST_CTL = false → Rw.LOOP_TEST_CTL.legalOk w.toNat = true → s.is Fl.KRB_STATUS_TEST_PERMIT = true →
      s.inRun = true → s.role = 3 → s.slotRate (w.toNat % 128) ≠ 0 → ∃ t, exec (.testGo dt w true) s = .next t ∧
        t.get Fl.LOOP_TEST_STATUS_STATE = 1 ∧ t.loop.gen.slot = w.toNat % 128) ∧
    (s.hostClosed Reg.LOOP_TEST_CTL = false → s.get Fl.LOOP_TEST_STATUS_STATE = 1 → ∃ t, exec (.testStop dt true) s = .next t ∧
      t.get Fl.LOOP_TEST_STATUS_STATE = 3 ∧ t.get Fl.LOOP_TEST_STATUS_CAUSE = 3) ∧
    (b < 2 → s.hostClosed (Reg.LOOP_CAP_CTL b) = false → Rw.LOOP_CAP_CTL.legalOk w.toNat = true →
      ∃ t, exec (.captureArm dt b w) s = .next t ∧ t.get (Fl.LOOP_CAP_STATUS_STATE b) = 1) ∧
    (b < 2 → s.hostClosed (Reg.LOOP_CAP_CTL b) = false → ∃ t, exec (.captureAbort dt b) s = .next t ∧ t.get (Fl.LOOP_CAP_STATUS_STATE b) = 0) ∧
    (b < 2 → s.hostClosed (Reg.LOOP_CAP_RDDATA b) = false → s.get (Fl.LOOP_CAP_STATUS_STATE b) = 3 →
      ∃ t, exec (.captureRddataRead dt b) s = .next t ∧ t.rd (Reg.LOOP_CAP_RDPTR b) = (s.get ⟨Reg.LOOP_CAP_RDPTR b, 12, 0⟩ + 1) % 8192)

/-- The commands of the sensors, the baseband, fusion and the loop engine complete. -/
def Obligations.SensingCommandsComplete : Prop :=
  Parts.SensorCommandsComplete ∧ Parts.BasebandCommandsComplete ∧ Parts.LoopCommandsComplete


/-! ### What each command does where it runs: the ring, the timebase and the pair (R295 to R352) -/

/-- The commands of the ring, each where it has its effect: a link comes and goes, a ring is joined, released and left, a train's frames are
taken, a foreign frame counts, and messages are answered, sent and popped. -/
def Parts.RingCommandsComplete : Prop :=
  ∀ (dt q r ability : Nat) (w : Word) (x : RxFrame) (m : MgmtMsg) (l : List MgmtMsg) (s : State), s.alive = true →
    let f := bytesNat x.bytes
    let side := x.port / 2
    let held : Prop := s.ring.hasPair = true ∧ beAt f 18 4 = s.rd Reg.RED_EPOCH ∧ beAt f 16 2 = s.rd Reg.RED_OWNER
    let size := ((s.mgmtFrame m.src m).length + 18) + (64 - ((s.mgmtFrame m.src m).length + 18))
    (s.isOpen 16 = true → q < 4 → s.is Fl.RING_CFG_AN_EN = true → ability.testBit 0 = true → s.holdOf (q / 2) = true →
      s.is (Fl.RING_PORT_STATUS_LINK q) = false → s.is (Fl.RING_PORT_STATUS_LINK_REFUSED q) = false →
      ∃ t, exec (.linkUp dt q ability) s = .next t ∧ t.is (Fl.RING_PORT_STATUS_LINK q) = true) ∧
    (s.isOpen 16 = true → q < 4 → ∃ t, exec (.linkDown dt q) s = .next t ∧ t.is (Fl.RING_PORT_STATUS_LINK q) = false ∧
      t.get (Fl.RING_PORT_STATUS_PDELAY q) = 0xFFFF) ∧
    (s.isOpen 16 = true → r < 2 → s.power = 2 ∨ s.power = 3 → s.ringState r = 0 → s.holdOf r = false → s.leaving r = false →
      s.released r = false → ∃ t, exec (.ringListen dt r) s = .next t ∧ t.ringState r = 1) ∧
    (r < 2 → s.hostClosed Reg.RING_CTL = false → ∃ t, exec (.ringRelease dt r true) s = .next t ∧ t.released r = true ∧ t.holdOf r = false) ∧
    (r < 2 → s.hostClosed Reg.RING_CTL = false → ∃ t, exec (.ringLeave dt r true) s = .next t ∧ t.leaving r = true) ∧
    (s.isOpen 16 = true → s.isMaster 0 = false → s.isMaster 1 = false → 3 ≤ s.ring.noSync → ∃ t, exec (.syncLost dt) s = .next t ∧
      t.is Fl.RING_STATUS_SYNC_LOST = true) ∧
    (EnrumFrame 1 x s → beAt f 14 2 = 72 → beAt f 2 2 ≠ s.address → s.is Fl.RING_CFG_JUNCTION = false → held → s.following = false →
      s.firstOf 1 0 = true → s.role ≠ 1 → ∃ t, exec (.syncReceived dt x) s = .next t ∧ t.ring.lastSyncNow = some (s.now + dt) ∧
        t.is Fl.RING_STATUS_SYNC_LOST = false) ∧
    (FreshFrame 2 x s → beAt f 2 2 = s.rd Reg.RED_OWNER → s.firstOf 2 0 = true → ∃ t, exec (.commandFrameReceived dt x) s = .next t ∧
      t.ring.lastCmds = (f.drop 16).take (beAt f 14 2)) ∧
    (FreshFrame 3 x s → beAt f 14 2 = 12 → byteAt f 22 = 0 → byteAt f 23 = 0 → beAt f 18 2 ≤ 12 → byteAt f 20 = 1 → beAt f 16 2 ≠ s.address →
      ∃ t, exec (.collectFrameReceived dt x) s = .next t ∧ (t.side side).filled.contains (beAt f 16 2 % 256) = true) ∧
    (FreshFrame 4 x s → aGet s.ring.pages (byteAt f 16) = none → ∃ t, exec (.imageFrameReceived dt x) s = .next t ∧
      aGet t.ring.pages (byteAt f 16) = some ⟨beAt f 20 4, (f.drop 24).take 256⟩) ∧
    (EnrumFrame 5 x s → beAt f 2 2 ≠ s.address → beAt f 4 2 = s.address → s.firstOf 5 (beAt f 2 2 * 2 ^ 16 + beAt f 18 2) = true →
      byteAt f 16 = 1 → ∃ t, exec (.mgmtFrameReceived dt x) s = .next t ∧ t.ring.txq.length = s.ring.txq.length + 1) ∧
    (s.isOpen 16 = true → s.carries (x.port % 4) = true → ∃ t, exec (.foreignFrameReceived dt x) s = .next t ∧
      Counted (Reg.RING_PORT_FOREIGN (x.port % 4)) s t) ∧
    (s.hostClosed Reg.RING_MGMT_TX_CTL = false → Rw.RING_MGMT_TX_CTL.legalOk w.toNat = true → w.toNat.testBit 31 = true →
      ∃ t, exec (.mgmtSend dt w true) s = .next t ∧ t.ring.txq.length = s.ring.txq.length + 1) ∧
    (s.isOpen 16 = true → s.ring.txq = m :: l → m.ring < 2 → 10 * s.window.1 ≤ s.now + dt - s.ring.boundAt →
      s.now + dt - s.ring.boundAt + (size + 20) * 8 ≤ 10 * s.window.2 → ∃ t, exec (.mgmtTransmit dt) s = .next t ∧ t.ring.txq = l ∧
        t.ring.sent.length = 2) ∧
    (s.hostClosed Reg.RING_MGMT_RX_POP = false → ∃ t, exec (.mgmtRxPop dt) s = .next t ∧ t.ring.mail = s.ring.mail.drop 1)

/-- The commands of the timebase, each where it has its effect: a message of a master gives its offset, a failed source is lost, a jump is
accepted, the step is made, a slew ends, the time is read, and a message goes out. -/
def Parts.TimeCommandsComplete : Prop :=
  ∀ (dt c port : Nat) (off : Int) (m : PtpMsg) (s : State), s.alive = true →
    let clk := (s.elapse dt).clk
    (s.isOpen 11 = true → m.domain = s.get Fl.TIM_PTP_CFG_DOMAIN → m.port < 4 → s.carries m.port = true → m.kind = .pdelayReq →
      ∃ t, exec (.ptpMessageReceived dt m) s = .next t ∧ t.tim.txLast.map (fun x => (x.kind, x.port, x.seq)) = some (4, m.port, m.seq)) ∧
    (s.isOpen 11 = true → 2 ≤ c → c ≤ 4 → ptpFailed s c (s.now + dt) = true → ∃ t, exec (.ptpSourceLost dt c) s = .next t ∧
      (t.timSrc c).run = 0 ∧ (t.timSrc c).best = []) ∧
    (s.hostClosed Reg.TIM_JUMP_CTL = false → s.is Fl.TIM_STATUS_JUMP_PENDING = true → ∃ t, exec (.accept dt true) s = .next t ∧
      t.tim.accepted = true) ∧
    (s.isOpen 11 = true → s.tim.step = some off → clk % 10 ^ 9 ≤ 4 → s.tim.stepSec < clk / 10 ^ 9 → ∃ t, exec (.timeStep dt) s = .next t ∧
      t.tim.step = none ∧ t.get Fl.TIM_STATUS_QUALITY = 1) ∧
    (s.isOpen 11 = true → s.tim.slewLeft.natAbs * 10 ^ 9 ≤ (s.now + dt - s.tim.slewFrom) * s.rd Reg.TIM_SLEW →
      ∃ t, exec (.slewComplete dt) s = .next t ∧ t.is Fl.TIM_STATUS_SLEWING = false ∧ t.tim.slewLeft = 0) ∧
    (s.hostClosed Reg.TIM_NOW_NS = false → ∃ t, exec (.timNowNsRead dt) s = .next t ∧ t.rd Reg.TIM_NOW_NS = clk % 10 ^ 9) ∧
    (s.isOpen 11 = true → port < 4 → aGet s.tim.txAt (2 * 8 + port) = none → (s.elapse dt).inWindow 54 = true →
      ∃ t, exec (.ptpMessageTransmit dt .pdelayReq port) s = .next t ∧ aGet t.tim.reqT1 port = some clk)

/-- The commands of the pair, each where it has its effect: heartbeats are sent, heard and seen, paths fall silent and are restored,
Milestones and resync fragments gather and are applied, and roles are exchanged, assumed, taken over and waited for. -/
def Parts.PairCommandsComplete : Prop :=
  ∀ (dt e u : Nat) (b : Bool) (fs : List Byte) (d : Bytes) (s : State), s.alive = true →
    let f := bytesNat fs
    let now := s.now + dt
    let quiet : Prop := quietAt now s.red.cwAt = true ∧ quietAt now s.red.hbAt = true
    (s.isOpen 17 = true → s.power = 2 ∨ s.power = 3 ∨ s.power = 4 → s.role ≠ 4 → s.hasPartner = true → s.red.cwLink = true →
      (now - s.ring.boundAt) % 125000 < 4 → ∃ t, exec (.heartbeatSend dt) s = .next t ∧ t.red.sent.map (·.1) = [0x10] ∧
        t.red.hbIndex = (s.red.hbIndex + 1) % 8) ∧
    (s.isOpen 17 = true → PartnerHeartbeat f s → byteAt f 16 ≠ 3 → ∃ t, exec (.heartbeatReceived dt fs true) s = .next t ∧
      t.red.cwAt = some now) ∧
    (s.isOpen 17 = true → s.red.edgeAt = some e → e + 40000 ≤ now → now ≤ e + 90000 → ∃ t, exec (.hbInEdge dt b) s = .next t ∧
      t.red.hbAt = some now) ∧
    (s.isOpen 17 = true → s.hasPartner = true → s.is Fl.RED_STATUS_CW_SILENT = false → s.red.cwAt = some u → u + 375000 ≤ now →
      quietAt now s.red.hbAt = false → ∃ t, exec (.pathSilence dt true) s = .next t ∧ t.is Fl.RED_STATUS_CW_SILENT = true ∧
        Counted Reg.RED_PATH_FAULTS s t) ∧
    (s.isOpen 17 = true → s.red.cwFault = true → quietAt now s.red.cwAt = false → s.red.cwSince + 10000000 ≤ now →
      ∃ t, exec (.pathRestored dt true) s = .next t ∧ t.red.cwFault = false) ∧
    (s.isOpen 17 = true → PartnerData 0x11 f s → s.role = 2 → s.red.exch = none → byteAt f 16 = 0 →
      ∃ t, exec (.milestoneFrameReceived dt fs true) s = .next t ∧ t.red.fast = some (State.takeFrag s.red.fast f)) ∧
    (s.isOpen 17 = true → PartnerData 0x12 f s → s.role = 1 → s.red.resyncFrom.isSome = true → beAt f 18 2 = 0 →
      ∃ t, exec (.resyncFrameReceived dt fs true) s = .next t ∧ t.red.resync = some (State.takeFrag none f)) ∧
    (s.isOpen 17 = true → s.inRun = true → s.cyc.voided = false → 13 ∉ s.cyc.marks → s.cyc.boundaryAt + 400000 ≤ now → s.hasPartner = true →
      s.role = 2 → s.red.loaded = true → s.cyc.leg ≠ 4 → State.msDone s.red.fast = some ((s.cyc.pace + 2 ^ 32 - 1) % 2 ^ 32, d) →
      ∃ t, exec (.milestoneApplyMark dt) s = .next t ∧ t.red.fast = none ∧ t.red.fastApplied = some ((s.cyc.pace + 2 ^ 32 - 1) % 2 ^ 32)) ∧
    (s.hostClosed Reg.RED_CMD = false → s.role = 3 → s.red.exch = none → s.red.exchAsked = none → s.get Fl.RED_STATUS_PARTNER_ROLE = 2 →
      s.red.partnerCurrent = true → s.red.cwFault = false → s.red.hbFault = false → ¬ quiet → s.red.partnerLayout = s.layoutId →
      ∃ t, exec (.exchange dt true) s = .next t ∧ t.red.exchAsked.isSome = true) ∧
    (s.hostClosed Reg.RED_CMD = false → s.inRun = true → s.role = 2 → s.get Fl.RED_STATUS_PARTNER_ROLE = 2 → State.msDone s.red.fast = none →
      s.red.fullDone = [] → ∃ t, exec (.assume dt true) s = .next t ∧ t.role = 3) ∧
    (s.isOpen 17 = true → s.inRun = true → s.role = 2 → s.is Fl.RED_STATUS_RING_STANDBY = true → s.hasPartner = false →
      s.ring.lastSyncNow.getD s.red.waitFrom + s.get Fl.RED_CFG_TAKE_WAIT * 1000000 ≤ now → ∃ t, exec (.ringTakeover dt) s = .next t ∧
        t.role = 3 ∧ t.rd Reg.RED_EPOCH = (s.ring.highEpoch + 1) % 2 ^ 32) ∧
    (s.isOpen 17 = true → s.inRun = true → s.role = 1 → s.red.heardOwner = false → 64 ≤ s.red.waitCycles →
      s.red.waitFrom + 64 * s.cycleNs + 2000000000 ≤ now → ∃ t, exec (.roleWaitExpiry dt) s = .next t ∧ t.role = 3)

/-- The commands of the ring, the timebase and the pair complete. -/
def Obligations.RingTimeAndPairCommandsComplete : Prop :=
  Parts.RingCommandsComplete ∧ Parts.TimeCommandsComplete ∧ Parts.PairCommandsComplete


/-! ### What each command does where it runs: the host port, the records, the Tollgate and security (R15 to R26, R353 to R425) -/

/-- The host's accesses and counter clears, each where it has its effect: a freeze begins, ends and expires, a frame carries its word, a
register is written, a low word latches its high one, and a set bit clears its counter. -/
def Parts.HostCommandsComplete : Prop :=
  ∀ (dt n addr : Nat) (w : Word) (f : SpiIn) (s : State), s.alive = true →
    let one : Prop := w.toNat.testBit 0 = true
    let takes (a : Nat) : Prop := s.hostClosed a = false
    (s.tg.armed = none → s.freeze = none → ∃ t, exec (.snapEpochRead dt) s = .next t ∧ t.freeze = some 100) ∧
    (s.tg.armed = none → s.inRun = true → s.freeze.isSome = true → ∃ t, exec (.snapRelease dt w) s = .next t ∧ t.freeze = none) ∧
    (s.tg.armed = none → s.inRun = false → s.freeze = some n → 1 ≤ n → n + s.frozenMs ≤ (s.elapse dt).ms →
      ∃ t, exec (.snapExpired dt) s = .next t ∧ t.freeze = none ∧ t.is Fl.HIF_STATUS_SNAP_EXPIRED = true) ∧
    (HostQuiet s → f.rdy = true → s.pins.hRdy = true → bytesNat f.mosi = writeBytes Reg.GLB_SCRATCH w.toNat →
      ∃ t, exec (.writeFrame dt f) s = .next t ∧ t.rd Reg.GLB_SCRATCH = w.toNat) ∧
    (HostQuiet s → f.rdy = true → s.pins.hRdy = true → (bytesNat f.mosi).take 7 = readBytes Reg.GLB_SCRATCH → f.whole = true →
      let data := (portBytes (s.rd Reg.GLB_SCRATCH)).map (·.toNat)
      ∃ t, exec (.readFrame dt f) s = .next t ∧
        t.hif.miso = (s.statusByte :: [0, 0, 0, 0, 0, 0] ++ data ++ toBE 2 (crc16 data)).map (BitVec.ofNat 8)) ∧
    (takes addr → HostQuiet s → ∀ r, findRow addr = some r → r.acc = .rw → r.w1c = 0 → r.base ∉ ownWrites → r.legalOk w.toNat = true →
      addr / 0x10000 ≠ 0x30 → r.base < Reg.LOOP_ORIGIN_LAT ∨ Reg.LOOP_ORIGIN_CTL < r.base →
      ∃ t, exec (.registerWrite dt addr w true) s = .next t ∧ t.rd addr = State.mergeWrite r (s.rd addr) w.toNat % 2 ^ 32) ∧
    (takes addr → HostQuiet s → ∀ r, findRow addr = some r → r.acc = .ros → r.base ∉ ownReads → State.isSection r.base = false →
      addr / 0x10000 < 0x20 → ∃ t, exec (.rosLowRead dt addr false) s = .next t ∧ (aGet t.shadows addr).isSome = true ∧
        t.hif.miso = portBytes (s.shown addr)) ∧
    (one → takes Reg.FAB_CNT_CLR → ∃ t, exec (.fabCntClr dt w) s = .next t ∧ Cleared Reg.FAB_TAG_STALL t) ∧
    (one → takes Reg.ENG_CNT_CLR → ∃ t, exec (.engCntClr dt w) s = .next t ∧ Cleared (Reg.ENG_INVALID 0) t) ∧
    (takes Reg.SNS_CNT_CLR → Rw.SNS_CNT_CLR.legalOk w.toNat = true → w.toNat.testBit 6 = true → ∃ t, exec (.snsCntClr dt w) s = .next t ∧
      Cleared (Reg.SNS_STR_GAP (w.toNat % 64)) t) ∧
    (one → takes Reg.GNS_CNT_CLR → ∃ t, exec (.gnsCntClr dt w) s = .next t ∧ Cleared Reg.GNS_RTCM_ERR t) ∧
    (one → takes Reg.FUS_CNT_CLR → ∃ t, exec (.fusCntClr dt w) s = .next t ∧ Cleared (Reg.FUS_TRK_GATE_FAIL 0) t) ∧
    (one → takes Reg.ALC_CNT_CLR → ∃ t, exec (.alcCntClr dt w) s = .next t ∧ Cleared Reg.ALC_MISS t) ∧
    (one → takes Reg.SLV_CNT_CLR → ∃ t, exec (.slvCntClr dt w) s = .next t ∧ Cleared Reg.SLV_A_PIVOT_REG t) ∧
    (one → takes Reg.HZN_CNT_CLR → ∃ t, exec (.hznCntClr dt w) s = .next t ∧ Cleared Reg.HZN_TRUNCATED t) ∧
    (one → takes Reg.FBK_CNT_CLR → ∃ t, exec (.fbkCntClr dt w) s = .next t ∧ Cleared (Reg.FB_ILLEGAL 0) t) ∧
    (one → n < 64 → takes (Reg.LANE_CNT_CLR n) → ∃ t, exec (.laneCntClr dt n w) s = .next t ∧ Cleared (Reg.LANE_FAULTS n) t) ∧
    (one → takes Reg.KRB_CNT_CLR → ∃ t, exec (.krbCntClr dt w) s = .next t ∧ Cleared Reg.KRB_TRIPS t) ∧
    (one → takes Reg.RING_CNT_CLR → ∃ t, exec (.ringCntClr dt w) s = .next t ∧ Cleared (Reg.RING_PORT_FCS_ERR 0) t) ∧
    (one → takes Reg.TIM_CNT_CLR → ∃ t, exec (.timCntClr dt w) s = .next t ∧ Cleared Reg.TIM_JUMPS t) ∧
    (one → takes Reg.RED_CNT_CLR → ∃ t, exec (.redCntClr dt w) s = .next t ∧ Cleared Reg.RED_TAKEOVERS t) ∧
    (one → takes Reg.TG_CNT_CLR → ∃ t, exec (.tgCntClr dt w) s = .next t ∧ Cleared Reg.TG_COMMITS t) ∧
    (one → takes Reg.SEC_CNT_CLR → ∃ t, exec (.secCntClr dt w true) s = .next t ∧ Cleared Reg.SEC_UNPRIV t) ∧
    (one → takes Reg.LOG_CNT_CLR → ∃ t, exec (.logCntClr dt w) s = .next t ∧ Cleared Reg.LOG_DROPPED t) ∧
    (one → takes Reg.HIF_CNT_CLR → ∃ t, exec (.hifCntClr dt w) s = .next t ∧ Cleared Reg.HIF_FRAMES t) ∧
    (one → takes Reg.PWR_CNT_CLR → ∃ t, exec (.pwrCntClr dt w) s = .next t ∧ Cleared Reg.PWR_UNIT_RESETS t) ∧
    (one → takes Reg.HLT_CNT_CLR → ∃ t, exec (.hltCntClr dt w) s = .next t ∧ Cleared Reg.HLT_LEG_OVERRUN t)

/-- The commands of the recorder, the Tollgate and the loader, each where it has its effect: records are made, marked, verified, cleared and
read, entries are staged, checked, committed and aborted, the NOR is written, and a boot ends. -/
def Parts.RecordAndConfigurationCommandsComplete : Prop :=
  ∀ (dt off slot : Nat) (w : Word) (e : Event) (b : BootIn) (s : State), s.alive = true →
    let takes (a : Nat) : Prop := s.hostClosed a = false
    let q := s.nvwAddr 0 / quarterOf s.ldr
    let free : Prop := s.is Fl.TG_NVW_STATUS_BUSY = false ∧ q ≠ 0 ∧ q ≠ s.get Fl.TG_BOOT_SLOT
    let code := e.severity * 2 ^ 14 + e.event
    (s.isOpen 18 = true → e.source ∈ recordUnits → e.severity < 4 → 1 ≤ e.event → e.event < 2 ^ 14 → e.arg < 256 → e.data < 2 ^ 32 →
      ∃ t, exec (.logAppend dt e) s = .next t ∧ ∃ x, aGet t.log.last e.source = some x ∧ x.entry.code = code) ∧
    (takes Reg.LOG_CMD → ∃ t, exec (.mark dt true) s = .next t ∧ ∃ x, aGet t.log.last 21 = some x ∧ x.entry.data = s.rd Reg.LOG_MARK) ∧
    (takes Reg.LOG_CMD → s.sec.rsk.isSome = true → s.is Fl.LOG_VERIFY_BUSY = false → ∃ t, exec (.logVerifyStart dt true) s = .next t ∧
      t.is Fl.LOG_VERIFY_BUSY = true) ∧
    (s.is Fl.LOG_VERIFY_BUSY = true → s.sec.rsk.isSome = true → ∃ t, exec (.logVerifyDone dt) s = .next t ∧ t.is Fl.LOG_VERIFY_BUSY = false ∧
      t.is Fl.LOG_VERIFY_DONE = true) ∧
    (takes Reg.LOG_CMD → s.power = 2 → s.is Fl.LOG_STATUS_CLEARING = false → ∃ t, exec (.logClearStart dt true) s = .next t ∧
      t.is Fl.LOG_STATUS_CLEARING = true ∧ t.log.main = []) ∧
    (s.log.clearPending = true → ∃ t, exec (.logCleared dt) s = .next t ∧ t.log.clearPending = false ∧
      t.is Fl.LOG_STATUS_CLEARING = false) ∧
    (takes Reg.LOG_RD_INDEX → ∃ t, exec (.logRdIndexWrite dt w) s = .next t ∧ t.get Fl.LOG_RD_INDEX_INDEX = w.toNat % 2 ^ 15) ∧
    (takes (Reg.LOG_RD_DATA 7) → ∃ t, exec (.logRdDataRead dt) s = .next t ∧ t.hif.miso = portBytes (s.rd (Reg.LOG_RD_DATA 7))) ∧
    (s.isOpen 19 = true → NoCommitDue s → s.get Fl.TG_STATUS_STATE ≠ 2 → s.get Fl.TG_STATUS_STATE ≠ 4 → s.tg.entries.length < 4096 →
      ∃ t, exec (.tgData dt w true) s = .next t ∧ t.tg.entries = s.tg.entries ++ [(s.rd Reg.TG_ADDR, w)]) ∧
    (s.isOpen 19 = true → NoCommitDue s → ∃ t, exec (.clear dt true) s = .next t ∧ t.tg.entries = []) ∧
    (s.isOpen 19 = true → NoCommitDue s → s.get Fl.TG_STATUS_STATE ≠ 2 → s.get Fl.TG_STATUS_STATE ≠ 4 →
      ∃ t, exec (.check dt true) s = .next t ∧ t.get Fl.TG_STATUS_STATE = 2) ∧
    (s.isOpen 19 = true → s.get Fl.TG_STATUS_STATE = 2 → ∃ t, exec (.tgCheckDone dt) s = .next t ∧
      (t.get Fl.TG_STATUS_STATE = 3 ∨ t.get Fl.TG_STATUS_STATE = 6)) ∧
    (s.isOpen 19 = true → NoCommitDue s → s.get Fl.TG_STATUS_STATE = 3 → s.inRun = false → ∃ t, exec (.commit dt 0 true) s = .next t ∧
      t.get Fl.TG_STATUS_STATE = 4 ∧ t.tg.armed.isSome = true) ∧
    (s.isOpen 19 = true → NoCommitDue s → s.get Fl.TG_STATUS_STATE = 4 → ∃ t, exec (.abort dt true) s = .next t ∧
      t.get Fl.TG_STATUS_STATE = 3 ∧ t.tg.armed = none) ∧
    (s.isOpen 19 = true → ∃ t, exec (.nvwWrite dt off w true) s = .next t ∧ t.ldr.bufRow = off % 65536 / 4 * 4 / 256) ∧
    (s.isOpen 19 = true → free → ∃ t, exec (.program dt true) s = .next t ∧ t.is Fl.TG_NVW_STATUS_BUSY = true) ∧
    (s.isOpen 19 = true → free → ∃ t, exec (.erase dt true) s = .next t ∧ t.is Fl.TG_NVW_STATUS_BUSY = true) ∧
    (s.isOpen 19 = true → s.is Fl.TG_NVW_STATUS_BUSY = false → slot = 1 ∨ slot = 2 → ∃ t, exec (.verify dt slot true) s = .next t ∧
      t.ldr.cmd = some (3, slot)) ∧
    (s.isOpen 19 = true → s.ldr.cmd.isSome = true → s.pwr.quietWait = false → ∃ t, exec (.nvwCommandDone dt) s = .next t ∧ t.ldr.cmd = none ∧
      t.is Fl.TG_NVW_STATUS_BUSY = false) ∧
    (s.power = 1 → s.is Fl.TG_BOOT_FAILED = false → ∃ t, exec (.bootComplete dt b) s = .next t ∧ t.sec.rsk.isSome = true)

/-- The commands of the security unit, each where it has its effect: triggers are latched, keys are erased, loaded, made and used, exports
are read, alarms are cleared, and the debug TAP is challenged and unlocked. -/
def Parts.SecurityCommandsComplete : Prop :=
  ∀ (dt lowNs slot r q : Nat) (w : Word) (s : State), s.alive = true →
    let ready : Prop := s.hostClosed Reg.SEC_CMD = false ∧ s.is Fl.SEC_RESULT_BUSY = false
    let done (t : State) : Prop := t.get Fl.SEC_RESULT_CODE = 0
    let latched (t : State) (c : Nat) : Prop := t.get ⟨Reg.SEC_STATUS, 16 + c, 16 + c⟩ = 1
    (s.isOpen 20 = true → ∃ t, exec (.tamperEvent dt lowNs) s = .next t ∧ latched t 0) ∧
    (s.isOpen 20 = true → ∃ t, exec (.supplyGlitch dt) s = .next t ∧ latched t 1) ∧
    (s.isOpen 20 = true → ∃ t, exec (.temperatureGlitch dt) s = .next t ∧ latched t 2) ∧
    (s.isOpen 20 = true → ∃ t, exec (.kerbOscAnomaly dt) s = .next t ∧ latched t 3) ∧
    (ready → ∃ t, exec (.eraseSession dt true) s = .next t ∧ done t ∧ t.sec.skeys = []) ∧
    (ready → ∃ t, exec (.eraseAll dt true) s = .next t ∧ done t ∧ t.is Fl.SEC_STATUS_ERASE_PENDING = true) ∧
    (s.is Fl.SEC_STATUS_ERASE_PENDING = true → ∃ t, exec (.secErase dt) s = .next t ∧ t.sec.kek = none ∧ t.sec.dik = none) ∧
    (ready → s.power = 2 → s.sec.kek = none → ∃ t, exec (.loadKek dt true) s = .next t ∧ done t ∧ t.sec.kek.isSome = true) ∧
    (ready → slot < 4 → ∀ kek, s.sec.kek = some kek →
      gcmTag kek ((bufBytes s.sec.skeyBuf 15).take 12) [] (((bufBytes s.sec.skeyBuf 15).drop 12).take 32) = (bufBytes s.sec.skeyBuf 15).drop 44 →
      ∃ t, exec (.loadSkey dt slot true) s = .next t ∧ done t ∧ (aGet t.sec.skeys slot).isSome = true) ∧
    (ready → slot < 4 → (aGet s.sec.skeys slot).isSome = true → ∃ t, exec (.exportKey dt slot true true) s = .next t ∧ done t ∧
      t.sec.exportQ ≠ []) ∧
    (s.hostClosed Reg.SEC_EXPORT_DATA = false → ∀ x l, s.sec.exportQ = x :: l → ∃ t, exec (.secExportDataRead dt true) s = .next t ∧
      t.hif.miso = portBytes x.toNat ∧ t.sec.exportQ = l) ∧
    (ready → s.power = 2 → s.sec.dik = none → ∃ t, exec (.genDik dt true true) s = .next t ∧ done t ∧ t.sec.dik.isSome = true) ∧
    (ready → s.sec.dik.isSome = true → ∃ t, exec (.attest dt true true) s = .next t ∧ done t ∧ t.sec.attest.isSome = true) ∧
    (s.sec.attest.isSome = true → ∃ t, exec (.attestDone dt) s = .next t ∧ t.sec.attest = none ∧ t.is Fl.SEC_RESULT_BUSY = false) ∧
    (s.hostClosed Reg.SEC_ALARM_CLR = false → w.toNat.testBit 1 = true → (s.elapse dt).causePresent 1 = false →
      ∃ t, exec (.secAlarmClr dt w true) s = .next t ∧ t.get ⟨Reg.SEC_STATUS, 17, 17⟩ = 0) ∧
    (s.is Fl.SEC_JTAG_CTL_PERMIT = true → s.isOpen 20 = true → ∃ t, exec (.challenge dt) s = .next t ∧ t.sec.challenge.isSome = true) ∧
    (s.is Fl.SEC_JTAG_CTL_PERMIT = true → s.isOpen 20 = true → ∀ c, s.sec.challenge = some c →
      (unlockKeys s).any (fun k => ecdsaVerify k.1 k.2 r q (beNat (sha256 (toBE 32 c ++ toBE 8 Config.dieId)))) = true →
      ∃ t, exec (.unlock dt r q) s = .next t ∧ t.is Fl.SEC_STATUS_JTAG_OPEN = true ∧ t.sec.challenge = none)

/-- The commands of the host port, the recorder, the Tollgate, the loader and the security unit complete. -/
def Obligations.HostAndSecurityCommandsComplete : Prop :=
  Parts.HostCommandsComplete ∧ Parts.RecordAndConfigurationCommandsComplete ∧ Parts.SecurityCommandsComplete
end

