-- ==== Sys2Proof/Laws/State.lean ====
section
/-! SUPPORT. Laws/State.lean: what every named update of the register file leaves alone, field by field, and what
settling the wires and letting time pass leave alone. -/

namespace Sys2Proof.Machine.State

variable (s : State)

/-- Settling changes the pins and the queue alone. -/
theorem settle_keeps {α : Type} (f : State → α) (h : ∀ {t : State} (p : Pins) (q : List Instr), f { t with pins := p, pending := q } = f t)
    (s : State) (q : List Instr) : f (settle q s) = f s := h _ _

@[simp] theorem wr_pending (a v : Nat) : (s.wr a v).pending = s.pending := rfl
@[simp] theorem put_pending (f : Fld) (v : Nat) : (s.put f v).pending = s.pending := rfl
@[simp] theorem flag_pending (f : Fld) (b : Bool) : (s.flag f b).pending = s.pending := rfl
@[simp] theorem clearCount_pending (a : Nat) : (s.clearCount a).pending = s.pending := put_pending s _ _
@[simp] theorem irq_pending (i : Nat) : (s.irq i).pending = s.pending := put_pending s _ _
@[simp] theorem count_pending (a : Nat) : (s.count a).pending = s.pending := by unfold count; split <;> exact put_pending s _ _
@[simp] theorem draw_pending : s.draw.2.pending = s.pending := rfl
@[simp] theorem elapse_pending (dt : Nat) : (s.elapse dt).pending = s.pending := by unfold elapse; split <;> rfl
@[simp] theorem wr_now (a v : Nat) : (s.wr a v).now = s.now := rfl
@[simp] theorem put_now (f : Fld) (v : Nat) : (s.put f v).now = s.now := rfl
@[simp] theorem flag_now (f : Fld) (b : Bool) : (s.flag f b).now = s.now := rfl
@[simp] theorem clearCount_now (a : Nat) : (s.clearCount a).now = s.now := put_now s _ _
@[simp] theorem irq_now (i : Nat) : (s.irq i).now = s.now := put_now s _ _
@[simp] theorem count_now (a : Nat) : (s.count a).now = s.now := by unfold count; split <;> exact put_now s _ _
@[simp] theorem draw_now : s.draw.2.now = s.now := rfl
@[simp] theorem settle_now (q : List Instr) : (settle q s).now = s.now := settle_keeps (·.now) (fun _ _ => rfl) s q
@[simp] theorem wr_free (a v : Nat) : (s.wr a v).free = s.free := rfl
@[simp] theorem put_free (f : Fld) (v : Nat) : (s.put f v).free = s.free := rfl
@[simp] theorem flag_free (f : Fld) (b : Bool) : (s.flag f b).free = s.free := rfl
@[simp] theorem clearCount_free (a : Nat) : (s.clearCount a).free = s.free := put_free s _ _
@[simp] theorem irq_free (i : Nat) : (s.irq i).free = s.free := put_free s _ _
@[simp] theorem count_free (a : Nat) : (s.count a).free = s.free := by unfold count; split <;> exact put_free s _ _
@[simp] theorem elapse_free (dt : Nat) : (s.elapse dt).free = s.free := by unfold elapse; split <;> rfl
@[simp] theorem settle_free (q : List Instr) : (settle q s).free = s.free := settle_keeps (·.free) (fun _ _ => rfl) s q
@[simp] theorem wr_staged (a v : Nat) : (s.wr a v).staged = s.staged := rfl
@[simp] theorem put_staged (f : Fld) (v : Nat) : (s.put f v).staged = s.staged := rfl
@[simp] theorem flag_staged (f : Fld) (b : Bool) : (s.flag f b).staged = s.staged := rfl
@[simp] theorem clearCount_staged (a : Nat) : (s.clearCount a).staged = s.staged := put_staged s _ _
@[simp] theorem irq_staged (i : Nat) : (s.irq i).staged = s.staged := put_staged s _ _
@[simp] theorem count_staged (a : Nat) : (s.count a).staged = s.staged := by unfold count; split <;> exact put_staged s _ _
@[simp] theorem draw_staged : s.draw.2.staged = s.staged := rfl
@[simp] theorem elapse_staged (dt : Nat) : (s.elapse dt).staged = s.staged := by unfold elapse; split <;> rfl
@[simp] theorem settle_staged (q : List Instr) : (settle q s).staged = s.staged := settle_keeps (·.staged) (fun _ _ => rfl) s q
@[simp] theorem wr_pace (a v : Nat) : (s.wr a v).pace = s.pace := rfl
@[simp] theorem put_pace (f : Fld) (v : Nat) : (s.put f v).pace = s.pace := rfl
@[simp] theorem flag_pace (f : Fld) (b : Bool) : (s.flag f b).pace = s.pace := rfl
@[simp] theorem clearCount_pace (a : Nat) : (s.clearCount a).pace = s.pace := put_pace s _ _
@[simp] theorem irq_pace (i : Nat) : (s.irq i).pace = s.pace := put_pace s _ _
@[simp] theorem count_pace (a : Nat) : (s.count a).pace = s.pace := by unfold count; split <;> exact put_pace s _ _
@[simp] theorem draw_pace : s.draw.2.pace = s.pace := rfl
@[simp] theorem elapse_pace (dt : Nat) : (s.elapse dt).pace = s.pace := by unfold elapse; split <;> rfl
@[simp] theorem settle_pace (q : List Instr) : (settle q s).pace = s.pace := settle_keeps (·.pace) (fun _ _ => rfl) s q
@[simp] theorem wr_legB (a v : Nat) : (s.wr a v).legB = s.legB := rfl
@[simp] theorem put_legB (f : Fld) (v : Nat) : (s.put f v).legB = s.legB := rfl
@[simp] theorem flag_legB (f : Fld) (b : Bool) : (s.flag f b).legB = s.legB := rfl
@[simp] theorem clearCount_legB (a : Nat) : (s.clearCount a).legB = s.legB := put_legB s _ _
@[simp] theorem irq_legB (i : Nat) : (s.irq i).legB = s.legB := put_legB s _ _
@[simp] theorem count_legB (a : Nat) : (s.count a).legB = s.legB := by unfold count; split <;> exact put_legB s _ _
@[simp] theorem draw_legB : s.draw.2.legB = s.legB := rfl
@[simp] theorem elapse_legB (dt : Nat) : (s.elapse dt).legB = s.legB := by unfold elapse; split <;> rfl
@[simp] theorem settle_legB (q : List Instr) : (settle q s).legB = s.legB := settle_keeps (·.legB) (fun _ _ => rfl) s q
@[simp] theorem wr_freeze (a v : Nat) : (s.wr a v).freeze = s.freeze := rfl
@[simp] theorem put_freeze (f : Fld) (v : Nat) : (s.put f v).freeze = s.freeze := rfl
@[simp] theorem flag_freeze (f : Fld) (b : Bool) : (s.flag f b).freeze = s.freeze := rfl
@[simp] theorem clearCount_freeze (a : Nat) : (s.clearCount a).freeze = s.freeze := put_freeze s _ _
@[simp] theorem irq_freeze (i : Nat) : (s.irq i).freeze = s.freeze := put_freeze s _ _
@[simp] theorem count_freeze (a : Nat) : (s.count a).freeze = s.freeze := by unfold count; split <;> exact put_freeze s _ _
@[simp] theorem draw_freeze : s.draw.2.freeze = s.freeze := rfl
@[simp] theorem elapse_freeze (dt : Nat) : (s.elapse dt).freeze = s.freeze := by unfold elapse; split <;> rfl
@[simp] theorem settle_freeze (q : List Instr) : (settle q s).freeze = s.freeze := settle_keeps (·.freeze) (fun _ _ => rfl) s q
@[simp] theorem wr_frozenMs (a v : Nat) : (s.wr a v).frozenMs = s.frozenMs := rfl
@[simp] theorem put_frozenMs (f : Fld) (v : Nat) : (s.put f v).frozenMs = s.frozenMs := rfl
@[simp] theorem flag_frozenMs (f : Fld) (b : Bool) : (s.flag f b).frozenMs = s.frozenMs := rfl
@[simp] theorem clearCount_frozenMs (a : Nat) : (s.clearCount a).frozenMs = s.frozenMs := put_frozenMs s _ _
@[simp] theorem irq_frozenMs (i : Nat) : (s.irq i).frozenMs = s.frozenMs := put_frozenMs s _ _
@[simp] theorem count_frozenMs (a : Nat) : (s.count a).frozenMs = s.frozenMs := by unfold count; split <;> exact put_frozenMs s _ _
@[simp] theorem draw_frozenMs : s.draw.2.frozenMs = s.frozenMs := rfl
@[simp] theorem elapse_frozenMs (dt : Nat) : (s.elapse dt).frozenMs = s.frozenMs := by unfold elapse; split <;> rfl
@[simp] theorem settle_frozenMs (q : List Instr) : (settle q s).frozenMs = s.frozenMs := settle_keeps (·.frozenMs) (fun _ _ => rfl) s q
@[simp] theorem wr_clock (a v : Nat) : (s.wr a v).clock = s.clock := rfl
@[simp] theorem put_clock (f : Fld) (v : Nat) : (s.put f v).clock = s.clock := rfl
@[simp] theorem flag_clock (f : Fld) (b : Bool) : (s.flag f b).clock = s.clock := rfl
@[simp] theorem clearCount_clock (a : Nat) : (s.clearCount a).clock = s.clock := put_clock s _ _
@[simp] theorem irq_clock (i : Nat) : (s.irq i).clock = s.clock := put_clock s _ _
@[simp] theorem count_clock (a : Nat) : (s.count a).clock = s.clock := by unfold count; split <;> exact put_clock s _ _
@[simp] theorem draw_clock : s.draw.2.clock = s.clock := rfl
@[simp] theorem settle_clock (q : List Instr) : (settle q s).clock = s.clock := settle_keeps (·.clock) (fun _ _ => rfl) s q
@[simp] theorem wr_cyc (a v : Nat) : (s.wr a v).cyc = s.cyc := rfl
@[simp] theorem put_cyc (f : Fld) (v : Nat) : (s.put f v).cyc = s.cyc := rfl
@[simp] theorem flag_cyc (f : Fld) (b : Bool) : (s.flag f b).cyc = s.cyc := rfl
@[simp] theorem clearCount_cyc (a : Nat) : (s.clearCount a).cyc = s.cyc := put_cyc s _ _
@[simp] theorem irq_cyc (i : Nat) : (s.irq i).cyc = s.cyc := put_cyc s _ _
@[simp] theorem count_cyc (a : Nat) : (s.count a).cyc = s.cyc := by unfold count; split <;> exact put_cyc s _ _
@[simp] theorem draw_cyc : s.draw.2.cyc = s.cyc := rfl
@[simp] theorem elapse_cyc (dt : Nat) : (s.elapse dt).cyc = s.cyc := by unfold elapse; split <;> rfl
@[simp] theorem settle_cyc (q : List Instr) : (settle q s).cyc = s.cyc := settle_keeps (·.cyc) (fun _ _ => rfl) s q
@[simp] theorem wr_fab (a v : Nat) : (s.wr a v).fab = s.fab := rfl
@[simp] theorem put_fab (f : Fld) (v : Nat) : (s.put f v).fab = s.fab := rfl
@[simp] theorem flag_fab (f : Fld) (b : Bool) : (s.flag f b).fab = s.fab := rfl
@[simp] theorem clearCount_fab (a : Nat) : (s.clearCount a).fab = s.fab := put_fab s _ _
@[simp] theorem irq_fab (i : Nat) : (s.irq i).fab = s.fab := put_fab s _ _
@[simp] theorem count_fab (a : Nat) : (s.count a).fab = s.fab := by unfold count; split <;> exact put_fab s _ _
@[simp] theorem draw_fab : s.draw.2.fab = s.fab := rfl
@[simp] theorem elapse_fab (dt : Nat) : (s.elapse dt).fab = s.fab := by unfold elapse; split <;> rfl
@[simp] theorem settle_fab (q : List Instr) : (settle q s).fab = s.fab := settle_keeps (·.fab) (fun _ _ => rfl) s q
@[simp] theorem wr_units (a v : Nat) : (s.wr a v).units = s.units := rfl
@[simp] theorem put_units (f : Fld) (v : Nat) : (s.put f v).units = s.units := rfl
@[simp] theorem flag_units (f : Fld) (b : Bool) : (s.flag f b).units = s.units := rfl
@[simp] theorem clearCount_units (a : Nat) : (s.clearCount a).units = s.units := put_units s _ _
@[simp] theorem irq_units (i : Nat) : (s.irq i).units = s.units := put_units s _ _
@[simp] theorem count_units (a : Nat) : (s.count a).units = s.units := by unfold count; split <;> exact put_units s _ _
@[simp] theorem draw_units : s.draw.2.units = s.units := rfl
@[simp] theorem elapse_units (dt : Nat) : (s.elapse dt).units = s.units := by unfold elapse; split <;> rfl
@[simp] theorem settle_units (q : List Instr) : (settle q s).units = s.units := settle_keeps (·.units) (fun _ _ => rfl) s q
@[simp] theorem wr_log (a v : Nat) : (s.wr a v).log = s.log := rfl
@[simp] theorem put_log (f : Fld) (v : Nat) : (s.put f v).log = s.log := rfl
@[simp] theorem flag_log (f : Fld) (b : Bool) : (s.flag f b).log = s.log := rfl
@[simp] theorem clearCount_log (a : Nat) : (s.clearCount a).log = s.log := put_log s _ _
@[simp] theorem irq_log (i : Nat) : (s.irq i).log = s.log := put_log s _ _
@[simp] theorem count_log (a : Nat) : (s.count a).log = s.log := by unfold count; split <;> exact put_log s _ _
@[simp] theorem draw_log : s.draw.2.log = s.log := rfl
@[simp] theorem elapse_log (dt : Nat) : (s.elapse dt).log = s.log := by unfold elapse; split <;> rfl
@[simp] theorem settle_log (q : List Instr) : (settle q s).log = s.log := settle_keeps (·.log) (fun _ _ => rfl) s q
@[simp] theorem wr_hif (a v : Nat) : (s.wr a v).hif = s.hif := rfl
@[simp] theorem put_hif (f : Fld) (v : Nat) : (s.put f v).hif = s.hif := rfl
@[simp] theorem flag_hif (f : Fld) (b : Bool) : (s.flag f b).hif = s.hif := rfl
@[simp] theorem clearCount_hif (a : Nat) : (s.clearCount a).hif = s.hif := put_hif s _ _
@[simp] theorem irq_hif (i : Nat) : (s.irq i).hif = s.hif := put_hif s _ _
@[simp] theorem count_hif (a : Nat) : (s.count a).hif = s.hif := by unfold count; split <;> exact put_hif s _ _
@[simp] theorem draw_hif : s.draw.2.hif = s.hif := rfl
@[simp] theorem elapse_hif (dt : Nat) : (s.elapse dt).hif = s.hif := by unfold elapse; split <;> rfl
@[simp] theorem settle_hif (q : List Instr) : (settle q s).hif = s.hif := settle_keeps (·.hif) (fun _ _ => rfl) s q
@[simp] theorem wr_pwr (a v : Nat) : (s.wr a v).pwr = s.pwr := rfl
@[simp] theorem put_pwr (f : Fld) (v : Nat) : (s.put f v).pwr = s.pwr := rfl
@[simp] theorem flag_pwr (f : Fld) (b : Bool) : (s.flag f b).pwr = s.pwr := rfl
@[simp] theorem clearCount_pwr (a : Nat) : (s.clearCount a).pwr = s.pwr := put_pwr s _ _
@[simp] theorem irq_pwr (i : Nat) : (s.irq i).pwr = s.pwr := put_pwr s _ _
@[simp] theorem count_pwr (a : Nat) : (s.count a).pwr = s.pwr := by unfold count; split <;> exact put_pwr s _ _
@[simp] theorem draw_pwr : s.draw.2.pwr = s.pwr := rfl
@[simp] theorem elapse_pwr (dt : Nat) : (s.elapse dt).pwr = s.pwr := by unfold elapse; split <;> rfl
@[simp] theorem settle_pwr (q : List Instr) : (settle q s).pwr = s.pwr := settle_keeps (·.pwr) (fun _ _ => rfl) s q
@[simp] theorem wr_hlt (a v : Nat) : (s.wr a v).hlt = s.hlt := rfl
@[simp] theorem put_hlt (f : Fld) (v : Nat) : (s.put f v).hlt = s.hlt := rfl
@[simp] theorem flag_hlt (f : Fld) (b : Bool) : (s.flag f b).hlt = s.hlt := rfl
@[simp] theorem clearCount_hlt (a : Nat) : (s.clearCount a).hlt = s.hlt := put_hlt s _ _
@[simp] theorem irq_hlt (i : Nat) : (s.irq i).hlt = s.hlt := put_hlt s _ _
@[simp] theorem count_hlt (a : Nat) : (s.count a).hlt = s.hlt := by unfold count; split <;> exact put_hlt s _ _
@[simp] theorem draw_hlt : s.draw.2.hlt = s.hlt := rfl
@[simp] theorem elapse_hlt (dt : Nat) : (s.elapse dt).hlt = s.hlt := by unfold elapse; split <;> rfl
@[simp] theorem settle_hlt (q : List Instr) : (settle q s).hlt = s.hlt := settle_keeps (·.hlt) (fun _ _ => rfl) s q
@[simp] theorem wr_ldr (a v : Nat) : (s.wr a v).ldr = s.ldr := rfl
@[simp] theorem put_ldr (f : Fld) (v : Nat) : (s.put f v).ldr = s.ldr := rfl
@[simp] theorem flag_ldr (f : Fld) (b : Bool) : (s.flag f b).ldr = s.ldr := rfl
@[simp] theorem clearCount_ldr (a : Nat) : (s.clearCount a).ldr = s.ldr := put_ldr s _ _
@[simp] theorem irq_ldr (i : Nat) : (s.irq i).ldr = s.ldr := put_ldr s _ _
@[simp] theorem count_ldr (a : Nat) : (s.count a).ldr = s.ldr := by unfold count; split <;> exact put_ldr s _ _
@[simp] theorem draw_ldr : s.draw.2.ldr = s.ldr := rfl
@[simp] theorem elapse_ldr (dt : Nat) : (s.elapse dt).ldr = s.ldr := by unfold elapse; split <;> rfl
@[simp] theorem settle_ldr (q : List Instr) : (settle q s).ldr = s.ldr := settle_keeps (·.ldr) (fun _ _ => rfl) s q
@[simp] theorem wr_tg (a v : Nat) : (s.wr a v).tg = s.tg := rfl
@[simp] theorem put_tg (f : Fld) (v : Nat) : (s.put f v).tg = s.tg := rfl
@[simp] theorem flag_tg (f : Fld) (b : Bool) : (s.flag f b).tg = s.tg := rfl
@[simp] theorem clearCount_tg (a : Nat) : (s.clearCount a).tg = s.tg := put_tg s _ _
@[simp] theorem irq_tg (i : Nat) : (s.irq i).tg = s.tg := put_tg s _ _
@[simp] theorem count_tg (a : Nat) : (s.count a).tg = s.tg := by unfold count; split <;> exact put_tg s _ _
@[simp] theorem draw_tg : s.draw.2.tg = s.tg := rfl
@[simp] theorem elapse_tg (dt : Nat) : (s.elapse dt).tg = s.tg := by unfold elapse; split <;> rfl
@[simp] theorem settle_tg (q : List Instr) : (settle q s).tg = s.tg := settle_keeps (·.tg) (fun _ _ => rfl) s q
@[simp] theorem wr_sec (a v : Nat) : (s.wr a v).sec = s.sec := rfl
@[simp] theorem put_sec (f : Fld) (v : Nat) : (s.put f v).sec = s.sec := rfl
@[simp] theorem flag_sec (f : Fld) (b : Bool) : (s.flag f b).sec = s.sec := rfl
@[simp] theorem clearCount_sec (a : Nat) : (s.clearCount a).sec = s.sec := put_sec s _ _
@[simp] theorem irq_sec (i : Nat) : (s.irq i).sec = s.sec := put_sec s _ _
@[simp] theorem count_sec (a : Nat) : (s.count a).sec = s.sec := by unfold count; split <;> exact put_sec s _ _
@[simp] theorem draw_sec : s.draw.2.sec = s.sec := rfl
@[simp] theorem elapse_sec (dt : Nat) : (s.elapse dt).sec = s.sec := by unfold elapse; split <;> rfl
@[simp] theorem settle_sec (q : List Instr) : (settle q s).sec = s.sec := settle_keeps (·.sec) (fun _ _ => rfl) s q
@[simp] theorem wr_pins (a v : Nat) : (s.wr a v).pins = s.pins := rfl
@[simp] theorem put_pins (f : Fld) (v : Nat) : (s.put f v).pins = s.pins := rfl
@[simp] theorem flag_pins (f : Fld) (b : Bool) : (s.flag f b).pins = s.pins := rfl
@[simp] theorem clearCount_pins (a : Nat) : (s.clearCount a).pins = s.pins := put_pins s _ _
@[simp] theorem irq_pins (i : Nat) : (s.irq i).pins = s.pins := put_pins s _ _
@[simp] theorem count_pins (a : Nat) : (s.count a).pins = s.pins := by unfold count; split <;> exact put_pins s _ _
@[simp] theorem draw_pins : s.draw.2.pins = s.pins := rfl
@[simp] theorem elapse_pins (dt : Nat) : (s.elapse dt).pins = s.pins := by unfold elapse; split <;> rfl
@[simp] theorem wr_ring (a v : Nat) : (s.wr a v).ring = s.ring := rfl
@[simp] theorem put_ring (f : Fld) (v : Nat) : (s.put f v).ring = s.ring := rfl
@[simp] theorem flag_ring (f : Fld) (b : Bool) : (s.flag f b).ring = s.ring := rfl
@[simp] theorem clearCount_ring (a : Nat) : (s.clearCount a).ring = s.ring := put_ring s _ _
@[simp] theorem irq_ring (i : Nat) : (s.irq i).ring = s.ring := put_ring s _ _
@[simp] theorem count_ring (a : Nat) : (s.count a).ring = s.ring := by unfold count; split <;> exact put_ring s _ _
@[simp] theorem draw_ring : s.draw.2.ring = s.ring := rfl
@[simp] theorem elapse_ring (dt : Nat) : (s.elapse dt).ring = s.ring := by unfold elapse; split <;> rfl
@[simp] theorem settle_ring (q : List Instr) : (settle q s).ring = s.ring := settle_keeps (·.ring) (fun _ _ => rfl) s q
@[simp] theorem wr_tim (a v : Nat) : (s.wr a v).tim = s.tim := rfl
@[simp] theorem put_tim (f : Fld) (v : Nat) : (s.put f v).tim = s.tim := rfl
@[simp] theorem flag_tim (f : Fld) (b : Bool) : (s.flag f b).tim = s.tim := rfl
@[simp] theorem clearCount_tim (a : Nat) : (s.clearCount a).tim = s.tim := put_tim s _ _
@[simp] theorem irq_tim (i : Nat) : (s.irq i).tim = s.tim := put_tim s _ _
@[simp] theorem count_tim (a : Nat) : (s.count a).tim = s.tim := by unfold count; split <;> exact put_tim s _ _
@[simp] theorem draw_tim : s.draw.2.tim = s.tim := rfl
@[simp] theorem elapse_tim (dt : Nat) : (s.elapse dt).tim = s.tim := by unfold elapse; split <;> rfl
@[simp] theorem settle_tim (q : List Instr) : (settle q s).tim = s.tim := settle_keeps (·.tim) (fun _ _ => rfl) s q
@[simp] theorem wr_red (a v : Nat) : (s.wr a v).red = s.red := rfl
@[simp] theorem put_red (f : Fld) (v : Nat) : (s.put f v).red = s.red := rfl
@[simp] theorem flag_red (f : Fld) (b : Bool) : (s.flag f b).red = s.red := rfl
@[simp] theorem clearCount_red (a : Nat) : (s.clearCount a).red = s.red := put_red s _ _
@[simp] theorem irq_red (i : Nat) : (s.irq i).red = s.red := put_red s _ _
@[simp] theorem count_red (a : Nat) : (s.count a).red = s.red := by unfold count; split <;> exact put_red s _ _
@[simp] theorem draw_red : s.draw.2.red = s.red := rfl
@[simp] theorem elapse_red (dt : Nat) : (s.elapse dt).red = s.red := by unfold elapse; split <;> rfl
@[simp] theorem settle_red (q : List Instr) : (settle q s).red = s.red := settle_keeps (·.red) (fun _ _ => rfl) s q
@[simp] theorem wr_fbk (a v : Nat) : (s.wr a v).fbk = s.fbk := rfl
@[simp] theorem put_fbk (f : Fld) (v : Nat) : (s.put f v).fbk = s.fbk := rfl
@[simp] theorem flag_fbk (f : Fld) (b : Bool) : (s.flag f b).fbk = s.fbk := rfl
@[simp] theorem clearCount_fbk (a : Nat) : (s.clearCount a).fbk = s.fbk := put_fbk s _ _
@[simp] theorem irq_fbk (i : Nat) : (s.irq i).fbk = s.fbk := put_fbk s _ _
@[simp] theorem count_fbk (a : Nat) : (s.count a).fbk = s.fbk := by unfold count; split <;> exact put_fbk s _ _
@[simp] theorem draw_fbk : s.draw.2.fbk = s.fbk := rfl
@[simp] theorem elapse_fbk (dt : Nat) : (s.elapse dt).fbk = s.fbk := by unfold elapse; split <;> rfl
@[simp] theorem settle_fbk (q : List Instr) : (settle q s).fbk = s.fbk := settle_keeps (·.fbk) (fun _ _ => rfl) s q
@[simp] theorem wr_lanes (a v : Nat) : (s.wr a v).lanes = s.lanes := rfl
@[simp] theorem put_lanes (f : Fld) (v : Nat) : (s.put f v).lanes = s.lanes := rfl
@[simp] theorem flag_lanes (f : Fld) (b : Bool) : (s.flag f b).lanes = s.lanes := rfl
@[simp] theorem clearCount_lanes (a : Nat) : (s.clearCount a).lanes = s.lanes := put_lanes s _ _
@[simp] theorem irq_lanes (i : Nat) : (s.irq i).lanes = s.lanes := put_lanes s _ _
@[simp] theorem count_lanes (a : Nat) : (s.count a).lanes = s.lanes := by unfold count; split <;> exact put_lanes s _ _
@[simp] theorem draw_lanes : s.draw.2.lanes = s.lanes := rfl
@[simp] theorem elapse_lanes (dt : Nat) : (s.elapse dt).lanes = s.lanes := by unfold elapse; split <;> rfl
@[simp] theorem settle_lanes (q : List Instr) : (settle q s).lanes = s.lanes := settle_keeps (·.lanes) (fun _ _ => rfl) s q
@[simp] theorem wr_krb (a v : Nat) : (s.wr a v).krb = s.krb := rfl
@[simp] theorem put_krb (f : Fld) (v : Nat) : (s.put f v).krb = s.krb := rfl
@[simp] theorem flag_krb (f : Fld) (b : Bool) : (s.flag f b).krb = s.krb := rfl
@[simp] theorem clearCount_krb (a : Nat) : (s.clearCount a).krb = s.krb := put_krb s _ _
@[simp] theorem irq_krb (i : Nat) : (s.irq i).krb = s.krb := put_krb s _ _
@[simp] theorem count_krb (a : Nat) : (s.count a).krb = s.krb := by unfold count; split <;> exact put_krb s _ _
@[simp] theorem draw_krb : s.draw.2.krb = s.krb := rfl
@[simp] theorem elapse_krb (dt : Nat) : (s.elapse dt).krb = s.krb := by unfold elapse; split <;> rfl
@[simp] theorem settle_krb (q : List Instr) : (settle q s).krb = s.krb := settle_keeps (·.krb) (fun _ _ => rfl) s q
@[simp] theorem wr_loop (a v : Nat) : (s.wr a v).loop = s.loop := rfl
@[simp] theorem put_loop (f : Fld) (v : Nat) : (s.put f v).loop = s.loop := rfl
@[simp] theorem flag_loop (f : Fld) (b : Bool) : (s.flag f b).loop = s.loop := rfl
@[simp] theorem clearCount_loop (a : Nat) : (s.clearCount a).loop = s.loop := put_loop s _ _
@[simp] theorem irq_loop (i : Nat) : (s.irq i).loop = s.loop := put_loop s _ _
@[simp] theorem count_loop (a : Nat) : (s.count a).loop = s.loop := by unfold count; split <;> exact put_loop s _ _
@[simp] theorem draw_loop : s.draw.2.loop = s.loop := rfl
@[simp] theorem elapse_loop (dt : Nat) : (s.elapse dt).loop = s.loop := by unfold elapse; split <;> rfl
@[simp] theorem settle_loop (q : List Instr) : (settle q s).loop = s.loop := settle_keeps (·.loop) (fun _ _ => rfl) s q
@[simp] theorem wr_sns (a v : Nat) : (s.wr a v).sns = s.sns := rfl
@[simp] theorem put_sns (f : Fld) (v : Nat) : (s.put f v).sns = s.sns := rfl
@[simp] theorem flag_sns (f : Fld) (b : Bool) : (s.flag f b).sns = s.sns := rfl
@[simp] theorem clearCount_sns (a : Nat) : (s.clearCount a).sns = s.sns := put_sns s _ _
@[simp] theorem irq_sns (i : Nat) : (s.irq i).sns = s.sns := put_sns s _ _
@[simp] theorem count_sns (a : Nat) : (s.count a).sns = s.sns := by unfold count; split <;> exact put_sns s _ _
@[simp] theorem draw_sns : s.draw.2.sns = s.sns := rfl
@[simp] theorem elapse_sns (dt : Nat) : (s.elapse dt).sns = s.sns := by unfold elapse; split <;> rfl
@[simp] theorem settle_sns (q : List Instr) : (settle q s).sns = s.sns := settle_keeps (·.sns) (fun _ _ => rfl) s q
@[simp] theorem wr_gns (a v : Nat) : (s.wr a v).gns = s.gns := rfl
@[simp] theorem put_gns (f : Fld) (v : Nat) : (s.put f v).gns = s.gns := rfl
@[simp] theorem flag_gns (f : Fld) (b : Bool) : (s.flag f b).gns = s.gns := rfl
@[simp] theorem clearCount_gns (a : Nat) : (s.clearCount a).gns = s.gns := put_gns s _ _
@[simp] theorem irq_gns (i : Nat) : (s.irq i).gns = s.gns := put_gns s _ _
@[simp] theorem count_gns (a : Nat) : (s.count a).gns = s.gns := by unfold count; split <;> exact put_gns s _ _
@[simp] theorem draw_gns : s.draw.2.gns = s.gns := rfl
@[simp] theorem elapse_gns (dt : Nat) : (s.elapse dt).gns = s.gns := by unfold elapse; split <;> rfl
@[simp] theorem settle_gns (q : List Instr) : (settle q s).gns = s.gns := settle_keeps (·.gns) (fun _ _ => rfl) s q
@[simp] theorem wr_fus (a v : Nat) : (s.wr a v).fus = s.fus := rfl
@[simp] theorem put_fus (f : Fld) (v : Nat) : (s.put f v).fus = s.fus := rfl
@[simp] theorem flag_fus (f : Fld) (b : Bool) : (s.flag f b).fus = s.fus := rfl
@[simp] theorem clearCount_fus (a : Nat) : (s.clearCount a).fus = s.fus := put_fus s _ _
@[simp] theorem irq_fus (i : Nat) : (s.irq i).fus = s.fus := put_fus s _ _
@[simp] theorem count_fus (a : Nat) : (s.count a).fus = s.fus := by unfold count; split <;> exact put_fus s _ _
@[simp] theorem draw_fus : s.draw.2.fus = s.fus := rfl
@[simp] theorem elapse_fus (dt : Nat) : (s.elapse dt).fus = s.fus := by unfold elapse; split <;> rfl
@[simp] theorem settle_fus (q : List Instr) : (settle q s).fus = s.fus := settle_keeps (·.fus) (fun _ _ => rfl) s q
@[simp] theorem wr_alc (a v : Nat) : (s.wr a v).alc = s.alc := rfl
@[simp] theorem put_alc (f : Fld) (v : Nat) : (s.put f v).alc = s.alc := rfl
@[simp] theorem flag_alc (f : Fld) (b : Bool) : (s.flag f b).alc = s.alc := rfl
@[simp] theorem clearCount_alc (a : Nat) : (s.clearCount a).alc = s.alc := put_alc s _ _
@[simp] theorem irq_alc (i : Nat) : (s.irq i).alc = s.alc := put_alc s _ _
@[simp] theorem count_alc (a : Nat) : (s.count a).alc = s.alc := by unfold count; split <;> exact put_alc s _ _
@[simp] theorem draw_alc : s.draw.2.alc = s.alc := rfl
@[simp] theorem elapse_alc (dt : Nat) : (s.elapse dt).alc = s.alc := by unfold elapse; split <;> rfl
@[simp] theorem settle_alc (q : List Instr) : (settle q s).alc = s.alc := settle_keeps (·.alc) (fun _ _ => rfl) s q
@[simp] theorem wr_hzn (a v : Nat) : (s.wr a v).hzn = s.hzn := rfl
@[simp] theorem put_hzn (f : Fld) (v : Nat) : (s.put f v).hzn = s.hzn := rfl
@[simp] theorem flag_hzn (f : Fld) (b : Bool) : (s.flag f b).hzn = s.hzn := rfl
@[simp] theorem clearCount_hzn (a : Nat) : (s.clearCount a).hzn = s.hzn := put_hzn s _ _
@[simp] theorem irq_hzn (i : Nat) : (s.irq i).hzn = s.hzn := put_hzn s _ _
@[simp] theorem count_hzn (a : Nat) : (s.count a).hzn = s.hzn := by unfold count; split <;> exact put_hzn s _ _
@[simp] theorem draw_hzn : s.draw.2.hzn = s.hzn := rfl
@[simp] theorem elapse_hzn (dt : Nat) : (s.elapse dt).hzn = s.hzn := by unfold elapse; split <;> rfl
@[simp] theorem settle_hzn (q : List Instr) : (settle q s).hzn = s.hzn := settle_keeps (·.hzn) (fun _ _ => rfl) s q
@[simp] theorem wr_eng (a v : Nat) : (s.wr a v).eng = s.eng := rfl
@[simp] theorem put_eng (f : Fld) (v : Nat) : (s.put f v).eng = s.eng := rfl
@[simp] theorem flag_eng (f : Fld) (b : Bool) : (s.flag f b).eng = s.eng := rfl
@[simp] theorem clearCount_eng (a : Nat) : (s.clearCount a).eng = s.eng := put_eng s _ _
@[simp] theorem irq_eng (i : Nat) : (s.irq i).eng = s.eng := put_eng s _ _
@[simp] theorem count_eng (a : Nat) : (s.count a).eng = s.eng := by unfold count; split <;> exact put_eng s _ _
@[simp] theorem draw_eng : s.draw.2.eng = s.eng := rfl
@[simp] theorem elapse_eng (dt : Nat) : (s.elapse dt).eng = s.eng := by unfold elapse; split <;> rfl
@[simp] theorem settle_eng (q : List Instr) : (settle q s).eng = s.eng := settle_keeps (·.eng) (fun _ _ => rfl) s q
@[simp] theorem draw_free : s.draw.2.free = s.free + 1 := rfl
@[simp] theorem draw_regs : s.draw.2.regs = s.regs := rfl
@[simp] theorem elapse_now (dt : Nat) : (s.elapse dt).now = s.now + dt := by unfold elapse; split <;> rfl
@[simp] theorem elapse_regs (dt : Nat) : (s.elapse dt).regs = s.regs := by unfold elapse; split <;> rfl
@[simp] theorem settle_regs (q : List Instr) : (settle q s).regs = s.regs := settle_keeps (·.regs) (fun _ _ => rfl) s q
@[simp] theorem settle_pending (q : List Instr) : (settle q s).pending = q := rfl
@[simp] theorem settle_pins (q : List Instr) : (settle q s).pins = settlePins s := rfl

end Sys2Proof.Machine.State
end

