-- ==== Sys2Proof/Laws/Regs.lean ====
section
/-! SUPPORT. Laws/Regs.lean: sorted maps, the register file and its fields: a read after a write to the same place gives the
value written, a write leaves every other place alone, and the canonical form is kept (R18, R22). -/

namespace Sys2Proof.Machine

/-! ### Sorted maps -/

section Maps
variable {α : Type}

theorem aGet_aSet_same (l : List (Nat × α)) (a : Nat) (x : α) : aGet (aSet l a x) a = some x := by
  induction l with
  | nil => simp [aSet, aGet]
  | cons p l ih =>
    obtain ⟨k, v⟩ := p
    simp only [aSet]
    split
    · simp [aGet]
    · split
      · simp [aGet]
      · rename_i h1 h2
        simp [aGet, Ne.symm h2, ih]

theorem aGet_aSet_ne (l : List (Nat × α)) {a b : Nat} (x : α) (h : b ≠ a) : aGet (aSet l a x) b = aGet l b := by
  induction l with
  | nil => simp [aSet, aGet, Ne.symm h]
  | cons p l ih =>
    obtain ⟨k, v⟩ := p
    simp only [aSet]
    split
    · simp [aGet, Ne.symm h]
    · split
      · rename_i h2; subst h2; simp [aGet, Ne.symm h]
      · simp only [aGet, ih]

theorem aGet_aSet (l : List (Nat × α)) (a b : Nat) (x : α) :
    aGet (aSet l a x) b = if b = a then some x else aGet l b := by
  split
  · rename_i h; subst h; exact aGet_aSet_same l b x
  · rename_i h; exact aGet_aSet_ne l x h

theorem aGet_aDel (l : List (Nat × α)) (a b : Nat) : aGet (aDel l a) b = if b = a then none else aGet l b := by
  induction l with
  | nil => simp [aDel, aGet]
  | cons p l ih =>
    obtain ⟨k, v⟩ := p
    simp only [aDel]
    by_cases hk : k = a
    · subst hk
      by_cases hb : b = k
      · subst hb; simp [ih]
      · simp [ih, hb, aGet, Ne.symm hb]
    · by_cases hb : b = a
      · subst hb; simp [hk, aGet, ih]
      · simp [hk, aGet, ih, hb]

theorem aGetD_aSet_same (l : List (Nat × α)) (a : Nat) (x d : α) : aGetD (aSet l a x) a d = x := by
  simp [aGetD, aGet_aSet_same]

theorem aGetD_aSet_ne (l : List (Nat × α)) {a b : Nat} (x d : α) (h : b ≠ a) :
    aGetD (aSet l a x) b d = aGetD l b d := by
  simp [aGetD, aGet_aSet_ne l x h]

end Maps

/-! ### Registers -/

theorem regGet_regSet (m : RegMap) (a b : Nat) (v : Word) :
    regGet (regSet m a v) b = if b = a then v else regGet m b := by
  unfold regGet regSet
  by_cases h : b = a
  · subst h; split
    · rename_i hv; simp [aGet_aDel, hv]
    · simp [aGet_aSet_same]
  · split
    · simp [aGet_aDel, h]
    · simp [aGet_aSet, h]

namespace State
variable (s : State)

theorem rd_lt (a : Nat) : s.rd a < 2 ^ 32 := (regGet s.regs a).isLt

theorem rd_wr (a b v : Nat) : (s.wr a v).rd b = if b = a then v % 2 ^ 32 else s.rd b := by
  unfold rd wr
  simp only [regGet_regSet]
  split <;> simp

theorem rd_wr_ne {a b : Nat} (v : Nat) (h : b ≠ a) : (s.wr a v).rd b = s.rd b := by simp [rd_wr, h]

theorem rd_wr_same {a v : Nat} (h : v < 2 ^ 32) : (s.wr a v).rd a = v := by
  rw [rd_wr, if_pos rfl, Nat.mod_eq_of_lt h]

theorem putBits_lt {w hi lo v : Nat} (hw : w < 2 ^ 32) (h : lo ≤ hi) (h32 : hi < 32) : putBits w hi lo v < 2 ^ 32 := by
  unfold putBits
  have e1 : 2 ^ (hi + 1) = 2 ^ (hi + 1 - lo) * 2 ^ lo := by rw [← Nat.pow_add]; congr 1; omega
  have e2 : 2 ^ 32 = 2 ^ (32 - (hi + 1)) * 2 ^ (hi + 1) := by rw [← Nat.pow_add]; congr 1; omega
  have hv : v % 2 ^ (hi + 1 - lo) < 2 ^ (hi + 1 - lo) := Nat.mod_lt _ (Nat.two_pow_pos _)
  have hl : w % 2 ^ lo < 2 ^ lo := Nat.mod_lt _ (Nat.two_pow_pos _)
  have hq : w / 2 ^ (hi + 1) < 2 ^ (32 - (hi + 1)) := by
    apply Nat.div_lt_of_lt_mul
    rw [Nat.mul_comm, ← e2]; exact hw
  have h1 : v % 2 ^ (hi + 1 - lo) * 2 ^ lo + w % 2 ^ lo < 2 ^ (hi + 1) := by
    rw [e1]
    calc _ < v % 2 ^ (hi + 1 - lo) * 2 ^ lo + 2 ^ lo := by omega
      _ = (v % 2 ^ (hi + 1 - lo) + 1) * 2 ^ lo := by rw [Nat.add_mul, Nat.one_mul]
      _ ≤ _ := Nat.mul_le_mul_right _ hv
  rw [e2]
  calc _ < w / 2 ^ (hi + 1) * 2 ^ (hi + 1) + 2 ^ (hi + 1) := by omega
    _ = (w / 2 ^ (hi + 1) + 1) * 2 ^ (hi + 1) := by rw [Nat.add_mul, Nat.one_mul]
    _ ≤ _ := Nat.mul_le_mul_right _ hq

/-- The bits a field write replaces. -/
theorem putBits_same {w hi lo v : Nat} (h : lo ≤ hi) :
    putBits w hi lo v / 2 ^ lo % 2 ^ (hi + 1 - lo) = v % 2 ^ (hi + 1 - lo) := by
  unfold putBits
  have e1 : 2 ^ (hi + 1) = 2 ^ (hi + 1 - lo) * 2 ^ lo := by rw [← Nat.pow_add]; congr 1; omega
  have hp : 0 < 2 ^ lo := Nat.two_pow_pos _
  rw [e1, ← Nat.mul_assoc, ← Nat.add_mul, Nat.mul_comm _ (2 ^ lo), Nat.mul_add_div hp,
    Nat.div_eq_of_lt (Nat.mod_lt _ hp), Nat.add_zero, Nat.mul_comm, Nat.mul_add_mod, Nat.mod_mod]

theorem testBit_putBits {w hi lo v : Nat} (h : lo ≤ hi) (j : Nat) :
    (putBits w hi lo v).testBit j =
      if lo ≤ j ∧ j ≤ hi then v.testBit (j - lo) else w.testBit j := by
  unfold putBits
  have hb : v % 2 ^ (hi + 1 - lo) * 2 ^ lo + w % 2 ^ lo < 2 ^ (hi + 1) := by
    have e1 : 2 ^ (hi + 1) = 2 ^ (hi + 1 - lo) * 2 ^ lo := by rw [← Nat.pow_add]; congr 1; omega
    have hv : v % 2 ^ (hi + 1 - lo) < 2 ^ (hi + 1 - lo) := Nat.mod_lt _ (Nat.two_pow_pos _)
    have hl : w % 2 ^ lo < 2 ^ lo := Nat.mod_lt _ (Nat.two_pow_pos _)
    rw [e1]
    calc _ < v % 2 ^ (hi + 1 - lo) * 2 ^ lo + 2 ^ lo := by omega
      _ = (v % 2 ^ (hi + 1 - lo) + 1) * 2 ^ lo := by rw [Nat.add_mul, Nat.one_mul]
      _ ≤ _ := Nat.mul_le_mul_right _ hv
  rw [Nat.add_assoc, Nat.mul_comm (w / 2 ^ (hi + 1)), Nat.testBit_two_pow_mul_add _ hb]
  rw [Nat.mul_comm _ (2 ^ lo), Nat.testBit_two_pow_mul_add _ (Nat.mod_lt _ (Nat.two_pow_pos _))]
  simp only [Nat.testBit_mod_two_pow, Nat.testBit_div_two_pow]
  by_cases h1 : j < lo
  · have : j < hi + 1 := by omega
    simp [h1, this] <;> omega
  · by_cases h2 : j < hi + 1
    · have a1 : lo ≤ j := by omega
      have a2 : j ≤ hi := by omega
      have a3 : j - lo < hi + 1 - lo := by omega
      simp [h1, h2, a1, a2, a3]
    · have a2 : ¬ j ≤ hi := by omega
      have : j - (hi + 1) + (hi + 1) = j := by omega
      simp [h2, a2, this]

theorem rd_put (f : Fld) (v b : Nat) (h : f.lo ≤ f.hi) (h32 : f.hi < 32) :
    (s.put f v).rd b = if b = f.addr then putBits (s.rd f.addr) f.hi f.lo v else s.rd b := by
  unfold put
  rw [rd_wr, Nat.mod_eq_of_lt (putBits_lt (s.rd_lt _) h h32)]

theorem rd_put_ne (f : Fld) (v : Nat) {b : Nat} (h : b ≠ f.addr) : (s.put f v).rd b = s.rd b := rd_wr_ne s _ h

theorem get_put_same (f : Fld) (v : Nat) (h : f.lo ≤ f.hi) (h32 : f.hi < 32) :
    (s.put f v).get f = v % 2 ^ (f.hi + 1 - f.lo) := by
  unfold get
  rw [rd_put s f v _ h h32, if_pos rfl, putBits_same h]

theorem get_put_ne (f g : Fld) (v : Nat) (h : g.addr ≠ f.addr) : (s.put f v).get g = s.get g := by
  unfold get; rw [rd_put_ne s f v h]

theorem get_put_disj (f g : Fld) (v : Nat) (h : f.lo ≤ f.hi) (h32 : f.hi < 32) (hg : g.lo ≤ g.hi)
    (hd : g.hi < f.lo ∨ f.hi < g.lo) : (s.put f v).get g = s.get g := by
  by_cases ha : g.addr = f.addr
  · unfold get
    rw [rd_put s f v _ h h32, if_pos ha, ha]
    apply Nat.eq_of_testBit_eq
    intro j
    simp only [Nat.testBit_mod_two_pow, Nat.testBit_div_two_pow, testBit_putBits h]
    by_cases hj : j < g.hi + 1 - g.lo
    · have : ¬ (f.lo ≤ j + g.lo ∧ j + g.lo ≤ f.hi) := by omega
      simp [this]
    · simp [hj]
  · exact get_put_ne s f g v ha

theorem is_flag_same (f : Fld) (b : Bool) (h : f.lo = f.hi) (h32 : f.hi < 32) : (s.flag f b).is f = b := by
  unfold is flag
  rw [get_put_same s f _ (by omega) h32]
  have : f.hi + 1 - f.lo = 1 := by omega
  rw [this]; cases b <;> rfl

theorem rd_flag_ne (f : Fld) (b : Bool) {a : Nat} (h : a ≠ f.addr) : (s.flag f b).rd a = s.rd a := rd_put_ne s f _ h

theorem rd_count_ne (a : Nat) {b : Nat} (h : b ≠ a) : (s.count a).rd b = s.rd b := by
  unfold count; split <;> exact rd_put_ne s _ _ h

theorem rd_irq_ne (i : Nat) {a : Nat} (h : a ≠ Reg.HIF_IRQ_STATUS) : (s.irq i).rd a = s.rd a := rd_put_ne s _ _ h

@[simp] theorem rd_elapse (dt a : Nat) : (s.elapse dt).rd a = s.rd a := by unfold rd; rw [elapse_regs]
@[simp] theorem get_elapse (dt : Nat) (f : Fld) : (s.elapse dt).get f = s.get f := by unfold get; rw [rd_elapse]
@[simp] theorem is_elapse (dt : Nat) (f : Fld) : (s.elapse dt).is f = s.is f := by unfold is; rw [get_elapse]
@[simp] theorem alive_elapse (dt : Nat) : (s.elapse dt).alive = s.alive := by unfold alive; rw [elapse_pwr]
@[simp] theorem isOpen_elapse (dt u : Nat) : (s.elapse dt).isOpen u = s.isOpen u := is_elapse s dt _
@[simp] theorem power_elapse (dt : Nat) : (s.elapse dt).power = s.power := get_elapse s dt _
@[simp] theorem role_elapse (dt : Nat) : (s.elapse dt).role = s.role := get_elapse s dt _
@[simp] theorem rd_settle (q : List Instr) (a : Nat) : State.rd (settle q s) a = s.rd a := rfl
@[simp] theorem get_settle (q : List Instr) (f : Fld) : State.get (settle q s) f = s.get f := rfl
@[simp] theorem is_settle (q : List Instr) (f : Fld) : State.is (settle q s) f = s.is f := rfl

end State

/-! ### The canonical form -/

theorem keysRise_cons {α : Type} {a : Nat} {x : α} {l : List (Nat × α)} :
    keysRise ((a, x) :: l) = true ↔ (∀ p, l.head? = some p → a < p.1) ∧ keysRise l = true := by
  cases l with
  | nil => simp [keysRise]
  | cons p l => simp [keysRise]

theorem head_aSet {α : Type} (l : List (Nat × α)) (a : Nat) (x : α) (p : Nat × α)
    (h : (aSet l a x).head? = some p) : p.1 = a ∨ l.head? = some p := by
  cases l with
  | nil => simp [aSet] at h; left; rw [← h]
  | cons q l =>
    obtain ⟨k, v⟩ := q
    simp only [aSet] at h
    split at h
    · simp at h; left; rw [← h]
    · split at h
      · simp at h; left; rw [← h]
      · right; simpa using h

theorem keysRise_aSet {α : Type} (l : List (Nat × α)) (a : Nat) (x : α) (h : keysRise l = true) :
    keysRise (aSet l a x) = true := by
  induction l with
  | nil => rfl
  | cons q l ih =>
    obtain ⟨k, v⟩ := q
    have h' := keysRise_cons.mp h
    simp only [aSet]
    split
    · rename_i hk; exact keysRise_cons.mpr ⟨by simp; exact hk, h⟩
    · split
      · rename_i h2; subst h2; exact keysRise_cons.mpr ⟨h'.1, h'.2⟩
      · refine keysRise_cons.mpr ⟨fun p hp => ?_, ih h'.2⟩
        rcases head_aSet l a x p hp with e | e
        · rw [e]; omega
        · exact h'.1 p e

theorem keysRise_lt {α : Type} (l : List (Nat × α)) (a : Nat) (x : α) (h : keysRise ((a, x) :: l) = true) :
    ∀ p ∈ l, a < p.1 := by
  induction l generalizing a x with
  | nil => simp
  | cons q l ih =>
    have h' := keysRise_cons.mp h
    intro p hp
    have hq : a < q.1 := h'.1 q rfl
    rcases List.mem_cons.mp hp with e | e
    · rw [e]; exact hq
    · exact Nat.lt_trans hq (ih q.1 q.2 h'.2 p e)

theorem mem_aDel {α : Type} (l : List (Nat × α)) (a : Nat) (p : Nat × α) (h : p ∈ aDel l a) : p ∈ l := by
  induction l with
  | nil => simp [aDel] at h
  | cons q l ih =>
    obtain ⟨k, v⟩ := q
    simp only [aDel] at h
    split at h
    · exact List.mem_cons_of_mem _ (ih h)
    · rcases List.mem_cons.mp h with e | e
      · rw [e]; exact List.mem_cons_self ..
      · exact List.mem_cons_of_mem _ (ih e)

theorem keysRise_aDel {α : Type} (l : List (Nat × α)) (a : Nat) (h : keysRise l = true) : keysRise (aDel l a) = true := by
  induction l with
  | nil => rfl
  | cons q l ih =>
    obtain ⟨k, v⟩ := q
    have h' := keysRise_cons.mp h
    simp only [aDel]
    split
    · exact ih h'.2
    · refine keysRise_cons.mpr ⟨fun p hp => ?_, ih h'.2⟩
      exact keysRise_lt l k v h p (mem_aDel l a p (List.mem_of_mem_head? hp))

theorem mem_aSet {α : Type} (l : List (Nat × α)) (a : Nat) (x : α) (p : Nat × α) (h : p ∈ aSet l a x) :
    p = (a, x) ∨ p ∈ l := by
  induction l with
  | nil => simp [aSet] at h; exact .inl h
  | cons q l ih =>
    obtain ⟨k, v⟩ := q
    simp only [aSet] at h
    split at h
    · exact List.mem_cons.mp h
    · split at h
      · rcases List.mem_cons.mp h with e | e
        · exact .inl e
        · exact .inr (List.mem_cons_of_mem _ e)
      · rcases List.mem_cons.mp h with e | e
        · exact .inr (by rw [e]; exact List.mem_cons_self ..)
        · rcases ih e with f | f
          · exact .inl f
          · exact .inr (List.mem_cons_of_mem _ f)

/-- Writing a register keeps the canonical form. -/
theorem RegMap.wf_regSet (m : RegMap) (a : Nat) (v : Word) (h : RegMap.wf m = true) : RegMap.wf (regSet m a v) = true := by
  simp only [RegMap.wf, Bool.and_eq_true, List.all_eq_true, bne_iff_ne, ne_eq] at *
  unfold regSet
  split
  · exact ⟨keysRise_aDel m a h.1, fun p hp => h.2 p (mem_aDel m a p hp)⟩
  · rename_i hv
    refine ⟨keysRise_aSet m a v h.1, fun p hp => ?_⟩
    rcases mem_aSet m a v p hp with e | e
    · rw [e]; exact hv
    · exact h.2 p e

namespace State

theorem wf_wr (s : State) (a v : Nat) (h : s.regs.wf = true) : (s.wr a v).regs.wf = true := RegMap.wf_regSet _ _ _ h
theorem wf_put (s : State) (f : Fld) (v : Nat) (h : s.regs.wf = true) : (s.put f v).regs.wf = true := RegMap.wf_regSet _ _ _ h
theorem wf_flag (s : State) (f : Fld) (b : Bool) (h : s.regs.wf = true) : (s.flag f b).regs.wf = true := RegMap.wf_regSet _ _ _ h
theorem wf_count (s : State) (a : Nat) (h : s.regs.wf = true) : (s.count a).regs.wf = true := by
  unfold count; split <;> exact RegMap.wf_regSet _ _ _ h

end State

end Sys2Proof.Machine
end

