-- ==== Sys2Proof/Laws/Frames.lean ====
section
/-! SUPPORT. Laws/Frames.lean: what the shared operations can do, said once: which bits of which registers they may change,
and that they change nothing else. -/

namespace Sys2Proof.Safety

open Sys2Proof.Machine

/-! ### Bits outside fields -/

theorem BitsBut.refl (fs : List Fld) (s : State) : BitsBut fs s s := fun _ _ _ => rfl

theorem BitsBut.trans {fs : List Fld} {s t u : State} (h : BitsBut fs s t) (k : BitsBut fs t u) : BitsBut fs s u :=
  fun a j hf => (k a j hf).trans (h a j hf)

theorem BitsBut.mono {fs gs : List Fld} {s t : State} (h : BitsBut fs s t) (hs : ∀ f ∈ fs, f ∈ gs) : BitsBut gs s t :=
  fun a j hf => h a j (fun f hm => hf f (hs f hm))

theorem BitsBut.rd {fs : List Fld} {s t : State} (h : BitsBut fs s t) {a : Nat} (ha : ∀ f ∈ fs, f.addr ≠ a) :
    t.rd a = s.rd a :=
  Nat.eq_of_testBit_eq (fun j => h a j (fun f hm hc => ha f hm hc.1))

theorem BitsBut.get {fs : List Fld} {s t : State} (h : BitsBut fs s t) {g : Fld} (_hg : g.lo ≤ g.hi)
    (hd : ∀ f ∈ fs, f.addr ≠ g.addr ∨ f.hi < g.lo ∨ g.hi < f.lo) : t.get g = s.get g := by
  unfold State.get
  apply Nat.eq_of_testBit_eq
  intro j
  simp only [Nat.testBit_mod_two_pow, Nat.testBit_div_two_pow]
  by_cases hj : j < g.hi + 1 - g.lo
  · rw [h g.addr (j + g.lo) (fun f hm hc => by rcases hd f hm with e | e | e <;> omega)]
  · simp [hj]

theorem BitsBut.of_regs {fs : List Fld} {s t u : State} (h : BitsBut fs s t) (e : u.regs = t.regs) : BitsBut fs s u := by
  intro a j hf
  have : u.rd a = t.rd a := by unfold State.rd; rw [e]
  rw [this]; exact h a j hf

theorem BitsBut.of_regs_left {fs : List Fld} {s t u : State} (h : BitsBut fs s t) (e : u.regs = s.regs) : BitsBut fs u t := by
  intro a j hf
  have : u.rd a = s.rd a := by unfold State.rd; rw [e]
  rw [this]; exact h a j hf

theorem bitsBut_put {fs : List Fld} (s : State) (f : Fld) (v : Nat) (hf : f ∈ fs) (h : f.lo ≤ f.hi) (h32 : f.hi < 32) :
    BitsBut fs s (s.put f v) := by
  intro a j hn
  rw [State.rd_put s f v a h h32]
  split
  · rename_i e; subst e
    rw [State.testBit_putBits h, if_neg]
    intro hc; exact hn f hf ⟨rfl, hc.1, hc.2⟩
  · rfl

theorem bitsBut_flag {fs : List Fld} (s : State) (f : Fld) (b : Bool) (hf : f ∈ fs) (h : f.lo ≤ f.hi) (h32 : f.hi < 32) :
    BitsBut fs s (s.flag f b) := bitsBut_put s f _ hf h h32

theorem bitsBut_wr {fs : List Fld} (s : State) (a v : Nat) (hf : whole a ∈ fs) : BitsBut fs s (s.wr a v) := by
  intro b j hn
  rw [State.rd_wr]
  split
  · rename_i e; subst e
    have hj : ¬ j ≤ 31 := fun hj => hn _ hf ⟨rfl, Nat.zero_le _, hj⟩
    have h1 : v % 2 ^ 32 < 2 ^ j :=
      Nat.lt_of_lt_of_le (Nat.mod_lt _ (by decide)) (Nat.pow_le_pow_right (by decide) (by omega))
    have h2 : s.rd b < 2 ^ j := Nat.lt_of_lt_of_le (s.rd_lt b) (Nat.pow_le_pow_right (by decide) (by omega))
    rw [Nat.testBit_lt_two_pow h1, Nat.testBit_lt_two_pow h2]
  · rfl

theorem bitsBut_count {fs : List Fld} (s : State) (a : Nat) (hf : cntFld a ∈ fs) : BitsBut fs s (s.count a) := by
  intro b j hn
  have hc : ¬(a = b ∧ 0 ≤ j ∧ j ≤ 16) := hn _ hf
  unfold State.count
  split
  · exact bitsBut_put (fs := [⟨a, 16, 16⟩]) s _ _ (by simp) (by simp) (by simp) b j (by simp; omega)
  · exact bitsBut_put (fs := [⟨a, 15, 0⟩]) s _ _ (by simp) (by simp) (by simp) b j (by simp; omega)

theorem bitsBut_clearCount {fs : List Fld} (s : State) (a : Nat) (hf : cntFld a ∈ fs) : BitsBut fs s (s.clearCount a) :=
  bitsBut_put s ⟨a, 16, 0⟩ 0 hf (by simp) (by simp)

theorem bitsBut_irq {fs : List Fld} (s : State) (i : Nat) (hf : irqFld i ∈ fs) (h : i < 32) : BitsBut fs s (s.irq i) :=
  bitsBut_put s ⟨_, i, i⟩ 1 hf (Nat.le_refl _) h

theorem bitsBut_when {fs : List Fld} (s : State) (c : Bool) (f : State → State) (h : c = true → BitsBut fs s (f s)) :
    BitsBut fs s (s.when c f) := by
  unfold State.when; split
  · rename_i hc; exact h hc
  · exact BitsBut.refl _ _

theorem bitsBut_each {α : Type} {fs : List Fld} (l : List α) (f : State → α → State)
    (h : ∀ x ∈ l, ∀ s, BitsBut fs s (f s x)) : ∀ s : State, BitsBut fs s (s.each l f) := by
  induction l with
  | nil => exact fun s => BitsBut.refl _ _
  | cons x l ih =>
    intro s
    exact (h x (by simp) s).trans (ih (fun y hy => h y (List.mem_cons_of_mem _ hy)) (f s x))

/-! ### Parts -/

theorem Part.same_refl (s : State) (p : Part) : p.same s s := by
  cases p <;> first | rfl | exact ⟨rfl, rfl, rfl, rfl, id, id, id⟩

theorem Part.same_trans {s t u : State} {p : Part} (h : p.same s t) (k : p.same t u) : p.same s u := by
  cases p <;> first
    | exact ⟨k.1.trans h.1, k.2.1.trans h.2.1, k.2.2.1.trans h.2.2.1, k.2.2.2.1.trans h.2.2.2.1,
        fun e => h.2.2.2.2.1 (k.2.2.2.2.1 e), fun e => h.2.2.2.2.2.1 (k.2.2.2.2.2.1 e),
        fun e => h.2.2.2.2.2.2 (k.2.2.2.2.2.2 e)⟩
    | exact Eq.trans k h

/-- `t` is `s` but for its live registers. -/
def SameBut (s t : State) : Prop := t = { s with regs := t.regs }

theorem SameBut.refl (s : State) : SameBut s s := rfl

theorem SameBut.part {s t : State} (h : SameBut s t) (p : Part) : p.same s t := by
  rw [h]; cases p <;> first | rfl | exact ⟨rfl, rfl, rfl, rfl, id, id, id⟩

theorem SameBut.trans {s t u : State} (h : SameBut s t) (k : SameBut t u) : SameBut s u := by
  unfold SameBut at *; rw [k, h]

theorem sameBut_wr (s : State) (a v : Nat) : SameBut s (s.wr a v) := rfl
theorem sameBut_put (s : State) (f : Fld) (v : Nat) : SameBut s (s.put f v) := rfl
theorem sameBut_flag (s : State) (f : Fld) (b : Bool) : SameBut s (s.flag f b) := rfl
theorem sameBut_clearCount (s : State) (a : Nat) : SameBut s (s.clearCount a) := rfl
theorem sameBut_irq (s : State) (i : Nat) : SameBut s (s.irq i) := rfl
theorem sameBut_count (s : State) (a : Nat) : SameBut s (s.count a) := by unfold State.count; split <;> rfl
theorem sameBut_when (s : State) (c : Bool) (f : State → State) (h : c = true → SameBut s (f s)) : SameBut s (s.when c f) := by
  unfold State.when; split
  · rename_i hc; exact h hc
  · rfl

theorem sameBut_each {α : Type} (l : List α) (f : State → α → State) (h : ∀ x ∈ l, ∀ s, SameBut s (f s x)) :
    ∀ s : State, SameBut s (s.each l f) := by
  induction l with
  | nil => exact fun s => rfl
  | cons x l ih =>
    intro s
    exact (h x (by simp) s).trans (ih (fun y hy => h y (List.mem_cons_of_mem _ hy)) (f s x))

/-! ### What differs -/

section Differs
variable {ps qs : List Part} {fs gs : List Fld} {s t u : State}

theorem Differs.refl (s : State) : Differs ps fs s s := ⟨fun p _ => Part.same_refl s p, BitsBut.refl _ _⟩

theorem Differs.trans (h : Differs ps fs s t) (k : Differs ps fs t u) : Differs ps fs s u :=
  ⟨fun p hp => Part.same_trans (h.1 p hp) (k.1 p hp), h.2.trans k.2⟩

theorem Differs.mono (h : Differs ps fs s t) (hp : ∀ p ∈ ps, p ∈ qs) (hf : ∀ f ∈ fs, f ∈ gs) : Differs qs gs s t :=
  ⟨fun p hn => h.1 p (fun hm => hn (hp p hm)), h.2.mono hf⟩

theorem SameBut.differs (h : SameBut s t) (k : BitsBut fs s t) : Differs ps fs s t := ⟨fun p _ => h.part p, k⟩

/-- Writing a field of a register that may change as a whole. -/
theorem bitsBut_put_whole (f : Fld) (v : Nat) (hf : whole f.addr ∈ fs) (h : f.lo ≤ f.hi) (h32 : f.hi < 32) :
    BitsBut fs s (s.put f v) := fun b j hn =>
  bitsBut_put (fs := [f]) s f v (by simp) h h32 b j
    (fun g hg hc => hn _ hf ⟨(by simp at hg; rw [hg] at hc; exact hc.1), Nat.zero_le _,
      (by simp at hg; rw [hg] at hc; exact Nat.le_trans hc.2.2 (Nat.le_of_lt_succ h32))⟩)

theorem Differs.put {f : Fld} {v : Nat} (k : Differs ps fs s t) (hf : f ∈ fs) (h : f.lo ≤ f.hi) (h32 : f.hi < 32) :
    Differs ps fs s (t.put f v) := k.trans ((sameBut_put t f v).differs (bitsBut_put t f v hf h h32))

theorem Differs.putW {f : Fld} {v : Nat} (k : Differs ps fs s t) (hf : whole f.addr ∈ fs) (h : f.lo ≤ f.hi) (h32 : f.hi < 32) :
    Differs ps fs s (t.put f v) := k.trans ((sameBut_put t f v).differs (bitsBut_put_whole f v hf h h32))

theorem Differs.flag {f : Fld} {b : Bool} (k : Differs ps fs s t) (hf : f ∈ fs) (h : f.lo ≤ f.hi) (h32 : f.hi < 32) :
    Differs ps fs s (t.flag f b) := k.put hf h h32

theorem Differs.flagW {f : Fld} {b : Bool} (k : Differs ps fs s t) (hf : whole f.addr ∈ fs) (h : f.lo ≤ f.hi) (h32 : f.hi < 32) :
    Differs ps fs s (t.flag f b) := k.putW hf h h32

theorem Differs.wr {a v : Nat} (k : Differs ps fs s t) (hf : whole a ∈ fs) : Differs ps fs s (t.wr a v) :=
  k.trans ((sameBut_wr t a v).differs (bitsBut_wr t a v hf))

theorem Differs.count {a : Nat} (k : Differs ps fs s t) (hf : cntFld a ∈ fs) : Differs ps fs s (t.count a) :=
  k.trans ((sameBut_count t a).differs (bitsBut_count t a hf))

theorem Differs.clearCount {a : Nat} (k : Differs ps fs s t) (hf : cntFld a ∈ fs) : Differs ps fs s (t.clearCount a) :=
  k.trans ((sameBut_clearCount t a).differs (bitsBut_clearCount t a hf))

theorem Differs.irq {i : Nat} (k : Differs ps fs s t) (hf : irqFld i ∈ fs) (h : i < 32) : Differs ps fs s (t.irq i) :=
  k.trans ((sameBut_irq t i).differs (bitsBut_irq t i hf h))

theorem Differs.when {c : Bool} {f : State → State} (k : Differs ps fs s t) (h : ∀ t, Differs ps fs s t → Differs ps fs s (f t)) :
    Differs ps fs s (t.when c f) := by
  unfold State.when; split
  · exact h t k
  · exact k

theorem Differs.each {α : Type} {l : List α} {f : State → α → State} (k : Differs ps fs s t)
    (h : ∀ x ∈ l, ∀ u, Differs ps fs s u → Differs ps fs s (f u x)) : Differs ps fs s (t.each l f) := by
  induction l generalizing t with
  | nil => exact k
  | cons x l ih => exact ih (h x (by simp) t k) (fun y hy => h y (List.mem_cons_of_mem _ hy))

theorem Differs.ite {c : Prop} [Decidable c] (h : c → Differs ps fs s t) (k : ¬c → Differs ps fs s u) :
    Differs ps fs s (if c then t else u) := by
  split
  · rename_i hc; exact h hc
  · rename_i hc; exact k hc

theorem Differs.draw (k : Differs ps fs s t) (hp : .free ∈ ps) : Differs ps fs s t.draw.2 :=
  k.trans ⟨fun p hn => by cases p <;> first | rfl | exact ⟨rfl, rfl, rfl, rfl, id, id, id⟩ | exact absurd hp hn, fun _ _ _ => rfl⟩

theorem Differs.now {x} (k : Differs ps fs s t) (hp : .now ∈ ps) : Differs ps fs s { t with now := x } :=
  k.trans ⟨fun p hn => by cases p <;> first | rfl | exact ⟨rfl, rfl, rfl, rfl, id, id, id⟩ | exact absurd hp hn, fun _ _ _ => rfl⟩
theorem Differs.free {x} (k : Differs ps fs s t) (hp : .free ∈ ps) : Differs ps fs s { t with free := x } :=
  k.trans ⟨fun p hn => by cases p <;> first | rfl | exact ⟨rfl, rfl, rfl, rfl, id, id, id⟩ | exact absurd hp hn, fun _ _ _ => rfl⟩
theorem Differs.staged {x} (k : Differs ps fs s t) (hp : .staged ∈ ps) : Differs ps fs s { t with staged := x } :=
  k.trans ⟨fun p hn => by cases p <;> first | rfl | exact ⟨rfl, rfl, rfl, rfl, id, id, id⟩ | exact absurd hp hn, fun _ _ _ => rfl⟩
theorem Differs.shadows {x} (k : Differs ps fs s t) (hp : .shadows ∈ ps) : Differs ps fs s { t with shadows := x } :=
  k.trans ⟨fun p hn => by cases p <;> first | rfl | exact ⟨rfl, rfl, rfl, rfl, id, id, id⟩ | exact absurd hp hn, fun _ _ _ => rfl⟩
theorem Differs.pace {x} (k : Differs ps fs s t) (hp : .pace ∈ ps) : Differs ps fs s { t with pace := x } :=
  k.trans ⟨fun p hn => by cases p <;> first | rfl | exact ⟨rfl, rfl, rfl, rfl, id, id, id⟩ | exact absurd hp hn, fun _ _ _ => rfl⟩
theorem Differs.legB {x} (k : Differs ps fs s t) (hp : .legB ∈ ps) : Differs ps fs s { t with legB := x } :=
  k.trans ⟨fun p hn => by cases p <;> first | rfl | exact ⟨rfl, rfl, rfl, rfl, id, id, id⟩ | exact absurd hp hn, fun _ _ _ => rfl⟩
theorem Differs.freeze {x} (k : Differs ps fs s t) (hp : .freeze ∈ ps) : Differs ps fs s { t with freeze := x } :=
  k.trans ⟨fun p hn => by cases p <;> first | rfl | exact ⟨rfl, rfl, rfl, rfl, id, id, id⟩ | exact absurd hp hn, fun _ _ _ => rfl⟩
theorem Differs.frozenMs {x} (k : Differs ps fs s t) (hp : .frozenMs ∈ ps) : Differs ps fs s { t with frozenMs := x } :=
  k.trans ⟨fun p hn => by cases p <;> first | rfl | exact ⟨rfl, rfl, rfl, rfl, id, id, id⟩ | exact absurd hp hn, fun _ _ _ => rfl⟩
theorem Differs.clock {x} (k : Differs ps fs s t) (hp : .clock ∈ ps) : Differs ps fs s { t with clock := x } :=
  k.trans ⟨fun p hn => by cases p <;> first | rfl | exact ⟨rfl, rfl, rfl, rfl, id, id, id⟩ | exact absurd hp hn, fun _ _ _ => rfl⟩
theorem Differs.cyc {x} (k : Differs ps fs s t) (hp : .cyc ∈ ps) : Differs ps fs s { t with cyc := x } :=
  k.trans ⟨fun p hn => by cases p <;> first | rfl | exact ⟨rfl, rfl, rfl, rfl, id, id, id⟩ | exact absurd hp hn, fun _ _ _ => rfl⟩
theorem Differs.fab {x} (k : Differs ps fs s t) (hp : .fab ∈ ps) : Differs ps fs s { t with fab := x } :=
  k.trans ⟨fun p hn => by cases p <;> first | rfl | exact ⟨rfl, rfl, rfl, rfl, id, id, id⟩ | exact absurd hp hn, fun _ _ _ => rfl⟩
theorem Differs.units {x} (k : Differs ps fs s t) (hp : .units ∈ ps) : Differs ps fs s { t with units := x } :=
  k.trans ⟨fun p hn => by cases p <;> first | rfl | exact ⟨rfl, rfl, rfl, rfl, id, id, id⟩ | exact absurd hp hn, fun _ _ _ => rfl⟩
theorem Differs.log {x} (k : Differs ps fs s t) (hp : .log ∈ ps) : Differs ps fs s { t with log := x } :=
  k.trans ⟨fun p hn => by cases p <;> first | rfl | exact ⟨rfl, rfl, rfl, rfl, id, id, id⟩ | exact absurd hp hn, fun _ _ _ => rfl⟩
theorem Differs.hif {x} (k : Differs ps fs s t) (hp : .hif ∈ ps) : Differs ps fs s { t with hif := x } :=
  k.trans ⟨fun p hn => by cases p <;> first | rfl | exact ⟨rfl, rfl, rfl, rfl, id, id, id⟩ | exact absurd hp hn, fun _ _ _ => rfl⟩
theorem Differs.pwr {x} (k : Differs ps fs s t) (hp : .pwr ∈ ps) : Differs ps fs s { t with pwr := x } :=
  k.trans ⟨fun p hn => by cases p <;> first | rfl | exact ⟨rfl, rfl, rfl, rfl, id, id, id⟩ | exact absurd hp hn, fun _ _ _ => rfl⟩
theorem Differs.hlt {x} (k : Differs ps fs s t) (hp : .hlt ∈ ps) : Differs ps fs s { t with hlt := x } :=
  k.trans ⟨fun p hn => by cases p <;> first | rfl | exact ⟨rfl, rfl, rfl, rfl, id, id, id⟩ | exact absurd hp hn, fun _ _ _ => rfl⟩
theorem Differs.ldr {x} (k : Differs ps fs s t) (hp : .ldr ∈ ps) : Differs ps fs s { t with ldr := x } :=
  k.trans ⟨fun p hn => by cases p <;> first | rfl | exact ⟨rfl, rfl, rfl, rfl, id, id, id⟩ | exact absurd hp hn, fun _ _ _ => rfl⟩
theorem Differs.tg {x} (k : Differs ps fs s t) (hp : .tg ∈ ps) : Differs ps fs s { t with tg := x } :=
  k.trans ⟨fun p hn => by cases p <;> first | rfl | exact ⟨rfl, rfl, rfl, rfl, id, id, id⟩ | exact absurd hp hn, fun _ _ _ => rfl⟩
theorem Differs.sec {x} (k : Differs ps fs s t) (hp : .sec ∈ ps) : Differs ps fs s { t with sec := x } :=
  k.trans ⟨fun p hn => by cases p <;> first | rfl | exact ⟨rfl, rfl, rfl, rfl, id, id, id⟩ | exact absurd hp hn, fun _ _ _ => rfl⟩
theorem Differs.ring {x} (k : Differs ps fs s t) (hp : .ring ∈ ps) : Differs ps fs s { t with ring := x } :=
  k.trans ⟨fun p hn => by cases p <;> first | rfl | exact ⟨rfl, rfl, rfl, rfl, id, id, id⟩ | exact absurd hp hn, fun _ _ _ => rfl⟩
theorem Differs.tim {x} (k : Differs ps fs s t) (hp : .tim ∈ ps) : Differs ps fs s { t with tim := x } :=
  k.trans ⟨fun p hn => by cases p <;> first | rfl | exact ⟨rfl, rfl, rfl, rfl, id, id, id⟩ | exact absurd hp hn, fun _ _ _ => rfl⟩
theorem Differs.red {x} (k : Differs ps fs s t) (hp : .red ∈ ps) : Differs ps fs s { t with red := x } :=
  k.trans ⟨fun p hn => by cases p <;> first | rfl | exact ⟨rfl, rfl, rfl, rfl, id, id, id⟩ | exact absurd hp hn, fun _ _ _ => rfl⟩
theorem Differs.fbk {x} (k : Differs ps fs s t) (hp : .fbk ∈ ps) : Differs ps fs s { t with fbk := x } :=
  k.trans ⟨fun p hn => by cases p <;> first | rfl | exact ⟨rfl, rfl, rfl, rfl, id, id, id⟩ | exact absurd hp hn, fun _ _ _ => rfl⟩
theorem Differs.lanes {x} (k : Differs ps fs s t) (hp : .lanes ∈ ps) : Differs ps fs s { t with lanes := x } :=
  k.trans ⟨fun p hn => by cases p <;> first | rfl | exact ⟨rfl, rfl, rfl, rfl, id, id, id⟩ | exact absurd hp hn, fun _ _ _ => rfl⟩
theorem Differs.krb {x} (k : Differs ps fs s t) (hp : .krb ∈ ps) : Differs ps fs s { t with krb := x } :=
  k.trans ⟨fun p hn => by cases p <;> first | rfl | exact ⟨rfl, rfl, rfl, rfl, id, id, id⟩ | exact absurd hp hn, fun _ _ _ => rfl⟩
theorem Differs.loop {x} (k : Differs ps fs s t) (hp : .loop ∈ ps) : Differs ps fs s { t with loop := x } :=
  k.trans ⟨fun p hn => by cases p <;> first | rfl | exact ⟨rfl, rfl, rfl, rfl, id, id, id⟩ | exact absurd hp hn, fun _ _ _ => rfl⟩
theorem Differs.sns {x} (k : Differs ps fs s t) (hp : .sns ∈ ps) : Differs ps fs s { t with sns := x } :=
  k.trans ⟨fun p hn => by cases p <;> first | rfl | exact ⟨rfl, rfl, rfl, rfl, id, id, id⟩ | exact absurd hp hn, fun _ _ _ => rfl⟩
theorem Differs.gns {x} (k : Differs ps fs s t) (hp : .gns ∈ ps) : Differs ps fs s { t with gns := x } :=
  k.trans ⟨fun p hn => by cases p <;> first | rfl | exact ⟨rfl, rfl, rfl, rfl, id, id, id⟩ | exact absurd hp hn, fun _ _ _ => rfl⟩
theorem Differs.fus {x} (k : Differs ps fs s t) (hp : .fus ∈ ps) : Differs ps fs s { t with fus := x } :=
  k.trans ⟨fun p hn => by cases p <;> first | rfl | exact ⟨rfl, rfl, rfl, rfl, id, id, id⟩ | exact absurd hp hn, fun _ _ _ => rfl⟩
theorem Differs.alc {x} (k : Differs ps fs s t) (hp : .alc ∈ ps) : Differs ps fs s { t with alc := x } :=
  k.trans ⟨fun p hn => by cases p <;> first | rfl | exact ⟨rfl, rfl, rfl, rfl, id, id, id⟩ | exact absurd hp hn, fun _ _ _ => rfl⟩
theorem Differs.hzn {x} (k : Differs ps fs s t) (hp : .hzn ∈ ps) : Differs ps fs s { t with hzn := x } :=
  k.trans ⟨fun p hn => by cases p <;> first | rfl | exact ⟨rfl, rfl, rfl, rfl, id, id, id⟩ | exact absurd hp hn, fun _ _ _ => rfl⟩
theorem Differs.eng {x} (k : Differs ps fs s t) (hp : .eng ∈ ps) : Differs ps fs s { t with eng := x } :=
  k.trans ⟨fun p hn => by cases p <;> first | rfl | exact ⟨rfl, rfl, rfl, rfl, id, id, id⟩ | exact absurd hp hn, fun _ _ _ => rfl⟩

/-- Settling the wires raises no bypass and no FAULT_N, and drives no pin that a command drives. -/
theorem differs_settle (q : List Instr) (h : Differs ps fs s t) : Differs ps fs s (settle q t) := by
  refine ⟨fun p hn => Part.same_trans (h.1 p hn) ?_, h.2.of_regs rfl⟩
  cases p <;> first
    | rfl
    | (refine ⟨rfl, rfl, rfl, rfl, fun e => ?_, fun e => ?_, fun e => ?_⟩ <;>
        simp [settle, settlePins] at e <;> simp [e])

end Differs

/-- What a command that acts on the running device comes to. -/
theorem changes_act {dt : Nat} {ps : List Part} {fs : List Fld} {f : State → State} {s : State} (ha : s.alive = true)
    (h : Differs ps fs (s.elapse dt) (f (s.elapse dt))) :
    act dt f s = .next (settle s.pending (f (s.elapse dt))) ∧ Changes dt ps fs s (settle s.pending (f (s.elapse dt))) :=
  ⟨by simp [act, ha], differs_settle _ h⟩

theorem changes_actUnit {u dt : Nat} {ps : List Part} {fs : List Fld} {f : State → State} {s : State} (hu : UnitTakes u s)
    (h : Differs ps fs (s.elapse dt) (f (s.elapse dt))) :
    actUnit u dt f s = .next (settle s.pending (f (s.elapse dt))) ∧ Changes dt ps fs s (settle s.pending (f (s.elapse dt))) :=
  ⟨by simp [actUnit, act, hu.1, hu.2], differs_settle _ h⟩

/-! ### Host writes (R19, R62, R416) -/

/-- A host write to an open unit, of a legal value, has its effect. -/
theorem hostCmd_takes {s : State} {r : Row} {a w : Nat} {priv : Bool} {eff : State → State} (hp : r.priv = false)
    (hc : s.hostClosed a = false) (hl : (r.acc == .rws && s.tgLocks a) = false) (hv : r.legalOk w = true) :
    s.hostCmd r a priv w eff = eff s := by
  simp [State.hostCmd, State.hostTxn, State.hostWrite, hp, hc, hl, hv]

/-- The same for a privileged register with H_PRIV high: the run of refused transactions ends (R386). -/
theorem hostCmd_takes_priv {s : State} {r : Row} {a w : Nat} {eff : State → State} (hp : r.priv = true)
    (hc : s.hostClosed a = false) (hl : (r.acc == .rws && s.tgLocks a) = false) (hv : r.legalOk w = true) :
    s.hostCmd r a true w eff = eff s.privUsed := by
  have h1 : s.privUsed.hostClosed a = s.hostClosed a := rfl
  have h2 : s.privUsed.tgLocks a = s.tgLocks a := rfl
  simp [State.hostCmd, State.hostTxn, State.hostWrite, hp, h1, h2, hc, hl, hv]

@[simp] theorem hostClosed_elapse (s : State) (dt a : Nat) : (s.elapse dt).hostClosed a = s.hostClosed a := by
  simp [State.hostClosed]
@[simp] theorem tgLocks_elapse (s : State) (dt a : Nat) : (s.elapse dt).tgLocks a = s.tgLocks a := by
  simp [State.tgLocks]

/-! ### Clearing counters (R24) -/

theorem bitsBut_clearBits (s : State) (w : Nat) (l : List Nat) (fs : List Fld)
    (h : ∀ p ∈ (List.range l.length).zip l, w.testBit p.1 = true → cntFld p.2 ∈ fs) : BitsBut fs s (s.clearBits w l) := by
  refine bitsBut_each _ _ (fun p hp s => bitsBut_when _ _ _ (fun hw => ?_)) s
  exact bitsBut_clearCount _ _ (h p hp hw)

theorem sameBut_clearBits (s : State) (w : Nat) (l : List Nat) : SameBut s (s.clearBits w l) :=
  sameBut_each _ _ (fun _ _ _ => sameBut_when _ _ _ (fun _ => sameBut_clearCount _ _)) s

theorem differs_clearBits {ps : List Part} (s : State) (w : Nat) (l : List Nat) (fs : List Fld)
    (h : ∀ p ∈ (List.range l.length).zip l, w.testBit p.1 = true → cntFld p.2 ∈ fs) : Differs ps fs s (s.clearBits w l) :=
  (sameBut_clearBits s w l).differs (bitsBut_clearBits s w l fs h)

theorem get_clearCount_zero (s : State) (a b : Nat) (h : s.get (cntFld b) = 0) : (s.clearCount a).get (cntFld b) = 0 := by
  by_cases e : b = a
  · subst e; exact State.get_put_same s ⟨b, 16, 0⟩ 0 (by simp) (by simp)
  · unfold State.clearCount; rw [State.get_put_ne _ _ _ _ e]; exact h

theorem get_clearBits_zero (s : State) (w : Nat) (l : List Nat) (p : Nat × Nat)
    (hp : p ∈ (List.range l.length).zip l) (hw : w.testBit p.1 = true) :
    (s.clearBits w l).get (cntFld p.2) = 0 := by
  unfold State.clearBits
  have key : ∀ (m : List (Nat × Nat)) (s : State), (p ∈ m ∨ s.get (cntFld p.2) = 0) →
      (s.each m (fun s x => s.when (w.testBit x.1) (fun s => s.clearCount x.2))).get (cntFld p.2) = 0 := by
    intro m
    induction m with
    | nil => intro s h; rcases h with h | h; · simp at h
             · exact h
    | cons x m ih =>
      intro s h
      apply ih
      rcases h with h | h
      · rcases List.mem_cons.mp h with e | e
        · right; subst e; simp only [State.when, hw, if_true]
          exact State.get_put_same s ⟨p.2, 16, 0⟩ 0 (by simp) (by simp)
        · exact .inl e
      · right; simp only [State.when]; split
        · exact get_clearCount_zero s _ _ h
        · exact h
  exact key _ s (.inl hp)

end Sys2Proof.Safety
end

