-- ==== Sys2Proof/Laws/Shared.lean ====
section
/-! SUPPORT. Laws/Shared.lean: what the operations that many commands share can do: creating a record, following the Kerb's
verdicts, changing the role, refusing a write. -/

namespace Sys2Proof.Safety

open Sys2Proof.Machine

section
variable {ps : List Part} {fs : List Fld} {s t : State}

/-! ### Records (R394 to R402) -/

theorem Differs.logPublish (k : Differs ps fs s t) (hf : ∀ f ∈ logFlds, f ∈ fs) : Differs ps fs s t.logPublish := by
  unfold State.logPublish
  dsimp only
  apply Differs.each
  · repeat' (with_reducible first
      | exact k
      | apply Differs.flag
      | apply Differs.put
      | apply Differs.wr)
    all_goals first | exact hf _ (by decide) | decide
  · intro i hi u hu
    have : ∀ i ∈ List.range 8, whole (Reg.LOG_SEAL_HEAD i) ∈ logFlds := by decide
    exact hu.wr (hf _ (this i hi))

theorem Differs.sealLog (k : Differs ps fs s t) (hp : .log ∈ ps) : Differs ps fs s t.sealLog := by
  unfold State.sealLog
  split
  · exact k
  · exact k.log hp

theorem Differs.storeRecord {ev : Ev} {arg data flags : Nat} {b : Bool} (k : Differs ps fs s t) (hp : .log ∈ ps) :
    Differs ps fs s (t.storeRecord ev arg data flags b) := k.log hp

theorem Differs.newRecord {ev : Ev} {arg data flags : Nat} (k : Differs ps fs s t) (hp : .log ∈ ps)
    (hf : ∀ f ∈ logFlds, f ∈ fs) : Differs ps fs s (t.newRecord ev arg data flags) := by
  unfold State.newRecord
  split
  · exact ((k.storeRecord hp).count (hf _ (by decide))).logPublish hf
  · dsimp only
    have h1 : Differs ps fs s (t.storeRecord ev arg data flags false).sealLog := (k.storeRecord hp).sealLog hp
    split
    · exact (((h1.log hp).storeRecord hp).irq (hf _ (by decide)) (by decide)).logPublish hf
    · exact h1.logPublish hf

/-- Recording an event changes the recorder and its registers, and nothing else. -/
theorem Differs.logEv {ev : Ev} {arg data : Nat} (k : Differs ps fs s t) (hp : .log ∈ ps) (hf : ∀ f ∈ logFlds, f ∈ fs) :
    Differs ps fs s (t.logEv ev arg data) := by
  unfold State.logEv
  split
  · exact k.newRecord hp hf
  · dsimp only
    split
    · split <;> (split <;> first | exact k.newRecord hp hf | exact k.log hp)
    · exact k.newRecord hp hf

/-! ### Refusals (R19, R62, R386, R412, R416) -/

theorem Differs.lastErr {c a : Nat} (k : Differs ps fs s t) (hf : whole Reg.HIF_LAST_ERR ∈ fs) :
    Differs ps fs s (t.lastErr c a) :=
  (k.putW (f := Fl.HIF_LAST_ERR_CAUSE) hf (by decide) (by decide)).putW (f := Fl.HIF_LAST_ERR_ADDR) hf (by decide) (by decide)

theorem Differs.badWrite {a : Nat} (k : Differs ps fs s t) (hf : ∀ f ∈ badFlds, f ∈ fs) : Differs ps fs s (t.badWrite a) :=
  (k.flag (f := Fl.HIF_STATUS_BAD_WRITE) (hf _ (by decide)) (by decide) (by decide)).lastErr (hf _ (by decide))

/-! ### The Kerb's outputs and registers (R273, R277, R278) -/

theorem Differs.soOff {n : Nat} (k : Differs ps fs s t) (hp : .krb ∈ ps) (hf : cntFld Reg.KRB_TEST_DISCARD ∈ fs) :
    Differs ps fs s (t.soOff n) := by
  unfold State.soOff
  exact (k.when (fun _ h => h.count hf)).krb hp

theorem Differs.soFollow {n : Nat} (k : Differs ps fs s t) (hp : .krb ∈ ps) (hf : cntFld Reg.KRB_TEST_DISCARD ∈ fs) :
    Differs ps fs s (t.soFollow n) := by
  unfold State.soFollow
  dsimp only
  split
  · exact k.soOff hp hf
  · exact k.krb hp

theorem Differs.soPublish {n : Nat} (k : Differs ps fs s t) (hf : whole (Reg.KRB_SO_STATUS n) ∈ fs) :
    Differs ps fs s (t.soPublish n) := by
  unfold State.soPublish
  dsimp only
  repeat' (with_reducible first
    | exact k
    | apply Differs.flagW
    | apply Differs.putW)
  all_goals first | exact hf | exact Nat.le_of_ble_eq_true rfl

theorem Differs.kerbLanePublish {n : Nat} (k : Differs ps fs s t) (h1 : whole (Reg.KRB_LANE_STATUS n) ∈ fs)
    (h2 : whole (Reg.KRB_LANE_AZ_P n) ∈ fs) (h3 : whole (Reg.KRB_LANE_AZ_L n) ∈ fs) (h4 : whole (Reg.KRB_LANE_T_P n) ∈ fs)
    (h5 : whole (Reg.KRB_LANE_T_L n) ∈ fs) (h6 : Fl.LANE_STATE_KERB_PERMIT n ∈ fs) :
    Differs ps fs s (t.kerbLanePublish n) := by
  unfold State.kerbLanePublish
  dsimp only
  apply Differs.flag
  · repeat' (with_reducible first
      | exact k
      | apply Differs.flagW
      | apply Differs.putW
      | apply Differs.wr)
    all_goals first | with_reducible assumption | exact h1 | exact Nat.le_of_ble_eq_true rfl
  · exact h6
  · exact Nat.le_of_ble_eq_true rfl
  · exact Nat.le_of_ble_eq_true rfl

theorem mem_lanesOn_lt {s : State} {n : Nat} (h : n ∈ s.lanesOn) : n < 64 := by
  unfold State.lanesOn at h
  exact List.mem_range.mp (List.mem_filter.mp h).1

theorem mem_wholes {m i : Nat} (a : Nat → Nat) (h : i < m) : whole (a i) ∈ wholes m a :=
  List.mem_map.mpr ⟨i, List.mem_range.mpr h, rfl⟩

/-- The Kerb's outputs and registers follow its verdicts, and nothing else changes. -/
theorem Differs.kerbUpdate (k : Differs ps fs s t) (hp : .krb ∈ ps) (hf : ∀ f ∈ kerbFlds, f ∈ fs) :
    Differs ps fs s t.kerbUpdate := by
  have hd : cntFld Reg.KRB_TEST_DISCARD ∈ fs := hf _ (by simp [kerbFlds])
  have hs : whole Reg.KRB_STATUS ∈ fs := hf _ (by simp [kerbFlds])
  unfold State.kerbUpdate
  dsimp only
  repeat' (with_reducible first
    | apply Differs.flagW
    | apply Differs.putW)
  all_goals first | exact hs | exact Nat.le_of_ble_eq_true rfl | skip
  apply Differs.each
  · apply Differs.each
    · exact k.each (fun n _ u hu => hu.soFollow hp hd)
    · intro n hn u hu
      refine hu.soPublish (hf _ ?_)
      have := mem_wholes Reg.KRB_SO_STATUS (List.mem_range.mp hn)
      simp only [kerbFlds, List.mem_append, this, or_true, true_or]
  · intro n hn u hu
    have hl := mem_lanesOn_lt hn
    have a1 := mem_wholes Reg.KRB_LANE_STATUS hl
    have a2 := mem_wholes Reg.KRB_LANE_AZ_P hl
    have a3 := mem_wholes Reg.KRB_LANE_AZ_L hl
    have a4 := mem_wholes Reg.KRB_LANE_T_P hl
    have a5 := mem_wholes Reg.KRB_LANE_T_L hl
    have a6 : Fl.LANE_STATE_KERB_PERMIT n ∈ (List.range 64).map Fl.LANE_STATE_KERB_PERMIT :=
      List.mem_map.mpr ⟨n, List.mem_range.mpr hl, rfl⟩
    apply hu.kerbLanePublish <;> apply hf <;>
      simp only [kerbFlds, List.mem_append, a1, a2, a3, a4, a5, a6, or_true, true_or]

/-! ### The role (R195, R330) -/

/-- The fields that the end of a running test writes (R195). -/
def testFlds : List Fld := [Fl.LOOP_TEST_STATUS_STATE, Fl.LOOP_TEST_STATUS_CAUSE, Fl.LOOP_TEST_CTL_GO]

theorem Differs.testAbort {c : Nat} (k : Differs ps fs s t) (hf : ∀ f ∈ testFlds, f ∈ fs) : Differs ps fs s (t.testAbort c) := by
  unfold State.testAbort
  split
  · exact ((k.put (hf _ (by decide)) (by decide) (by decide)).put (hf _ (by decide)) (by decide) (by decide)).flag
      (hf _ (by decide)) (by decide) (by decide)
  · exact k

end

end Sys2Proof.Safety
end

