-- ==== Sys2Proof/Machine/PinState.lean ====
section
/-! DEFINITION. Machine/PinState.lean: the balls and the state of each pin (R444 to R447). A level that a unit drives stands in
State.pins; this file says what every pin does in every power state. -/

namespace Sys2Proof.Machine

/-- The ball map, rows A to M without I, columns 01 to 12 (R444). -/
def ballMap : List (List String) := [
  ["A0_TXP", "A0_TXN", "A0_RXP", "A0_RXN", "A1_TXP", "A1_TXN", "A1_RXP", "A1_RXN", "SREF_P", "SREF_N", "CW_TXP", "CW_TXN"],
  ["B0_TXP", "B0_TXN", "B0_RXP", "B0_RXN", "B1_TXP", "B1_TXN", "B1_RXP", "B1_RXN", "VSER", "VSER", "CW_RXP", "CW_RXN"],
  ["VSS", "BYPA_HOLD", "BYPB_HOLD", "HB_OUT", "HB_IN", "VSS", "VIO", "H_SCK", "H_CS_N", "H_MOSI", "H_MISO", "VSS"],
  ["H_RDY", "H_IRQ_N", "H_PRIV", "NV_SCK", "NV_CS_N", "NV_IO0", "NV_IO1", "NV_IO2", "NV_IO3", "TCK", "TMS", "TDI"],
  ["TDO", "RST_N", "FAULT_N", "ALARM_N", "VCORE", "VSS", "VCORE", "VIO", "TAMPER_N", "VKEEP", "XK_IN", "XK_OUT"],
  ["ROLE_SEL", "RSVD", "SP0_RX", "SP0_TX", "VCORE", "VSS", "VSS", "SP1_RX", "SP1_TX", "SP2_RX", "SP2_TX", "SP3_RX"],
  ["SP3_TX", "SP4_RX", "SP4_TX", "STRIG0", "STRIG1", "VCORE", "VCORE", "SMP_SCK", "SMP_FS", "SMP_D0", "SMP_D1", "SMP_D2"],
  ["SMP_D3", "PDIV0", "PDIV1", "FB0_A", "FB0_B", "FB0_C", "VIO", "FB1_A", "FB1_B", "FB1_C", "FB2_A", "FB2_B"],
  ["FB2_C", "FB3_A", "FB3_B", "FB3_C", "FB4_A", "FB4_B", "FB4_C", "FB5_A", "FB5_B", "FB5_C", "SEAL_CK", "SEAL_LD"],
  ["SEAL_DI", "SO0_HS", "SO0_LS", "SO0_RBH", "SO0_RBL", "SO1_HS", "SO1_LS", "SO1_RBH", "SO1_RBL", "VIO", "PPS_OUT", "VSS"],
  ["SO2_HS", "SO2_LS", "SO2_RBH", "SO2_RBL", "SO3_HS", "SO3_LS", "SO3_RBH", "SO3_RBL", "VANA", "GFE_SCK", "GFE_SDIO", "GREF"],
  ["GIF0", "GIF1", "GIF2", "GIF3", "VSS", "GCLK", "VANA", "GIF4", "GIF5", "GIF6", "GIF7", "VSS"]]

/-- The signal pins, a numbered group by its number: `ringTx` by ring and port, `gateDrive` and `readback` by switch (2k is the high
side of channel k). -/
inductive Pin where
  | ringTx (ring port : Nat) | cwTx | cmlRx | sref
  | bypHold (ring : Nat) | hbOut | hbIn
  | gif | gclk | gref | gfeSck | gfeSdio | ppsOut
  | spRx (port : Nat) | spTx (port : Nat) | strig (t : Nat) | smpSck | smpFs | smpD
  | fb (ch : Nat) | pdiv (d : Nat) | gateDrive (sw : Nat) | readback (sw : Nat)
  | sealCk | sealLd | sealDi | nvSck | nvCsN | nvIo
  | hSck | hMosi | hCsN | hMiso | hRdy | hIrqN | hPriv
  | rstN | tamperN | alarmN | faultN | roleSel | xk | rsvd | tck | tms | tdi | tdo
  deriving DecidableEq, Repr

/-- What a pin does: an output at a level, high-impedance, idle at its common mode, switching under its unit's own rule, or an
open drain let go; an input used or ignored; the fixed states of R445's other rows. -/
inductive PinState where
  | level (high : Bool) | highZ | idle | active | released
  | used | ignored | terminated | required | oscillating | tapReset | tied
  deriving DecidableEq, Repr

/-- Outputs of the IO bank (R447). -/
def ioOutput : Pin → Bool
  | .bypHold _ | .hbOut | .ppsOut | .spTx _ | .strig _ | .smpSck | .smpFs | .pdiv _ | .gateDrive _ | .sealCk | .sealLd | .nvSck
  | .nvCsN | .nvIo | .hMiso | .hRdy | .hIrqN | .alarmN | .faultN | .tdo => true
  | _ => false

namespace State

/-- In READY, RUN or HARBOUR, out of reset. -/
def pinsUp (s : State) : Bool := s.alive && 2 ≤ s.power && s.power ≤ 4

/-- An input that a unit uses while its ports are open (R445). -/
def usedBy (s : State) (u : Nat) : PinState := if s.pinsUp && s.isOpen u then .used else .ignored

/-- An input used in READY, RUN and HARBOUR (R445). -/
def usedUp (s : State) : PinState := if s.pinsUp then .used else .ignored

/-- An NVW command or a verification uses the NOR's pins. -/
def norUsed (s : State) : Bool := s.alive && s.is Fl.TG_NVW_STATUS_BUSY

/-- Each pin with VCORE in its range (R445), after a fatal fault too (R446): the levels in State.pins follow both rules. -/
def pinOn (s : State) : Pin → PinState
  | .ringTx r _ => if s.pinsUp && s.ringState r != 0 && s.ringState r != 5 then .active else .idle
  | .cwTx => if s.pinsUp && s.isOpen 17 && s.role != 4 then .active else .idle
  | .cmlRx => .terminated
  | .sref | .gref => .required
  | .bypHold r => .level (if r = 0 then s.pins.bypA else s.pins.bypB)
  | .hbOut => .level s.pins.hbOut
  | .hbIn => s.usedUp
  | .gif | .gclk => s.usedBy 10
  | .gfeSck => if s.power = 1 then .highZ else .level s.pins.gfeSck
  | .gfeSdio => if s.pinsUp && s.gns.fe.isSome then .level s.pins.gfeSdio else .highZ
  | .ppsOut => .level s.pins.pps
  | .spRx _ => s.usedBy 8
  | .spTx _ => if s.power = 1 then .highZ else if s.pinsUp && s.isOpen 8 then .active else .level true
  | .strig t => .level (if t = 0 then s.pins.strig0 else s.pins.strig1)
  | .smpSck => if s.pinsUp && s.isOpen 8 && s.is Fl.SNS_SMP_CFG_EN then .active else .level false
  | .smpFs => .level s.pins.smpFs
  | .smpD => s.usedBy 8
  | .fb _ => s.usedBy 12
  | .pdiv d => .level (if d = 0 then s.pins.pdiv0 else s.pins.pdiv1)
  | .gateDrive k => .level (s.pins.so.testBit k)
  | .readback _ => s.usedUp
  | .sealCk => .level false
  | .sealLd => .level true
  | .sealDi => if s.alive && s.power != 5 then .used else .ignored
  | .nvSck => if s.norUsed then .active else .level false
  | .nvCsN => if s.norUsed then .active else .level true
  | .nvIo => if s.power = 1 || s.norUsed then .active else .highZ
  | .hSck | .hMosi | .hCsN | .hPriv => if s.alive && s.isOpen 21 then .used else .ignored
  | .hMiso | .tdo => .highZ
  | .hRdy => .level s.pins.hRdy
  | .hIrqN => .level s.pins.hIrqN
  | .rstN | .tamperN => .used
  | .alarmN => if s.pins.alarmN then .released else .level false
  | .faultN => if s.pins.faultN then .released else .level false
  | .roleSel => if s.pwr.rstn then .ignored else .used
  | .xk => .oscillating
  | .rsvd => .tied
  | .tck | .tms | .tdi => if s.power = 1 then .tapReset else .used

/-- A pin's state. With VCORE below its range every output of the IO bank is high-impedance, and the pull-downs, fed from VIO, let
the hold and gate-drive outputs read low (R447). -/
def pin (s : State) (p : Pin) : PinState :=
  if !s.pwr.vcore && ioOutput p then (match p with | .bypHold _ | .gateDrive _ => .level false | _ => .highZ) else s.pinOn p

end State

end Sys2Proof.Machine
end

