-- ==== Sys2Proof/WellFormed.lean ====
section
/-! DEFINITION. WellFormed.lean: which commands name things that the block has: a lane, a port, a unit, a register address,
as the register tables of its chapter number them (R15, R51, R65, R394, R437). -/

namespace Sys2Proof

/-- A unit 1 to 22, an engine 0 to 15, a ring 0 or 1. -/
def Uid.wellFormed : Uid → Bool
  | .unit u => 1 ≤ u && u ≤ 22
  | .eng n => n < 16
  | .ring r => r < 2

/-- A source port of a thing there is (R51). -/
def SrcPort.wellFormed : SrcPort → Bool
  | .unit u => 1 ≤ u && u ≤ 22 && u != 2 && u != 3 && u != 16
  | .eng n => n < 16
  | .classA | .classH | .ringA | .ringB => true

/-- A target port: a unit's, an engine's (R51, R65). -/
def Uid.isTarget : Uid → Bool
  | .unit u => 1 ≤ u && u ≤ 22 && u != 2
  | .eng n => n < 16
  | .ring _ => false

/-- An operation as R51 and R57 have it: a source port there is, a target port, an aligned location, a value no wider than the
access, and a run-ahead only of the front stage or class A (R58). -/
def FabOp.wellFormed (o : FabOp) : Bool :=
  o.src.wellFormed && o.tgt.isTarget && o.loc % (if o.wide then 8 else 4) == 0 &&
    o.wr.all (fun w => o.wide || decide (w.toNat < 2 ^ 32)) && o.derived.all (· < 512) &&
    (!o.ahead || o.src == .unit 4 || o.src == .classA)

/-- One of 72 cells, 192 channels or 18 physical engines (R437). -/
def Resource.wellFormed : Resource → Bool
  | .cell c => c < 72
  | .channel c => c < 192
  | .engine p => p < 18

/-- The operands name things the block has. -/
def Instr.wellFormed : Instr → Bool
  | .legBoundary _ _ a v => a.all (· < 192) && v.all (·.ch < 192)
  | .stageBoundary _ v => v.all (fun x => x.elev ≤ 9000)
  | .operationIssue _ o => o.wellFormed
  | .replyReceived _ n a b _ => n < 512 && a < 2 ^ 32 && b < 2 ^ 32
  | .unitReopen _ u => u.wellFormed
  | .iecSentenceReceived _ p _ => p < 5
  | .binaryFrameReceived _ p _ => p < 5
  | .snsPortTxdata _ p _ => p < 5
  | .snsPortStatusRead _ p => p < 5
  | .sampleSlotComplete _ l k _ => l < 4 && k < 8
  | .triggerEdge _ t => t < 2
  | .streamSample _ n v _ => n < 48 && !v.isEmpty
  | .streamStale _ n => n < 48
  | .firCoefWrite _ k _ => k < 768
  | .firGdInactWrite _ c _ => c < 48
  | .fadeRequest _ c _ => c < 48
  | .pvtEpoch _ e => e.sigs.all (·.ch < 192)
  | .rtcmFrameReceived _ b => b.length ≤ 1029
  | .notchSpectrumUpdate _ l => l.all (·.stream < 4)
  | .select _ k => k < 32
  | .reject _ k => k < 32
  | .release _ k => k < 32
  | .slotClr _ k => k < 96
  | .slotILoad _ k => k < 96
  | .captureArm _ b _ => b < 2
  | .captureAbort _ b => b < 2
  | .captureRddataRead _ b => b < 2
  | .fbCountEdge _ c _ _ _ _ _ _ _ => c < 6
  | .pdivPulseEnd _ d => d < 2
  | .compareWrite _ c _ => c < 6
  | .compareCtlWrite _ c _ => c < 6
  | .laneEnable _ n _ => n < 64
  | .laneClear _ n => n < 64
  | .azSet _ n _ => n < 64
  | .connectionTimeout _ c => c < 128
  | .errorLevelDecay _ c => c < 128
  | .krbAckLane _ n _ => n < 64
  | .krbAckGroup _ m _ => m < 16
  | .krbAckChClear _ m _ => m < 16
  | .readbackSample _ l => l.all (·.ch < 4)
  | .testPulseStart _ t c => t < 2 && c < 4
  | .testPulseEnd _ t c => t < 2 && c < 4
  | .exchangeTimeout _ t => t < 2
  | .linkUp _ p a => p < 4 && a < 2 ^ 16
  | .linkDown _ p => p < 4
  | .ringListen _ r => r < 2
  | .syncReceived _ f => f.port < 4
  | .commandFrameReceived _ f => f.port < 4
  | .collectFrameReceived _ f => f.port < 4
  | .imageFrameReceived _ f => f.port < 4
  | .mgmtFrameReceived _ f => f.port < 4
  | .foreignFrameReceived _ f => f.port < 4
  | .ptpMessageReceived _ m => m.port < 5 && m.seq < 2 ^ 16 && m.clockId < 2 ^ 64 && m.domain < 256
  | .ptpSourceLost _ n => 2 ≤ n && n ≤ 4
  | .ringRelease _ r _ => r < 2
  | .ringLeave _ r _ => r < 2
  | .nvwWrite _ o _ _ => o < 65536
  | .verify _ n _ => n < 4
  | .commit _ k _ => k < 4
  | .loadSkey _ n _ => n < 4
  | .exportKey _ n _ _ => n < 4
  | .unlock _ r g => r < 2 ^ 256 && g < 2 ^ 256
  | .logAppend _ e => e.source < 256 && e.severity < 4 && e.event < 2 ^ 14 && e.arg < 256 && e.data < 2 ^ 32
  | .rosLowRead _ a _ => a < 2 ^ 24
  | .registerWrite _ a _ _ => a < 2 ^ 24
  | .laneCntClr _ n _ => n < 64
  | .unitPark _ u _ => u.wellFormed
  | .unitUnpark _ u _ => u.wellFormed
  | .unitReset _ u n _ => u < 32 && n < 16
  | .wearMonitorUpdate _ m _ => m < 66 + 192
  | .eccCorrected _ b _ => b < 32
  | .swap _ n _ => n < 16
  | .ptpMessageTransmit _ _ p => p < 5
  | .acquisitionDone _ c _ => c < 192
  | .signalLost _ c => c < 192
  | .selfCheckWrongResult _ r => r.wellFormed
  | .ringCycleBoundary .. | .paceBoundary .. | .commitMark .. | .allocationSolveDone .. | .allocationMark .. | .envelopeMark ..
    | .hznIterationDone .. | .alcLevelHoldExpiry ..
    | .kerbChecksEnd .. | .commandMark .. | .endMark .. | .gateMark .. | .observerMark .. | .demandMark .. | .classHDeadline ..
    | .snapEpochRead .. | .snapRelease .. | .snapExpired .. | .samplePortFrameStart .. | .gclkLost ..
    | .feTransaction .. | .feTransactionDone .. | .holdoverLimit .. | .gnsRtcmData .. | .ppsEdge .. | .d4Enter ..
    | .d4Exit .. | .spGo .. | .joyStale .. | .testGo .. | .testStop .. | .hznRestore .. | .hznResetEst ..
    | .krbConnClr .. | .sealReading .. | .kerbFatal .. | .paceLost .. | .syncLost .. | .mgmtSend .. | .mgmtTransmit ..
    | .mgmtRxPop .. | .accept .. | .timeStep .. | .timNowNsRead .. | .heartbeatSend .. | .heartbeatReceived ..
    | .hbInEdge .. | .pathSilence .. | .pathRestored .. | .milestoneFrameReceived .. | .milestoneApplyMark ..
    | .resyncFrameReceived .. | .exchange .. | .assume .. | .ringTakeover .. | .roleWaitExpiry .. | .vcorePowerOn ..
    | .rstNAssert .. | .rstNRelease .. | .bootComplete .. | .program .. | .erase .. | .nvwCommandDone .. | .tgData ..
    | .clear .. | .check .. | .tgCheckDone .. | .abort .. | .tamperEvent .. | .supplyGlitch .. | .temperatureGlitch ..
    | .kerbOscAnomaly .. | .eraseSession .. | .eraseAll .. | .secErase .. | .loadKek .. | .secExportDataRead ..
    | .genDik .. | .attest .. | .attestDone .. | .secAlarmClr .. | .challenge .. | .mark .. | .logVerifyStart ..
    | .logVerifyDone .. | .logClearStart .. | .logCleared .. | .logRdIndexWrite .. | .logRdDataRead .. | .writeFrame ..
    | .readFrame .. | .fabCntClr .. | .engCntClr .. | .snsCntClr .. | .gnsCntClr .. | .fusCntClr .. | .alcCntClr ..
    | .slvCntClr .. | .hznCntClr .. | .fbkCntClr .. | .krbCntClr .. | .ringCntClr .. | .timCntClr .. | .redCntClr ..
    | .tgCntClr .. | .secCntClr .. | .logCntClr .. | .hifCntClr .. | .pwrCntClr .. | .hltCntClr .. | .pwrCmdRun ..
    | .runEntry .. | .pwrCmdReady .. | .pwrCmdHarbour .. | .pwrCmdQuiet .. | .healthFatal .. | .operatingSecond ..
    | .logSectorCopyDone .. | .swapAbort .. | .swapCopyDone .. | .vkeepLoss .. | .slewComplete .. => true

end Sys2Proof
end

