-- ==== Sys2Proof/Tests/Slice0.lean ====
section
/-! SUPPORT. Tests/Slice0.lean: our own tests: ill-formed commands that the well-formedness check refuses, single steps with
results worked out in the spec, and for every statement's hypotheses a concrete state and operands that meet them. -/

namespace Sys2Proof.Tests

set_option Elab.async false

open Sys2Proof Sys2Proof.Machine Sys2Proof.Safety

/-! ### Small states -/

/-- A device with VCORE and clock, every unit's ports open, in a power state and a role, with some registers written. -/
def dev (power role : Nat) (l : List (Nat × Nat)) : State :=
  l.foldl (fun s x => s.wr x.1 x.2)
    (((State.reset.put Fl.PWR_STATUS_STATE power).put Fl.RED_STATUS_ROLE role).wr Reg.FAB_PORT_STATE 0x7FFFFE)

/-- In RUN and ACTIVE. -/
abbrev run (l : List (Nat × Nat)) : State := dev 3 3 l

/-- In RUN and ACTIVE past its first pace boundary, at a pace of the leg. -/
def cyc (leg : Nat) (l : List (Nat × Nat)) : State := { run l with cyc := { (run l).cyc with active := true, leg := leg } }

/-- Held in reset. -/
def held : State := { State.reset with pwr := { State.reset.pwr with rstn := false } }

/-! ### Ill-formed commands are refused by the check, and the last well-formed operand is not (R15, R51, R65, R394, R437) -/

/-- Each first command is ill-formed and each second one well-formed. -/
def refuses (l : List (Instr × Instr)) : Bool := l.all (fun p => !p.1.wellFormed && p.2.wellFormed)

/-- A frame at a port. -/
def atPort (p : Nat) : RxFrame := ⟨p, [], true⟩

theorem test_illFormed_cycle :
    refuses [(.legBoundary 0 none [192] [], .legBoundary 0 none [191] []),
      (.legBoundary 0 none [] [⟨192, 0, 0, 0, 0, 0, 0⟩], .legBoundary 0 none [] [⟨191, 0, 0, 0, 0, 0, 0⟩]),
      (.stageBoundary 0 [⟨0, 1, 9001, true, true⟩], .stageBoundary 0 [⟨0, 1, 9000, true, true⟩])] = true := by decide +kernel

/-- An operation of a port on a target, a read of a location that nothing else carries. -/
def opOf (p : SrcPort) (u : Uid) : FabOp := ⟨p, u, 0, false, none, false, []⟩

theorem test_illFormed_fabric :
    refuses [(.operationIssue 0 (opOf (.unit 0) (.unit 1)), .operationIssue 0 (opOf (.unit 1) (.unit 22))),
      (.operationIssue 0 (opOf (.unit 2) (.unit 1)), .operationIssue 0 (opOf (.unit 4) (.unit 1))),
      (.operationIssue 0 (opOf (.unit 3) (.unit 1)), .operationIssue 0 (opOf .classA (.unit 1))),
      (.operationIssue 0 (opOf (.unit 16) (.unit 1)), .operationIssue 0 (opOf .ringB (.unit 1))),
      (.operationIssue 0 (opOf (.eng 16) (.unit 1)), .operationIssue 0 (opOf (.eng 15) (.eng 15))),
      (.operationIssue 0 (opOf .classA (.unit 23)), .operationIssue 0 (opOf .classA (.unit 16))),
      (.operationIssue 0 (opOf .classA (.ring 0)), .operationIssue 0 (opOf .classH (.eng 0))),
      (.operationIssue 0 { opOf .ringA (.unit 1) with loc := 2 }, .operationIssue 0 { opOf .ringA (.unit 1) with loc := 4 }),
      (.operationIssue 0 { opOf .ringA (.unit 1) with loc := 4, wide := true },
        .operationIssue 0 { opOf .ringA (.unit 1) with loc := 8, wide := true }),
      (.operationIssue 0 { opOf .ringA (.unit 1) with wr := some 0x100000000 },
        .operationIssue 0 { opOf .ringA (.unit 1) with wr := some 0xFFFFFFFF }),
      (.operationIssue 0 { opOf .ringA (.unit 1) with derived := [512] }, .operationIssue 0 { opOf .ringA (.unit 1) with derived := [511] }),
      (.operationIssue 0 { opOf .ringA (.unit 1) with ahead := true }, .operationIssue 0 { opOf .classA (.unit 1) with ahead := true }),
      (.replyReceived 0 512 0 0 .ok, .replyReceived 0 511 0 0 .ok),
      (.replyReceived 0 0 (2 ^ 32) 0 .ok, .replyReceived 0 0 (2 ^ 32 - 1) 0 .ok),
      (.replyReceived 0 0 0 (2 ^ 32) .ok, .replyReceived 0 0 0 (2 ^ 32 - 1) .ok), (.unitReopen 0 (.ring 2), .unitReopen 0 (.ring 1)), (.unitPark 0 (.eng 16) true, .unitPark 0 (.eng 15) true),
      (.unitUnpark 0 (.unit 23) true, .unitUnpark 0 (.unit 22) true), (.unitReset 0 32 0 true, .unitReset 0 31 15 true),
      (.unitReset 0 0 16 true, .unitReset 0 0 15 true)] = true := by decide +kernel

theorem test_illFormed_sensors :
    refuses [(.iecSentenceReceived 0 5 ⟨[], 0, 0, 0, false⟩, .iecSentenceReceived 0 4 ⟨[], 0, 0, 0, false⟩),
      (.binaryFrameReceived 0 5 ⟨[], 0, 0, 0, false⟩, .binaryFrameReceived 0 4 ⟨[], 0, 0, 0, false⟩),
      (.snsPortTxdata 0 5 0, .snsPortTxdata 0 4 0), (.snsPortStatusRead 0 5, .snsPortStatusRead 0 4),
      (.sampleSlotComplete 0 4 0 0, .sampleSlotComplete 0 3 7 0), (.sampleSlotComplete 0 0 8 0, .sampleSlotComplete 0 0 7 0),
      (.triggerEdge 0 2, .triggerEdge 0 1), (.streamSample 0 48 [0] 0, .streamSample 0 47 [0] 0),
      (.streamSample 0 0 [] 0, .streamSample 0 0 [0] 0), (.streamStale 0 48, .streamStale 0 47), (.firCoefWrite 0 768 0, .firCoefWrite 0 767 0),
      (.firGdInactWrite 0 48 0, .firGdInactWrite 0 47 0), (.fadeRequest 0 48 0, .fadeRequest 0 47 0)] = true := by decide +kernel

/-- An epoch of signals without a solution. -/
def epochOf (l : List GnsSig) : PvtIn := ⟨l, none, 0, 0, none, none, 0, 0, 0, 0, 0, 0, none, [], [], []⟩

theorem test_illFormed_baseband :
    refuses [(.pvtEpoch 0 (epochOf [⟨192, 0, 0, [], none, none, 0⟩]), .pvtEpoch 0 (epochOf [⟨191, 0, 0, [], none, none, 0⟩])),
      (.rtcmFrameReceived 0 (List.replicate 1030 0), .rtcmFrameReceived 0 (List.replicate 1029 0)),
      (.notchSpectrumUpdate 0 [⟨4, 0, 0⟩], .notchSpectrumUpdate 0 [⟨3, 0, 0⟩]), (.acquisitionDone 0 192 ⟨0, 0, 0⟩, .acquisitionDone 0 191 ⟨0, 0, 0⟩),
      (.signalLost 0 192, .signalLost 0 191)] = true := by decide +kernel

theorem test_illFormed_law :
    refuses [(.select 0 32, .select 0 31), (.reject 0 32, .reject 0 31), (.release 0 32, .release 0 31), (.slotClr 0 96, .slotClr 0 95),
      (.slotILoad 0 96, .slotILoad 0 95), (.captureArm 0 2 0, .captureArm 0 1 0), (.captureAbort 0 2, .captureAbort 0 1),
      (.captureRddataRead 0 2, .captureRddataRead 0 1)] = true := by decide +kernel

theorem test_illFormed_lanes :
    refuses [(.fbCountEdge 0 6 false true true true 0 0 0, .fbCountEdge 0 5 false true true true 0 0 0), (.pdivPulseEnd 0 2, .pdivPulseEnd 0 1),
      (.compareWrite 0 6 0, .compareWrite 0 5 0), (.compareCtlWrite 0 6 0, .compareCtlWrite 0 5 0), (.laneEnable 0 64 true, .laneEnable 0 63 true),
      (.laneClear 0 64, .laneClear 0 63), (.azSet 0 64 0, .azSet 0 63 0), (.laneCntClr 0 64 0, .laneCntClr 0 63 0),
      (.connectionTimeout 0 128, .connectionTimeout 0 127), (.errorLevelDecay 0 128, .errorLevelDecay 0 127),
      (.krbAckLane 0 64 true, .krbAckLane 0 63 true), (.krbAckGroup 0 16 true, .krbAckGroup 0 15 true),
      (.krbAckChClear 0 16 true, .krbAckChClear 0 15 true), (.readbackSample 0 [⟨4, true, true, true, true⟩], .readbackSample 0 [⟨3, true, true, true, true⟩]),
      (.testPulseStart 0 2 0, .testPulseStart 0 1 3), (.testPulseStart 0 0 4, .testPulseStart 0 0 3), (.testPulseEnd 0 2 0, .testPulseEnd 0 1 3),
      (.testPulseEnd 0 0 4, .testPulseEnd 0 0 3), (.exchangeTimeout 0 2, .exchangeTimeout 0 1)] = true := by decide +kernel

theorem test_illFormed_ring :
    refuses [(.linkUp 0 4 0, .linkUp 0 3 0), (.linkUp 0 0 65536, .linkUp 0 0 65535), (.linkDown 0 4, .linkDown 0 3), (.ringListen 0 2, .ringListen 0 1),
      (.syncReceived 0 (atPort 4), .syncReceived 0 (atPort 3)), (.commandFrameReceived 0 (atPort 4), .commandFrameReceived 0 (atPort 3)),
      (.collectFrameReceived 0 (atPort 4), .collectFrameReceived 0 (atPort 3)), (.imageFrameReceived 0 (atPort 4), .imageFrameReceived 0 (atPort 3)),
      (.mgmtFrameReceived 0 (atPort 4), .mgmtFrameReceived 0 (atPort 3)), (.foreignFrameReceived 0 (atPort 4), .foreignFrameReceived 0 (atPort 3)),
      (.ringRelease 0 2 true, .ringRelease 0 1 true), (.ringLeave 0 2 true, .ringLeave 0 1 true)] = true := by decide +kernel

theorem test_illFormed_time :
    refuses [(.ptpMessageReceived 0 ⟨.sync, 5, 0, 0, 0, 0, 0, 0, [], none, 0⟩, .ptpMessageReceived 0 ⟨.sync, 4, 65535, 0, 255, 0, 0, 0, [], none, 0⟩),
      (.ptpMessageReceived 0 ⟨.sync, 0, 65536, 0, 0, 0, 0, 0, [], none, 0⟩, .ptpMessageTransmit 0 .sync 4),
      (.ptpMessageReceived 0 ⟨.sync, 0, 0, 2 ^ 64, 0, 0, 0, 0, [], none, 0⟩, .ptpMessageTransmit 0 .sync 0),
      (.ptpMessageReceived 0 ⟨.sync, 0, 0, 0, 256, 0, 0, 0, [], none, 0⟩, .ptpMessageTransmit 0 .sync 1),
      (.ptpMessageTransmit 0 .sync 5, .ptpMessageTransmit 0 .sync 2), (.ptpSourceLost 0 1, .ptpSourceLost 0 2),
      (.ptpSourceLost 0 5, .ptpSourceLost 0 4)] = true := by decide +kernel

theorem test_illFormed_host :
    refuses [(.nvwWrite 0 65536 0 true, .nvwWrite 0 65535 0 true), (.verify 0 4 true, .verify 0 3 true), (.commit 0 4 true, .commit 0 3 true),
      (.loadSkey 0 4 true, .loadSkey 0 3 true), (.exportKey 0 4 true true, .exportKey 0 3 true true),
      (.unlock 0 (2 ^ 256) 0, .unlock 0 (2 ^ 256 - 1) 0), (.unlock 0 0 (2 ^ 256), .unlock 0 0 (2 ^ 256 - 1)),
      (.logAppend 0 ⟨256, 0, 0, 0, 0⟩, .logAppend 0 ⟨255, 3, 16383, 255, 2 ^ 32 - 1⟩), (.logAppend 0 ⟨0, 4, 0, 0, 0⟩, .logAppend 0 ⟨0, 3, 0, 0, 0⟩),
      (.logAppend 0 ⟨0, 0, 16384, 0, 0⟩, .logAppend 0 ⟨0, 0, 16383, 0, 0⟩), (.logAppend 0 ⟨0, 0, 0, 256, 0⟩, .logAppend 0 ⟨0, 0, 0, 255, 0⟩),
      (.logAppend 0 ⟨0, 0, 0, 0, 2 ^ 32⟩, .logAppend 0 ⟨0, 0, 0, 0, 0⟩), (.rosLowRead 0 (2 ^ 24) true, .rosLowRead 0 (2 ^ 24 - 1) true),
      (.registerWrite 0 (2 ^ 24) 0 true, .registerWrite 0 (2 ^ 24 - 1) 0 true)] = true := by decide +kernel

theorem test_illFormed_health :
    refuses [(.wearMonitorUpdate 0 258 0, .wearMonitorUpdate 0 257 0), (.eccCorrected 0 32 0, .eccCorrected 0 31 0),
      (.swap 0 16 true, .swap 0 15 true), (.selfCheckWrongResult 0 (.cell 72), .selfCheckWrongResult 0 (.cell 71)),
      (.selfCheckWrongResult 0 (.channel 192), .selfCheckWrongResult 0 (.channel 191)),
      (.selfCheckWrongResult 0 (.engine 18), .selfCheckWrongResult 0 (.engine 17))] = true := by decide +kernel

/-! ### Single steps and operations with results worked out in the spec -/

/-- A frame of the host's bytes, clocked to its end. -/
def clocked (b : List Nat) : SpiIn := ⟨b.map (BitVec.ofNat 8), false, true, 0, true, 0⟩

/-- The state after a command. -/
def after (c : Instr) (s : State) : State := match exec c s with | .next t => t | _ => s

/-- Chapter 16, worked example: reading GLB_ID with H_PRIV low. -/
theorem test_read_glb_id :
    bytesNat (after (.readFrame 0 (clocked ([0x40, 0, 0, 0, 0, 0, 0x64] ++ List.replicate 6 0))) State.reset).hif.miso =
      List.replicate 7 0 ++ [0x00, 0x64, 0x51, 0x4A, 0x17, 0x6B] := by decide +kernel

/-- Chapter 16, worked example: a corrupted header byte returns zeros, and the next frame's status byte is 0x40. -/
theorem test_read_bad_header :
    (let t := after (.readFrame 0 (clocked ([0x40, 0, 0, 4, 0, 0, 0x64] ++ List.replicate 6 0))) State.reset
     (bytesNat t.hif.miso).take 11 = List.replicate 11 0 ∧
     (bytesNat (after (.readFrame 0 (clocked ([0x40, 0, 0, 0, 0, 0, 0x64] ++ List.replicate 6 0))) t).hif.miso).headD 0 = 0x40) := by
  decide +kernel

/-- Chapter 15, worked example: the words of a DETOUR_CHANGE record of source 9. -/
theorem test_record_words :
    recHead ⟨9, 1, 0x41, 0x4004, 0x000213, 0, 0x0238A9F1, 0x7A3BC120 * 10 ^ 9 + 0x1DCD6500, d8 2 1 0, 0⟩ =
      toBE 4 0x09010041 ++ toBE 4 0x40040002 ++ toBE 4 0x13000238 ++ toBE 4 0xA9F10000 ++ toBE 4 0x7A3BC120 ++ toBE 4 0x1DCD6500 ++
        toBE 4 0x02010000 ++ [0, 0] := by decide +kernel

/-- Chapter 6, worked example: a proportional-integral slot with feed-forward, then the blend of the demands. -/
theorem test_pi_slot :
    (let o := slotRun ⟨[], 0, (0x27100000, 0xF8), (0x68DB8BAC, 0xF2), (0, 0)⟩ {} { x := 0x00800000, f := 55000, lo := -1000000, hi := 1000000 }
     o.st.i = 839 ∧ o.u0 = 20002 ∧ o.st.u1 = 75002 ∧ o.st.u = 75002) ∧ State.blend 8192 75002 95002 = 80002 := by decide +kernel

/-- Chapter 10: sector 160° to 200° of an envelope entry forbids 180° above its thrust, not at its edge and not below. -/
theorem test_sector_is_open :
    (let e : EnvEntry := ⟨0, [(0x71C71C72, 0x8E38E38E)], 0, 0, 0, 100, 0, 0, 0, 0, 0⟩
     e.inSector (some 0x80000000) (some (-101)) = true ∧ e.inSector (some 0x71C71C72) (some 101) = false ∧
      e.inSector (some 0x80000000) (some 100) = false) := by decide +kernel

/-- Chapter 16: at reset the allocation front stage is closed, and a write to one of its registers sets CLOSED_UNIT. -/
theorem test_write_closed_unit :
    (after (.registerWrite 0 Reg.ALC_TOL 1 true) State.reset).is Fl.HIF_STATUS_CLOSED_UNIT = true := by decide +kernel

/-- Chapter 4, worked example: u(t) = 20 ns at the start of holdover, 800 ns after 600 s and 1,325 ns after 900 s. -/
theorem test_holdover_uncertainty :
    (let s := dev 3 3 [(Reg.GNS_HOLD_U0, 20), (Reg.GNS_HOLD_F, 1000), (Reg.GNS_HOLD_A, 1000)]
     s.holdU = 20 ∧ ({ s with now := 600000000000 } : State).holdU = 800 ∧ ({ s with now := 900000000000 } : State).holdU = 1325) := by
  decide +kernel

/-- R8's example: 350° minus 10° is −20°; 90° is a quarter turn. -/
theorem test_angles :
    angDiff (degAng 350).toNat (degAng 10).toNat = -238609294 ∧ degAng 90 = 0x40000000 ∧ degAng (-90) = 0xC0000000 := by decide +kernel

/-! ### Witnesses: the step, counters, the fabric, power -/

theorem witness_EveryStepSettlesTheWires :
    WiresHold (settle [] (run [])) ∧ step (settle [] (run [])) = .next (settle [] (run [])) := by
  refine ⟨⟨⟨fun h => absurd h (by decide +kernel), fun ⟨i, h⟩ => ?_⟩, by decide +kernel, by decide +kernel, by decide +kernel,
    by decide +kernel, by decide +kernel⟩, rfl⟩
  have : (settle [] (run [])).rd Reg.HIF_IRQ_EN = 0 := by decide +kernel
  rw [this] at h
  exact absurd h.2 (by simp)

theorem witness_NothingRunsInReset : held.alive = false ∧ actsAlways (.paceBoundary 0) = false := by decide +kernel

theorem witness_CounterClearsZeroCountAndOvf : ∀ e ∈ cntClrTable 0 0xFFFFFFFF, HostTakes e.2.1 (run []) := by decide +kernel

theorem witness_NamedCounterClears :
    (∀ a ∈ [Reg.FAB_CNT_CLR, Reg.HLT_CNT_CLR, Reg.LANE_CNT_CLR 63, Reg.SNS_CNT_CLR, Reg.FUS_CNT_CLR, Reg.RING_CNT_CLR, Reg.SEC_CNT_CLR],
      HostTakes a (run [])) ∧ Rw.SNS_CNT_CLR.legalOk 0x1C0 = true := by decide +kernel

/-- An operation of an engine on another. -/
def op0 (wr : Option (BitVec 64)) (ahead : Bool) : FabOp := ⟨.eng 0, .eng 15, 2 ^ 24, false, wr, ahead, []⟩

/-- The engines' ports open. -/
def withEngines (l : List (Nat × Nat)) : State := run (l ++ (List.range 16).map (fun n => (Reg.ENG_STATUS n, 0)))

theorem witness_OperationMeetsItsTarget :
    MayIssue (op0 none false) (withEngines []) ∧ (withEngines []).tagFor (.eng 0) = some false ∧
    (withEngines []).uidOpen (.eng 15) = true ∧ State.locReserved (.eng 15) (2 ^ 24) = false ∧ State.locReserved (.eng 15) 3 = true ∧
    (withEngines [(Reg.FAB_PORT_STATE, 0x7FFFF6)]).uidOpen (.unit 3) = false ∧
    IsAhead ⟨.classA, .eng 15, 2 ^ 24, true, some 1, true, []⟩ (withEngines []) ∧ MayIssue ⟨.classA, .eng 15, 2 ^ 24, true, some 1, true, []⟩ (withEngines []) ∧
    ¬ IsAhead ⟨.classA, .eng 15, 2 ^ 24, true, some 1, false, []⟩ (withEngines []) := by
  refine ⟨⟨by decide +kernel, by decide +kernel, fun o h => absurd h (List.not_mem_nil)⟩, by decide +kernel, by decide +kernel,
    by decide +kernel, by decide +kernel, by decide +kernel, .inl ⟨rfl, rfl⟩,
    ⟨by decide +kernel, by decide +kernel, fun o h => absurd h (List.not_mem_nil)⟩, ?_⟩
  rintro (⟨h, -⟩ | ⟨n, h, -⟩)
  · cases h
  · exact absurd h (List.not_mem_nil)

/-- Every tag of the pool that a port may hold is held. -/
def tagsOut (prov : Bool) (st : TagSt) (q : List FabOp) : State :=
  { withEngines [] with fab := { (withEngines []).fab with
    tags := (List.range 128).map (fun n => ⟨n, op0 none false, 0, 0, prov, false, 0, st, 0⟩), stalled := q, lastTgt := [(127, .ring 1)] } }

theorem witness_OperationWithoutATagStalls :
    MayIssue (op0 none false) (tagsOut false .issued []) ∧ (tagsOut false .issued []).tagFor (.eng 0) = none ∧
    (∃ o, o ∈ (tagsOut false .issued [op0 (some 1) false]).fab.stalled ∧ o.src = .eng 0) ∧
    (tagsOut false .issued []).get ⟨Reg.FAB_TAG_STALL, 15, 0⟩ < 0xFFFF := by
  refine ⟨⟨by decide +kernel, by decide +kernel, fun o h => absurd h (List.not_mem_nil)⟩, by decide +kernel, ?_, by decide +kernel⟩
  exact ⟨op0 (some 1) false, List.mem_cons_self, rfl⟩

theorem witness_RepliesAreAcceptedByIncarnation :
    (∀ p, (tagsOut p .issued []).fab.stalled = [] ∧
      (tagsOut p .issued []).fab.tags.find? (·.num == 127) = some ⟨127, op0 none false, 0, 0, p, false, 0, .issued, 0⟩) ∧
    (tagsOut true .provisional []).fab.tags.find? (·.num == 127) = some ⟨127, op0 none false, 0, 0, true, false, 0, .provisional, 0⟩ ∧
    (tagsOut true .issued []).incarn (.eng 0) = 0 ∧ (tagsOut true .issued []).incarn (.eng 15) = 0 ∧
    (run []).fab.tags.find? (·.num == 511) = none ∧ aGet (tagsOut true .issued []).fab.lastTgt 127 = some (.ring 1) := by decide +kernel

/-- A unit waits to reopen since the local clock's first millisecond. -/
def waiting (power : Nat) (u : Uid) : State :=
  { dev power 3 [] with units := { (dev power 3 []).units with ready := [u], since := [(u, (0, 0))] } }

theorem witness_ReopeningGivesANewIncarnation :
    (let s : State := { waiting 3 (.unit 22) with cyc := { (waiting 3 (.unit 22)).cyc with boundaryAt := 1000 } }
     s.alive = true ∧ s.units.ready.contains (.unit 22) = true ∧ s.units.since.find? (·.1 == .unit 22) = some (.unit 22, (0, 0)) ∧
      s.power = 3 ∧ s.now + 1000 = s.cyc.boundaryAt ∧ 0 < s.now + 1000 ∧ s.pwr.trans = none) ∧
    (let s := waiting 2 (.unit 1)
     s.alive = true ∧ s.units.ready.contains (.unit 1) = true ∧ s.power ≠ 3 ∧ (s.elapse 1000000).clk % 1000000 ≤ 4 ∧
      (s.elapse 1000000).clk / 1000000 ≠ 0) := by decide +kernel

theorem witness_ParkAndUnpark :
    (HostTakes Reg.PWR_PARK (dev 2 0 []) ∧ Uid.unit 10 ∈ parkable ∧ parkBit (.unit 10) = some 0 ∧
      (dev 2 0 []).parkAsked (.unit 10) = false ∧ parkable.any ((dev 2 0 []).parkRefused (State.putBits 0 0 0 1)) = false) ∧
    (let s := dev 2 0 [(Reg.PWR_PARK, 1), (Reg.FAB_PORT_STATE, 0x7FFBFE)];
      s.parkAsked (.unit 10) = true ∧ parkable.any (s.parkRefused (State.putBits 1 0 0 0)) = false ∧ s.uidOpen (.unit 10) = false ∧
      s.barred (.unit 10) = false ∧ stateParks s.power (.unit 10) = false) ∧
    (HostTakes Reg.PWR_PARK (dev 1 0 []) ∧ parkable.any ((dev 1 0 []).parkRefused (State.putBits 0 0 0 1)) = true) := by
  decide +kernel

theorem witness_UnitResetClosesTheUnit :
    HostTakes Reg.PWR_UNIT_RESET (run []) ∧ (run []).resetOk 13 = true ∧ (run []).isOpen 13 = true ∧
    (run []).barred (.unit 13) = false ∧ (run []).resetOk 16 = false := by decide +kernel

theorem witness_PowerCommandsRefusedInOrder :
    (3, .pwrCmdRun 0 true) ∈ pwrCommands 0 ∧ HostTakes Reg.PWR_CMD (dev 1 0 []) ∧ (dev 1 0 []).power = 1 ∧
    (dev 2 4 []).role = 4 ∧ HostTakes Reg.PWR_CMD (dev 2 4 []) ∧ (dev 2 0 [(Reg.PWR_STATUS, 0x12)]).is Fl.PWR_STATUS_BUSY = true ∧
    ([(2, 3), (3, 2), (2, 4), (4, 2), (2, 5), (5, 2)].contains ((run []).power, 3)) = false ∧
    (dev 2 0 [(Reg.SEC_STATUS, 0xFFFFFFFF)]).is Fl.SEC_STATUS_JTAG_OPEN = true := by decide +kernel

theorem witness_RunCommandsAreScheduled :
    (HostTakes Reg.PWR_CMD (dev 2 0 []) ∧ (dev 2 0 []).is Fl.PWR_STATUS_BUSY = false ∧ (dev 2 0 []).power = 2 ∧
      (dev 2 0 []).is Fl.SEC_STATUS_JTAG_OPEN = false) ∧
    (HostTakes Reg.PWR_CMD (run []) ∧ (run []).is Fl.PWR_STATUS_BUSY = false ∧ (run []).role = 3 ∧ (run []).power = 3) := by
  decide +kernel

/-- READY, on its way to RUN at the local clock's millisecond 5. -/
def entering : State := { dev 2 0 [] with pwr := { (dev 2 0 []).pwr with trans := some ⟨3, some 5⟩ } }

theorem witness_CompletedTransitions :
    entering.alive = true ∧ entering.tg.armed = none ∧ 5 * 1000000 ≤ (entering.elapse 5000000).clk ∧
    (dev 2 0 []).is Fl.TG_NVW_STATUS_BUSY = false := by decide +kernel

theorem witness_DeviceResetsKeepWhatIsNonvolatile :
    (run []).log.pcc < 0xFFFFFF ∧ (run []).pwr.rstn = true ∧ held.pwr.rstn = false ∧
    ({ run [] with log := { (run []).log with pcc := 0xFFFFFF } } : State).log.pcc = 0xFFFFFF := by decide +kernel

theorem witness_FatalFaultsTurnEverythingOff :
    (run []).alive = true ∧ (run []).is Fl.HLT_STATUS_FATAL = false ∧ (run []).kerbOn 0 = true ∧ (run []).kerbOn 1 = true ∧
    (run []).krb.fatalP = false ∧ (run []).krb.fatalL = false ∧ (run []).power = 3 ∧ (run []).krb.strobe + 1800000 ≤ (run []).now + 1800000 ∧
    (run []).krb.mailL + 1800000 ≤ (run []).now + 1800000 ∧ (run []).krb.mailP + 1800000 ≤ (run []).now + 1800000 ∧
    (dev 1 0 []).alive = true ∧ (dev 1 0 []).is Fl.HLT_STATUS_FATAL = false ∧ (dev 1 0 []).power = 1 ∧ (dev 3 3 []).uidOpen (.ring 1) = true ∧
    (let g : Tag := ⟨0, ⟨.classA, .unit 1, 0, false, none, false, []⟩, 0, 0, false, false, 0, .issued, 0⟩
     srcCritical g.op.src = true ∧ g.since + 10000000 ≤ (run []).now + 10000000 ∧
      g ∈ ({ run [] with fab := { (run []).fab with tags := [g] } } : State).fab.tags) := by decide +kernel


/-! ### Witnesses: the cycle and the planner -/

theorem witness_MarksPassOnceInAPace :
    (dev 1 0 []).power = 1 ∧ (dev 5 0 []).power = 5 ∧ 12 ∈ ({ cyc 0 [] with cyc := { (cyc 0 []).cyc with marks := [12] } } : State).cyc.marks ∧
    4 ∈ ({ cyc 0 [] with cyc := { (cyc 0 []).cyc with marks := [4] } } : State).cyc.marks ∧
    ({ cyc 0 [] with cyc := { (cyc 0 []).cyc with voided := true } } : State).cyc.voided = true := by decide +kernel

/-- The cycle timer expires now: in RUN at its instant, outside RUN at a whole ring cycle of the local clock. -/
abbrev due (s : State) : Prop := CycleInstant 0 s

theorem witness_PacesBegin :
    due (cyc 4 []) ∧ due (dev 2 0 []) ∧ (cyc 4 []).freeze = none ∧ (cyc 4 []).cyc.epochDue = false ∧ (cyc 4 []).red.exch = none ∧
    (cyc 4 []).power = 3 ∧ (cyc 4 []).role ≠ 1 ∧ (cyc 4 []).pwr.trans = none ∧ (cyc 4 []).is Fl.PWR_STATUS_LEAVING = false ∧
    5 % (cyc 4 []).legPaces = (4 + 1) % (cyc 4 []).legPaces ∧ (cyc 3 []).cyc.leg + 1 ≠ 5 % (cyc 3 []).legPaces ∧
    (let s : State := { run [] with freeze := some 2 }; due s ∧ s.freeze = some (0 + 2) ∧ s.power = 3) ∧
    (let s : State := { run [] with cyc := { (run []).cyc with epochDue := true } }; due s ∧ s.cyc.epochDue = true) ∧
    (let s := dev 3 1 []; due s ∧ s.role = 1 ∧ s.red.heardOwner = false) ∧ (dev 2 0 []).power ≠ 3 ∧
    (let s : State := { dev 3 1 [] with red := { (dev 3 1 []).red with heardOwner := true } }; due s ∧ s.red.heardOwner = true) := by
  decide +kernel

theorem witness_RingCyclesAreCounted : due (run []) ∧ (run []).isOpen 16 = true := by decide +kernel

/-- The state with an allocation stage of our own. -/
def withAlc (s : State) (f : Alc → Alc) : State := { s with alc := f s.alc }

/-- A problem without lanes, for the demand in force. -/
def prob0 (s : State) : AlcProb := ⟨[], s.loop.tau, s.busRegs, 0⟩

/-- The front stage in RUN, with its run-ahead solved. -/
def ahead0 : State :=
  withAlc (cyc 0 [(Reg.ALC_CTL, 0xFFFFFFFF)]) (fun a => { a with ahead := some (prob0 (cyc 0 [])), aheadRes := some {} })

theorem witness_CommitMarkCommitsOrSolvesAgain :
    (PaceMark 1 (cyc 0 []) ∧ (cyc 0 []).isOpen 4 = true ∧ (cyc 0 []).aheadGood = false) ∧
    (PaceMark 1 ahead0 ∧ ahead0.isOpen 4 = true ∧ ahead0.aheadGood = true ∧ ahead0.fab.aheadBroken = false ∧ ahead0.fab.stalled = []) ∧
    (let s : State := { ahead0 with fab := { ahead0.fab with aheadBroken := true } }
     PaceMark 1 s ∧ s.isOpen 4 = true ∧ s.fab.aheadBroken = true) := by decide +kernel

theorem witness_AllocationMarkAcceptsOrCountsAMiss :
    (PaceMark 2 (cyc 0 []) ∧ (cyc 0 []).isOpen 4 = true ∧ (cyc 0 []).is Fl.ALC_CTL_FORCE_FALLBACK = false ∧ (cyc 0 []).isOpen 3 = true ∧
      (cyc 0 []).alc.res = none ∧ (cyc 0 []).alc.missRun < 2 ∧ (cyc 0 []).fab.stalled = []) ∧
    (let s := cyc 0 [(Reg.FAB_PORT_STATE, 0x7FFFEE)]; PaceMark 2 s ∧ s.isOpen 4 = false) ∧
    (let s := (cyc 0 []).flag Fl.ALC_CTL_FORCE_FALLBACK true
     PaceMark 2 s ∧ s.isOpen 4 = true ∧ s.is Fl.ALC_CTL_FORCE_FALLBACK = true ∧ s.fab.stalled = [] ∧ s.alc.mat = none) ∧
    (let s := withAlc (cyc 0 []) (fun a => { a with avail := [63], res := some { cmds := [(63, (7, -9))] } })
     PaceMark 2 s ∧ s.alc.res = some { cmds := [(63, (7, -9))] } ∧ s.isOpen 3 = true ∧ s.alc.done = false ∧ 63 ∈ s.alc.avail) ∧
    (let s := withAlc (cyc 0 []) (fun a => { a with res := some { cause := 15 }, missRun := 2, done := true })
     PaceMark 2 s ∧ s.alc.done = true ∧ 15 ≠ 0 ∧ s.alc.res = some { cause := 15 } ∧ ({ cause := 15 } : AlcRes).cause = 15 ∧ 2 ≤ s.alc.missRun) ∧
    (let s := cyc 0 [(Reg.FAB_PORT_STATE, 0x7FFFF6)]; PaceMark 2 s ∧ s.isOpen 4 = true ∧ s.isOpen 3 = false ∧ s.alc.done = false) := by
  decide +kernel

theorem witness_SolvesEnd :
    (let s := withAlc (run []) (fun a => { a with prob := some (prob0 (run [])) })
     UnitTakes 4 s ∧ s.alc.prob = some (prob0 (run [])) ∧ s.isOpen 3 = true ∧ s.alc.res = none) ∧
    (let s := withAlc { run [] with cyc := { (run []).cyc with marks := [1] } } (fun a => { a with ahead := some (prob0 (run [])) })
     UnitTakes 4 s ∧ s.alc.ahead = some (prob0 (run [])) ∧ s.isOpen 3 = true ∧ s.alc.prob = none ∧ 1 ∈ s.cyc.marks ∧ s.alc.aheadRes = none) ∧
    UnitTakes 4 (run [(Reg.FAB_PORT_STATE, 0x7FFFF6)]) ∧ (run [(Reg.FAB_PORT_STATE, 0x7FFFF6)]).isOpen 3 = false := by decide +kernel

theorem witness_AllocationLevelFalls :
    let s := withAlc (run []) (fun a => { a with level := 1 })
    UnitTakes 4 s ∧ 0 < s.alc.level ∧
    max s.alc.changedAt s.alc.missAt + s.get ⟨Reg.ALC_LEVEL_HOLD, 15, 0⟩ * 1000000000 ≤ s.now + 65535000000000 := by decide +kernel

/-- Lanes 61 to 63 in use with no profile, their modes OFF, ACTIVE and HELD. -/
def lanes3 : State :=
  [61, 62, 63].foldl (fun s n => ((s.flag (Fl.LANE_BIND_ENABLED n) true).put (Fl.LANE_STATE_STATE n) (2 * (n - 61) % 3)).wr (Reg.LANE_AZ n) n)
    (cyc 0 [])

theorem witness_CommandMarkHandsOverCommands :
    PaceMark 3 lanes3 ∧ lanes3.isOpen 13 = true ∧ (∀ n ∈ [61, 62, 63], n ∈ lanes3.lanesOn ∧ n ∉ lanes3.lanes.withheld) ∧
    lanes3.laneState 62 = 2 ∧ laneKind lanes3 62 ≠ 4 ∧ lanes3.laneState 63 = 1 ∧ lanes3.laneState 61 = 0 ∧
    (let s := cyc 0 [(Reg.FAB_PORT_STATE, 0x7FDFFE)]; PaceMark 3 s ∧ s.isOpen 13 = false) := by decide +kernel

theorem witness_EndMarkCompletesTheEpoch :
    (cyc 9 []).alive = true ∧ (cyc 9 []).markOpen 4 = true ∧ (cyc 9 []).cyc.leg + 1 = (cyc 9 []).legPaces ∧ (cyc 9 []).role ≠ 2 ∧
    (cyc 8 []).markOpen 4 = true ∧ (cyc 8 []).cyc.leg + 1 ≠ (cyc 8 []).legPaces ∧
    (let s : State := { dev 3 2 [] with cyc := { leg := 9 }, red := { fastApplied := some 7, loaded := true } }
     s.alive = true ∧ s.markOpen 4 = true ∧ s.role = 2 ∧ s.red.fastApplied = some 7 ∧ s.red.loaded = true ∧ s.cyc.leg + 1 = s.legPaces) := by
  decide +kernel

theorem witness_LegBoundaryFlipsTheLegBank :
    (cyc 0 []).alive = true ∧ (cyc 0 []).legOpen 5 0 = true ∧ (cyc 0 []).freeze = none ∧
    (let s : State := { cyc 0 [] with freeze := some 1 }; s.alive = true ∧ s.legOpen 5 0 = true ∧ s.freeze ≠ none) := by decide +kernel

/-- At a pace of the leg with the route engines open. -/
def legRun (leg : Nat) (l : List (Nat × Nat)) : State := cyc leg ((List.range 16).map (fun n => (Reg.ENG_STATUS n, 0)) ++ l)

theorem witness_LegMarksCommit :
    ((legRun 0 []).alive = true ∧ (legRun 0 []).legWork = true ∧ (legRun 0 []).legOpen 11 0 = true ∧ (legRun 0 []).isOpen 9 = true ∧
      (legRun 0 []).role ≠ 2 ∧ (cyc 0 [(Reg.FAB_PORT_STATE, 0x7FFDFE)]).isOpen 9 = false) ∧
    ((legRun 2 []).legWork = true ∧ (legRun 2 []).legOpen 6 2 = true ∧ (legRun 2 []).groupOpen 0 = true) ∧
    (let s : State := { legRun 3 [] with fus := { (legRun 3 []).fus with posSet := true, hdgSet := true } }
     s.paceWork = true ∧ s.legOpen 7 3 = true ∧ s.groupOpen 3 = true ∧ s.cyc.stage = 0 ∧ s.plannerOpen = true ∧ s.fus.posSet = true ∧
      s.fus.hdgSet = true ∧ s.envDirs ≤ 31) ∧
    ((legRun 3 []).legOpen 8 3 = true ∧ (legRun 3 []).isOpen 6 = true ∧ (∀ k < 3, (legRun 3 []).lawValid k = true) ∧
      (legRun 3 [(Reg.FUS_DETOUR, 0)]).lawMode = 0 ∧ (legRun 3 [(Reg.FUS_DETOUR, 3)]).lawMode = 1 ∧
      (legRun 3 [(Reg.FUS_DETOUR, 4)]).lawMode = 2 ∧ (legRun 3 []).loop.ramp = none) := by decide +kernel

/-- With a graph of a group in the image and every route engine closed. -/
def closedGroup (leg k : Nat) : State :=
  let s := cyc leg ((List.range 16).map (fun n => (Reg.ENG_STATUS n, 1)))
  { s with ldr := { s.ldr with sections := [(1, toBE 2 1 ++ [0, 0, 0, 0, k, 0] ++ List.replicate 24 0 ++ toBE 4 32)] } }

theorem witness_LateMarksKeepWhatWasCommitted :
    (cyc 2 []).alive = true ∧ (cyc 2 []).legWork = true ∧ (cyc 2 []).legOpen 6 2 = true ∧ (cyc 3 []).paceWork = true ∧
    (cyc 3 []).legOpen 7 3 = true ∧ (cyc 3 []).legOpen 8 3 = true ∧ (cyc 3 []).get ⟨Reg.HLT_LEG_OVERRUN, 15, 0⟩ < 0xFFFF ∧
    (cyc 3 [(Reg.FAB_PORT_STATE, 0x7FFFBE)]).isOpen 6 = false ∧ (closedGroup 2 0).groupOpen 0 = false ∧ (closedGroup 3 3).groupOpen 3 = false := by
  decide +kernel

/-- The planner's units open at a pace of the last leg of the stage, with its state. -/
def planning (leg stage : Nat) (h : Hzn) : State :=
  let s := cyc leg [(Reg.ENG_STATUS 10, 0), (Reg.ENG_STATUS 11, 0)]
  { s with hzn := h, cyc := { s.cyc with stage := stage } }

theorem witness_PlannerStagesItsTrajectory :
    (let s := planning 0 0 { run := true, warm := some {} }
     s.alive = true ∧ s.hzn.warm = some {} ∧ s.hzn.run = true ∧ s.hzn.stopped = false ∧ s.isOpen 3 = true ∧ s.plannerOpen = true) ∧
    (let s := planning 8 ((run []).stageLegs - 1) { warm := some {} }
     DeadlineInstant s ∧ s.plannerOpen = true ∧ s.isOpen 3 = true ∧ s.hzn.warm = some {} ∧ s.hzn.best = none ∧ s.hzn.conv = false) ∧
    (let s := planning 8 ((run []).stageLegs - 1) { warm := some {}, best := some (1, ({}, 0)), conv := true }
     DeadlineInstant s ∧ s.hzn.best = some (1, ({}, 0)) ∧ s.hzn.conv = true) ∧
    (let s := planning 8 ((run []).stageLegs - 1) {}; DeadlineInstant s ∧ s.hzn.warm = none) ∧
    ((planning 0 0 {}).legOpen 10 0 = true ∧ (planning 0 0 {}).cyc.stage = 0 ∧ (planning 0 0 {}).paceWork = true) ∧
    HostTakes Reg.HZN_ID_CMD (run []) := by decide +kernel

theorem witness_CycleCommandsComplete :
    (let s := withAlc (run []) (fun a => { a with prob := some (prob0 (run [])) })
     s.alive = true ∧ s.isOpen 3 = true ∧ s.isOpen 4 = true ∧ s.alc.prob.isSome = true ∧ s.alc.res = none) ∧
    ((cyc 0 []).markOpen 12 = true ∧ (cyc 0 []).kerbOn 0 = true ∧ 62 ∈ lanes3.lanesOn) ∧
    (let s := legRun 3 [(Reg.FUS_DETOUR, 4)]
     s.paceWork = true ∧ s.legOpen 8 3 = true ∧ s.isOpen 6 = true ∧ (∀ k < 3, s.lawValid k = true) ∧ s.lawMode = 2 ∧ s.loop.ramp = none) ∧
    (let s := planning 0 0 { run := true, warm := some {} }
     s.hzn.warm.isSome = true ∧ s.hzn.run = true ∧ s.hzn.stopped = false ∧ s.isOpen 3 = true ∧ s.plannerOpen = true) ∧
    (let s := planning 8 ((run []).stageLegs - 1) { warm := some {} }
     DeadlineInstant s ∧ s.plannerOpen = true ∧ s.isOpen 3 = true ∧ s.hzn.warm.isSome = true) ∧
    (run []).hostClosed Reg.HZN_ID_CMD = false := by decide +kernel

/-! ### Witnesses: the host port -/

theorem witness_RefusedWritesChangeNothingElse :
    HostQuiet (run []) ∧
    (findRow Reg.PWR_CMD = some Rw.PWR_CMD ∧ Rw.PWR_CMD.priv = true ∧ (run []).hif.unprivRun < 15) ∧
    (findRow (Reg.LANE_CTL 63) = some Rw.LANE_CTL ∧ Rw.LANE_CTL.priv = false ∧
      (run [(Reg.FAB_PORT_STATE, 0x7FDFFE)]).hostClosed (Reg.LANE_CTL 63) = true) ∧
    (let s : State := { run [] with tg := { (run []).tg with entries := [(Reg.LANE_CTL 0, 0)] } }
     let s := s.put Fl.TG_STATUS_STATE 4
     s.hostClosed (Reg.LANE_CTL 63) = false ∧ Rw.LANE_CTL.acc = .rws ∧ s.tgLocks (Reg.LANE_CTL 63) = true) ∧
    (findRow Reg.LOOP_JOY_TMO = some Rw.LOOP_JOY_TMO ∧ (run []).hostClosed Reg.LOOP_JOY_TMO = false ∧
      Rw.LOOP_JOY_TMO.legalOk 99 = false) := by decide +kernel

theorem witness_UnprivilegedCommandsAreRefused :
    (run []).alive = true ∧ (run []).hif.unprivRun < 15 ∧ (run []).tg.armed = none ∧
    ({ run [] with hif := { (run []).hif with unprivRun := 14 } } : State).hif.unprivRun < 15 := by decide +kernel

theorem witness_RegisterWritesFollowTheirAccess :
    HostTakes Reg.HIF_IRQ_EN (run []) ∧ HostQuiet (run []) ∧
    findRow 0xFFFC = none ∧
    (findRow Reg.HIF_IRQ_EN = some Rw.HIF_IRQ_EN ∧ Rw.HIF_IRQ_EN.legalOk 0xFFFFFFFF = true ∧ Rw.HIF_IRQ_EN.acc = .rw ∧ Rw.HIF_IRQ_EN.w1c = 0 ∧
      Rw.HIF_IRQ_EN.base ∉ ownWrites ∧ Reg.LOOP_ORIGIN_CTL < Rw.HIF_IRQ_EN.base) ∧
    (HostTakes Reg.ALC_TOL (run []) ∧ findRow Reg.ALC_TOL = some Rw.ALC_TOL ∧ Rw.ALC_TOL.legalOk 0 = true ∧ Rw.ALC_TOL.acc = .rws ∧
      Rw.ALC_TOL.w1c = 0 ∧ (run []).tgLocks Reg.ALC_TOL = false ∧ Rw.ALC_TOL.base ∉ ownStages ∧
      State.isSection Rw.ALC_TOL.base = false) ∧
    (findRow Reg.SLV_FLAGS = some Rw.SLV_FLAGS ∧ Rw.SLV_FLAGS.acc = .w1c ∧ Rw.SLV_FLAGS.cls = .pace ∧
      Rw.SLV_FLAGS.legalOk 0x3F = true) ∧
    (findRow Reg.GLB_ID = some Rw.GLB_ID ∧ Rw.GLB_ID.acc = .ro ∧ Rw.GLB_ID.w1c = 0) := by decide +kernel

theorem witness_LowWordLatchesTheHighWord :
    HostQuiet (run []) ∧
    ∀ p ∈ [(Reg.TIM_PTP_GM_LO, Rw.TIM_PTP_GM_LO), (Reg.FB_WM_SEC_LO 5, Rw.FB_WM_SEC_LO), (Reg.RED_IMAGE_LO, Rw.RED_IMAGE_LO)],
      HostTakes p.1 (run []) ∧ findRow p.1 = some p.2 ∧ p.2.acc = .ros ∧ p.2.base ∉ ownReads ∧ State.isSection p.2.base = false ∧
      p.1 / 0x10000 < 0x20 ∧ (findRow (p.1 + 4)).any (fun q => q.acc == .ro) = true := by decide +kernel

theorem witness_SnapshotFreeze :
    (run []).alive = true ∧ (run []).tg.armed = none ∧ (run []).freeze = none ∧
    ({ run [] with freeze := some 100 } : State).inRun = true ∧
    (let s : State := { dev 2 0 [] with freeze := some 1 }; s.inRun = false ∧ 1 + s.frozenMs ≤ (s.elapse 1000000).ms) := by
  decide +kernel

/-- A frame of the host. -/
def frame (b : List Nat) : SpiIn := ⟨b.map (BitVec.ofNat 8), false, true, 0, true, 0⟩

theorem witness_FramesReadAndWriteWords :
    HostTakes Reg.HIF_IRQ_EN (run []) ∧ HostQuiet (run []) ∧ (frame []).rdy = true ∧ (run []).pins.hRdy = true ∧
    (findRow Reg.HIF_IRQ_EN = some Rw.HIF_IRQ_EN ∧ Rw.HIF_IRQ_EN.priv = false ∧ Reg.HIF_IRQ_EN % 4 = 0 ∧ Reg.HIF_IRQ_EN / 0x10000 < 0x20) ∧
    (bytesNat (frame (writeBytes Reg.HIF_IRQ_EN 0xA5000001)).mosi = writeBytes Reg.HIF_IRQ_EN 0xA5000001 ∧ Rw.HIF_IRQ_EN.acc = .rw ∧
      Rw.HIF_IRQ_EN.w1c = 0 ∧ Rw.HIF_IRQ_EN.legalOk 0xA5000001 = true ∧ Rw.HIF_IRQ_EN.base ∉ ownWrites) ∧
    (let f := frame (readBytes Reg.HIF_IRQ_EN ++ List.replicate 8 0)
     (bytesNat f.mosi).take 7 = readBytes Reg.HIF_IRQ_EN ∧ f.whole = true ∧ Rw.HIF_IRQ_EN.base ∉ ownReads ∧
       State.isSection Rw.HIF_IRQ_EN.base = false ∧ Rw.HIF_IRQ_EN.acc ≠ .ros) := by decide +kernel

theorem witness_BadFramesChangeNothingElse :
    (run []).alive = true ∧ HostQuiet (run []) ∧
    (let f := frame (readBytes Reg.GLB_ID); 4 ≤ f.mosi.length ∧ ({ f with rdy := false } : SpiIn).rdy = false ∧
      frameHeadOk (bytesNat f.mosi) 2 = false) ∧
    (let f := frame [0x40, 0, 0, 4, 0, 0, 0x64]; 4 ≤ f.mosi.length ∧ f.rdy = true ∧ (run []).pins.hRdy = true ∧
      frameHeadOk (bytesNat f.mosi) 1 = true ∧ 7 ≤ (bytesNat f.mosi).length ∧
      beAt (bytesNat f.mosi) 5 2 ≠ crc16 ((bytesNat f.mosi).take 5)) := by decide +kernel

/-! ### Witnesses: the recorder -/

/-- A record of ours. -/
def rec0 : LogRecord := ⟨7, 0, 0, 5, 0, 1, 0, 0, 9, 0⟩

/-- With a recorder of our own. -/
def withLog (power : Nat) (l : Recorder) : State := { dev power 0 [] with log := l }

theorem witness_EventsBecomeRecords :
    (UnitTakes 18 (run []) ∧ (run []).log.full = false ∧ (run []).is Fl.LOG_STATUS_CLEARING = false ∧
      (run []).log.main.length + 1 < 16384) ∧ ¬ repeats (run []) 255 65535 255 4294967295 ∧
    (withLog 2 { main := List.replicate 16383 rec0 }).log.main.length + 1 = 16384 ∧
    (withLog 2 { full := true }).log.full = true ∧
    (let l : Recorder := { main := List.replicate 63 rec0 }; l.main.length + 1 = 64 * (l.seals.length + 1)) ∧
    (let s := withLog 2 { main := [rec0], tailCount := 256, last := [(7, ⟨rec0, some 0, 0, 0⟩)] }
     let x : LastRec := ⟨rec0, some 0, 0, 0⟩
     aGet s.log.last 7 = some x ∧ x.entry.source = 7 ∧ s.log.tailCount ≤ x.tailAt + 256 ∧ s.log.main.length / 64 ≤ 0 / 64) ∧
    (let s := withLog 2 { main := List.replicate 64 rec0, last := [(7, ⟨rec0, some 63, 63, 63⟩)] }
     ¬ (s.log.main.length / 64 ≤ 63 / 64) ∧ s.log.full = false ∧ s.log.main.length + 1 < 16384) := by
  refine ⟨by decide +kernel, ?_, ?_, by decide +kernel, by decide +kernel, by decide +kernel, by decide +kernel⟩
  · rintro ⟨x, h, -⟩
    have : aGet (run []).log.last 255 = none := by decide +kernel
    rw [this] at h
    exact absurd h (by simp)
  · show (List.replicate 16383 rec0).length + 1 = 16384
    rw [List.length_replicate]

theorem witness_MarkClearAndReadout :
    (HostTakes Reg.LOG_CMD (run []) ∧ aGet (run []).log.last 21 = none ∧ (run []).power ≠ 2) ∧
    (HostTakes Reg.LOG_CMD (dev 2 0 []) ∧ (dev 2 0 []).power = 2 ∧ (dev 2 0 []).is Fl.LOG_STATUS_CLEARING = false) ∧
    (let s := withLog 2 { clearPending := true, clearCount := 2 ^ 32 - 1 }
     s.alive = true ∧ s.log.clearPending = true ∧ s.log.main = [] ∧ s.log.full = false ∧ s.log.clearCount < 2 ^ 32) ∧
    HostTakes Reg.LOG_RD_INDEX (run []) ∧ HostTakes (Reg.LOG_RD_DATA 7) (run []) := by decide +kernel

/-- A verification that runs over the seals given. -/
def verifying (v : List Nat) : State :=
  let s := dev 2 0 []
  ({ s with log := { s.log with seals := v }, sec := { s.sec with rsk := some [] } } : State).flag Fl.LOG_VERIFY_BUSY true

/-- The seal of an empty first block. -/
def seal1 : Nat := beNat (sealBlock [] {} 1 (sealPrev [] {} 1))

theorem witness_VerifyFindsTheFirstBadBlock :
    (HostTakes Reg.LOG_CMD (run []) ∧ (run []).sec.rsk = none) ∧
    (let s := verifying [seal1]
     s.alive = true ∧ s.is Fl.LOG_VERIFY_BUSY = true ∧ s.sec.rsk = some [] ∧ 1 ≤ s.log.firstKeyed ∧ s.log.seals.length ≤ 256) ∧
    sealOk [] (verifying [seal1]).log 1 ∧ ¬ sealOk [] (verifying [0]).log 1 ∧
    (∀ c, (verifying [0]).log.firstKeyed ≤ c → c < 1 → sealOk [] (verifying [0]).log c) := by
  refine ⟨by decide +kernel, by decide +kernel, ?_, by unfold sealOk; decide +kernel, fun c h k => ?_⟩
  · unfold sealOk; decide +kernel
  · have h : 1 ≤ c := h
    omega

/-! ### Witnesses: the Tollgate, the loader -/

/-- With a staging bank and a TG_STATUS.STATE of our own. -/
def gate (power state : Nat) (g : Gate) (l : List (Nat × Nat)) : State :=
  ({ dev power 3 l with tg := g } : State).put Fl.TG_STATUS_STATE state

theorem witness_StagingBank :
    ((gate 2 0 {} []).alive = true ∧ (gate 2 0 {} []).isOpen 19 = true ∧ (gate 2 0 {} []).get Fl.TG_STATUS_STATE = 0 ∧
      (gate 2 0 {} []).tg.entries.length < 4096) ∧ NoCommitDue (gate 2 0 {} []) ∧
    4096 ≤ (gate 2 1 { entries := List.replicate 4096 (0, 0) } []).tg.entries.length ∧
    (gate 2 2 {} []).get Fl.TG_STATUS_STATE = 2 ∧ (gate 3 4 { armed := some (1, 9) } []).get Fl.TG_STATUS_STATE = 4 ∧
    NoCommitDue (gate 3 4 { armed := some (1, 9) } []) := by
  refine ⟨by decide +kernel, fun m h => ?_, ?_, by decide +kernel, by decide +kernel, fun m h => ?_⟩
  · exact absurd (show (none : Option (Nat × Nat)) = some (0, m) from h) (by simp)
  · show 4096 ≤ (List.replicate 4096 ((0 : Nat), (0 : Word))).length
    exact Nat.le_of_eq List.length_replicate.symm
  · exact absurd (show some (1, 9) = some (0, m) from h) (by simp)

theorem witness_ChecksEndWithAVerdict :
    (UnitTakes 19 (gate 2 2 {} []) ∧ (gate 2 2 {} []).get Fl.TG_STATUS_STATE = 2 ∧ (gate 2 2 {} []).is Fl.TG_STATUS_OVERFLOW = false ∧
      (gate 2 2 {} []).tg.entries = []) ∧
    ((gate 2 2 {} []).flag Fl.TG_STATUS_OVERFLOW true).is Fl.TG_STATUS_OVERFLOW = true ∧
    (let s := gate 2 2 { entries := [(Reg.GLB_ID, 0)] } []
     s.get Fl.TG_STATUS_STATE = 2 ∧ s.tg.entries.head? = some (Reg.GLB_ID, 0) ∧ stageable s (Reg.GLB_ID, 0) = false) := by
  decide +kernel

theorem witness_CommitsAreArmedForABoundary :
    (let s := gate 2 3 {} []; s.alive = true ∧ s.isOpen 19 = true ∧ s.get Fl.TG_STATUS_STATE = 3 ∧ s.inRun = false) ∧
    NoCommitDue (gate 2 3 {} []) ∧
    (let s := gate 3 3 {} [(Reg.TG_WHEN_PACE, 10)]
     let w := s.rd Reg.TG_WHEN_PACE
     let d := (w + 2 ^ 32 - s.cyc.pace % 2 ^ 32) % 2 ^ 32
     s.inRun = true ∧ w ≠ 0 ∧ 2 ≤ d ∧ d ≤ 2 ^ 20 ∧ (s.cyc.leg + d) % s.legPaces = 0) ∧
    (let s := gate 3 3 {} [(Reg.TG_WHEN_PACE, 2 ^ 20)]; (s.rd Reg.TG_WHEN_PACE + 2 ^ 32 - s.cyc.pace % 2 ^ 32) % 2 ^ 32 = 2 ^ 20) ∧
    (let s := gate 3 3 {} [(Reg.TG_WHEN_PACE, 1)]
     s.rd Reg.TG_WHEN_PACE ≠ 0 ∧ (s.rd Reg.TG_WHEN_PACE + 2 ^ 32 - s.cyc.pace % 2 ^ 32) % 2 ^ 32 < 2) ∧
    (gate 3 4 { armed := some (1, 9) } []).get Fl.TG_STATUS_STATE = 4 ∧ (gate 3 5 {} []).get Fl.TG_STATUS_STATE = 5 := by
  refine ⟨by decide +kernel, fun m h => ?_, by decide +kernel, by decide +kernel, by decide +kernel, by decide +kernel, by decide +kernel⟩
  exact absurd (show (none : Option (Nat × Nat)) = some (0, m) from h) (by simp)

theorem witness_CommitsApplyAllOrNothing :
    (let s := gate 2 4 { entries := [(Reg.ALC_TOL, 0), (Reg.LANE_CTL 0, 0)], armed := some (0, 1) } [(Reg.FAB_PORT_STATE, 0x7FDFFE)]
     s.alive = true ∧ s.tg.armed = some (0, 1) ∧ 1 * 1000000 ≤ (s.elapse 1000000).clk ∧ s.freeze = none ∧ s.tg.entries.length ≤ 4096 ∧
      s.uidOpen (tgUnit s (s.tg.entries.getD 1 (0, 0)).1) = false ∧ s.uidOpen (tgUnit s (s.tg.entries.getD 0 (0, 0)).1) = true) ∧
    (let s := gate 2 4 { entries := [(Reg.ALC_TOL, 7)], armed := some (0, 1) } []
     s.tg.entries = [(Reg.ALC_TOL, 7)] ∧ Reg.ALC_TOL < 2 ^ 31 ∧ findRow Reg.ALC_TOL = some Rw.ALC_TOL ∧ Rw.ALC_TOL.acc = .rws ∧
      s.isOpen (unitOfAddr Reg.ALC_TOL) = true ∧ Rw.ALC_TOL.base ∉ ownStages ∧
      Rw.ALC_TOL.base ∉ ownCommits ∧ State.isSection Rw.ALC_TOL.base = false) := by decide +kernel

/-- With a loader's command running. -/
def nvw (cmd : Option (Nat × Nat)) (buf : List (Nat × Byte)) : State :=
  { dev 2 0 [] with ldr := { (dev 2 0 []).ldr with cmd := cmd, progBuf := buf } }

theorem witness_NvwCommands :
    ((dev 2 0 []).alive = true ∧ (dev 2 0 []).isOpen 19 = true ∧ (dev 2 0 []).is Fl.TG_NVW_STATUS_BUSY = false ∧
      (dev 2 0 []).nvwAddr 0 / quarterOf (dev 2 0 []).ldr = 0) ∧
    (let s := dev 2 0 [(Reg.TG_NVW_PAGE, 256)]
     s.is Fl.TG_NVW_STATUS_BUSY = false ∧ s.nvwAddr 0 / quarterOf s.ldr ≠ 0 ∧ s.nvwAddr 0 / quarterOf s.ldr ≠ s.get Fl.TG_BOOT_SLOT) ∧
    (nvw (some (2, 65536)) []).ldr.cmd = some (2, 65536) ∧ (nvw (some (2, 65536)) []).pwr.quietWait = false ∧
    (let s := nvw (some (1, 256)) [(255, 0x5A)]
     s.ldr.cmd = some (1, 256) ∧ aGet s.ldr.progBuf 255 = some 0x5A ∧ norByte s.ldr (256 + 255) = 0xFF) ∧
    (nvw (some (3, 2)) []).ldr.cmd = some (3, 2) := by decide +kernel

/-- What a boot's environment supplies. -/
def boot0 : BootIn := ⟨true, 25, 0xEF4019, 0, 0, []⟩

/-- BOOT with a recorder seal key and a blank NOR. -/
def blank : State := { dev 1 0 [] with sec := { rsk := some [] } }

theorem logEv_ldr (s : State) (ev : Ev) (a d : Nat) : (s.logEv ev a d).ldr = s.ldr :=
  (Differs.logEv (ps := [.log]) (Differs.refl s) (by simp) (fun _ h => h)).1 .ldr (by simp)

theorem newRecord_ldr (s : State) (ev : Ev) (a d f : Nat) : (s.newRecord ev a d f).ldr = s.ldr :=
  (Differs.newRecord (ps := [.log]) (Differs.refl s) (by simp) (fun _ h => h)).1 .ldr (by simp)

theorem logPublish_ldr (s : State) : s.logPublish.ldr = s.ldr :=
  (Differs.logPublish (ps := [.log]) (Differs.refl s) (fun _ h => h)).1 .ldr (by simp)

theorem sealLog_ldr (s : State) : s.sealLog.ldr = s.ldr :=
  (Differs.sealLog (ps := [.log]) (fs := []) (Differs.refl s) (by simp)).1 .ldr (by simp)

theorem wr_ldr (s : State) (a v : Nat) : (s.wr a v).ldr = s.ldr := rfl
theorem put_ldr (s : State) (f : Fld) (v : Nat) : (s.put f v).ldr = s.ldr := rfl
theorem flag_ldr (s : State) (f : Fld) (v : Bool) : (s.flag f v).ldr = s.ldr := rfl

theorem each_ldr {α : Type} (l : List α) (f : State → α → State) (h : ∀ s x, (f s x).ldr = s.ldr) (s : State) :
    (s.each l f).ldr = s.ldr := by
  induction l generalizing s with
  | nil => rfl
  | cons x l ih => exact (ih (f s x)).trans (h s x)

theorem when_ldr (s : State) (c : Bool) (f : State → State) (h : ∀ s, (f s).ldr = s.ldr) : (s.when c f).ldr = s.ldr := by
  unfold State.when
  split
  · exact h s
  · rfl

theorem eraseAllDone_ldr (s : State) : s.eraseAllDone.ldr = s.ldr := by
  unfold State.eraseAllDone
  split
  · rfl
  · dsimp only [State.random, State.draw]
    rw [logEv_ldr, when_ldr _ _ _ (fun _ => flag_ldr _ _ _),
      each_ldr _ _ (fun _ _ => by rw [wr_ldr, wr_ldr]), flag_ldr, flag_ldr, flag_ldr, flag_ldr]

theorem firstKey_ldr (s : State) : s.firstKey.ldr = s.ldr := by
  unfold State.firstKey
  split
  · rw [logPublish_ldr, sealLog_ldr]
  · dsimp only [State.random, State.draw]
    rw [logPublish_ldr, sealLog_ldr, flag_ldr]

theorem cleared_ldr (s : State) : s.cleared.ldr = s.ldr := by
  unfold State.cleared
  split
  · rfl
  · dsimp only
    rw [newRecord_ldr, flag_ldr]

theorem bootHeaders_ldr (s : State) : s.bootHeaders.ldr = s.ldr := by
  unfold State.bootHeaders
  apply each_ldr
  intro s k
  split
  · exact wr_ldr _ _ _
  · unfold State.slotRecord
    rw [put_ldr, flag_ldr]

/-- A boot looks at the NOR as it finds it, with the density that the part answers. -/
theorem bootHead_ldr (dt : Nat) (b : BootIn) (s : State) : (bootHead dt b s).ldr = { s.ldr with density := b.density } := by
  have h : (bootStart dt s).ldr = s.ldr := by
    unfold bootStart
    rw [cleared_ldr, firstKey_ldr, eraseAllDone_ldr]
    unfold State.otpRead
    dsimp only
    rw [each_ldr _ _ (fun _ _ => wr_ldr _ _ _)]
    unfold State.elapse
    split <;> rfl
  unfold bootHead
  dsimp only
  rw [bootHeaders_ldr, put_ldr, put_ldr, h]

theorem witness_BootTakesTheFirstGoodCandidate :
    (run []).power ≠ 1 ∧
    (blank.alive = true ∧ blank.power = 1 ∧ blank.is Fl.TG_BOOT_FAILED = false ∧ blank.role ≠ 4 ∧ blank.hlt.mapBad = false ∧
      blank.is Fl.SEC_STATUS_ERASE_PENDING = false ∧ blank.sec.tamperLatch = false ∧ blank.sec.rsk = some []) ∧
    (∀ e ∈ (bootHead 0 boot0 blank).bootTry (bootOrder (bootHead 0 boot0 blank).ldr), e.2 ≠ 0) ∧
    (boot0.sfdpOk = true ∧ 25 ≤ boot0.density ∧ boot0.density ≤ 28) ∧ ({ boot0 with density := 29 } : BootIn).density = 29 := by
  have h : bootOrder (bootHead 0 boot0 blank).ldr = [] := by rw [bootHead_ldr]; decide +kernel
  refine ⟨by decide +kernel, by decide +kernel, ?_, by decide +kernel, rfl⟩
  rw [h]
  intro e he
  cases he

/-! ### Witnesses: the security unit -/

theorem witness_TriggersActByTheirGrade :
    (run []).alive = true ∧ (run []).isOpen 20 = true ∧
    (let s := dev 5 0 [(Reg.FAB_PORT_STATE, 0x6FFFFE)]; s.isOpen 20 = false ∧ s.power ≠ 1) ∧
    ({ run [] with hif := { (run []).hif with unprivRun := 15 } } : State).hif.unprivRun = 15 ∧ held.alive = false := by decide +kernel

/-- READY, with a security unit of our own. -/
def secure (x : Sec) : State := { dev 2 0 [] with sec := x }

theorem witness_SecurityCommandsAreRefused :
    (HostTakes Reg.SEC_CMD (run []) ∧ (run []).is Fl.SEC_RESULT_BUSY = false ∧ (run []).power ≠ 2 ∧ (run []).sec.kek = none ∧
      aGet (run []).sec.skeys 3 = none ∧ (run []).sec.dik = none) ∧
    ((run []).flag Fl.SEC_RESULT_BUSY true).is Fl.SEC_RESULT_BUSY = true ∧
    (let s := secure { kek := some [], dik := some 1, skeys := [(3, [])] }
     HostTakes Reg.SEC_CMD s ∧ s.power = 2 ∧ s.sec.kek.isSome = true ∧ s.sec.dik.isSome = true ∧ (aGet s.sec.skeys 3).isSome = true) := by
  decide +kernel

/-- A key of zeros, and the tag of 32 zeros under it. -/
def kek0 : List Nat := List.replicate 32 0
def tag0 : List Nat := [103, 248, 62, 174, 175, 153, 78, 190, 97, 246, 11, 93, 64, 170, 58, 174]

/-- A session-key buffer of zeros with that tag, and with another. -/
def skeyBuf (x : Nat) : List Nat :=
  bufBytes [(11, BitVec.ofNat 32 (0x67F83EAE + x)), (12, 0xAF994EBE), (13, 0x61F60B5D), (14, 0x40AA3AAE)] 15

theorem gcm_tag0 : gcmTag kek0 (List.replicate 12 0) [] (List.replicate 32 0) = tag0 := by decide +kernel

theorem witness_SecurityCommandsAct :
    (HostTakes Reg.SEC_CMD (dev 2 0 []) ∧ (dev 2 0 []).is Fl.SEC_RESULT_BUSY = false ∧ (dev 2 0 []).power = 2 ∧
      (dev 2 0 []).sec.kek = none ∧ (dev 2 0 []).sec.dik = none) ∧
    gcmTag kek0 ((skeyBuf 0).take 12) [] (((skeyBuf 0).drop 12).take 32) = (skeyBuf 0).drop 44 ∧
    gcmTag kek0 ((skeyBuf 1).take 12) [] (((skeyBuf 1).drop 12).take 32) ≠ (skeyBuf 1).drop 44 ∧
    (let s := secure { kek := some kek0, dik := some 1, skeys := [(3, kek0)] }
     s.sec.kek = some kek0 ∧ aGet s.sec.skeys 3 = some kek0 ∧ s.sec.dik = some 1) := by
  have h : ∀ x < 2, (skeyBuf x).take 12 = List.replicate 12 0 ∧ ((skeyBuf x).drop 12).take 32 = List.replicate 32 0 := by
    decide +kernel
  refine ⟨by decide +kernel, ?_, ?_, by decide +kernel⟩
  · rw [(h 0 (by decide)).1, (h 0 (by decide)).2, gcm_tag0]
    decide +kernel
  · rw [(h 1 (by decide)).1, (h 1 (by decide)).2, gcm_tag0]
    decide +kernel

theorem witness_ErasesSignaturesAndAlarmsEnd :
    ((secure { hostErase := true }).flag Fl.SEC_STATUS_ERASE_PENDING true).is Fl.SEC_STATUS_ERASE_PENDING = true ∧
    (secure { attest := some (1, 2) }).sec.attest = some (1, 2) ∧ (secure { exportQ := [1] }).sec.exportQ = [1] ∧
    (secure {}).isOpen 20 = true ∧ (secure {}).hif.unprivRun < 15 ∧
    (let s := { dev 2 0 [(Reg.SEC_STATUS, 0x7F0000), (Reg.KRB_STATUS, 0xFFFFFFFF)] with sec := { tamperUntil := 1 } }
     (s.elapse 0).causePresent 0 = true ∧ (s.elapse 0).causePresent 6 = false ∧ (s.rd Reg.SEC_STATUS).testBit 22 = true) := by
  decide +kernel

theorem witness_TheTapOpensOnlyToASignature :
    (run []).is Fl.SEC_JTAG_CTL_PERMIT = false ∧
    (let s := (run []).flag Fl.SEC_JTAG_CTL_PERMIT true; s.alive = true ∧ s.is Fl.SEC_JTAG_CTL_PERMIT = true ∧ s.isOpen 20 = true) := by
  decide +kernel

/-! ### Witnesses: the Kerb -/

/-- With a Kerb of our own. -/
def kerb (l : List (Nat × Nat)) (k : Krb) : State := { run l with krb := k }

theorem witness_KerbChecksJudgeAndTrip :
    ((cyc 0 []).alive = true ∧ (cyc 0 []).markOpen 12 = true ∧ (cyc 0 []).kerbOn 0 = true ∧ (cyc 0 []).kerbOn 1 = true) ∧
    (∀ tech < 2, ∀ n, 0 ∉ ((cyc 0 []).kl tech n).viol) := by
  refine ⟨by decide +kernel, fun tech h n => ?_⟩
  have e : (cyc 0 []).kl tech n = {} := by
    have p : (cyc 0 []).krb.p = [] := by decide +kernel
    have l : (cyc 0 []).krb.l = [] := by decide +kernel
    unfold State.kl
    rw [p, l]
    split <;> rfl
  rw [e]
  decide

theorem witness_SealReadingsDecideTheSealState :
    (UnitTakes 15 (run []) ∧ (run []).pwr.trans = none ∧ (run []).krb.changed = false ∧ (run []).krb.taken = false ∧
      (run []).get ⟨Reg.KRB_SEAL_UNSTABLE, 15, 0⟩ < 0xFFFF ∧ (run []).inRun = true ∧ (dev 2 0 []).inRun = false) ∧
    (kerb [] { taken := true, sealBad := 2 }).krb.taken = true ∧ 2 ≤ (kerb [] { taken := true, sealBad := 2 }).krb.sealBad ∧
    (0x12340101 ^^^ 0x12350101) &&& 0xFFFFFF02 ≠ 0 ∧ 0x12340101 ^^^ 0x12340100 = 1 ∧
    (kerb [(Reg.KRB_SEAL, 0x12340101)] { taken := true }).rd Reg.KRB_SEAL = 0x12340101 ∧
    ((run []).put Fl.LOOP_TEST_STATUS_STATE 1).get Fl.LOOP_TEST_STATUS_STATE = 1 := by decide +kernel

/-- Lane 63 in use with a safety binding to group 3, tripped or violating. -/
def laneAt (viol trip : Nat) : State :=
  (kerb [] { p := [(63, { viol := if viol = 0 then [] else [viol], trip := trip })] }).put (Fl.LANE_SAFE_SO_GROUP 63) 3
    |>.flag (Fl.LANE_BIND_ENABLED 63) true

theorem witness_TripsAreReleasedOnlyByAcknowledgement :
    (HostTakes Reg.KRB_ACK (laneAt 0 1) ∧ 63 ∈ (laneAt 0 1).ackLanes 8 none ∧ ((laneAt 0 1).kl 0 63).trip ≠ 0 ∧
      (∀ m ∈ (laneAt 0 1).ackLanes 8 none, ((laneAt 0 1).kl 0 m).viol = [] ∧ ((laneAt 0 1).kl 1 m).viol = [])) ∧
    (63 ∈ (laneAt 1 1).ackLanes 8 none ∧ ((laneAt 1 1).kl 0 63).viol ≠ []) ∧
    (let s := (laneAt 0 1).put (Fl.LANE_SAFE_SO_GROUP 63) 15; 63 ∈ s.ackLanes 0 (some 63) ∧ (s.kl 0 63).trip ≠ 0) := by
  decide +kernel

/-- Channel 3 with its switches, its readbacks standing at a level. -/
def channel (on lvl : Bool) : SoCh :=
  let r : RbLevel := ⟨3, lvl, lvl, 0⟩
  let z : RbLevel := ⟨3, false, false, 0⟩
  { hs := { on := on }, ls := { on := on }, hP := r, hL := r, lP := z, lL := z }

theorem witness_ReadbacksFindFaultyChannels :
    (let s := kerb [] { so := [(3, channel true true)] }
     s.alive = true ∧ s.kerbOn 0 = true ∧ s.kerbOn 1 = true ∧ s.soFaultOf 3 = 0 ∧ (s.soCh 3).hP = ⟨3, true, true, 0⟩ ∧
      (s.soCh 3).hL = ⟨3, true, true, 0⟩ ∧ (s.soCh 3).lP = ⟨3, false, false, 0⟩ ∧ (s.soCh 3).lL = ⟨3, false, false, 0⟩ ∧
      (s.soCh 3).hs.test = false ∧ (s.soCh 3).ls.test = false ∧ (s.soCh 3).changedAt + 50000 ≤ s.now + 50000 ∧
      State.rbCode true true true false = 0) ∧
    (let s := kerb [] { so := [(3, channel false true)] }; (s.soCh 3).hs.on = false ∧ State.rbCode false false true false ≠ 0) ∧
    (let s := (kerb [] { so := [(3, channel false true)] }).put (Fl.KRB_SO_STATUS_FAULT 3) 2
     HostTakes Reg.KRB_ACK s ∧ s.soFaultOf 3 ≠ 0 ∧ (s.soCh 3).hP.stands = true) ∧
    (let s := (kerb [] {}).put (Fl.KRB_SO_STATUS_FAULT 3) 2; HostTakes Reg.KRB_ACK s ∧ s.soFaultOf 3 ≠ 0 ∧ (s.soCh 3).hP.stands = false ∧
      (s.soCh 3).lP.stands = false ∧ (s.soCh 3).hL.stands = false ∧ (s.soCh 3).lL.stands = false) := by decide +kernel

/-- Channel 3 with a switch on or under test, with a level that stood since a time. -/
def testing (test : Bool) (missed since : Nat) : State :=
  kerb [] { so := [(3, { hs := { on := !test, test := test, missed := missed }, ls := { on := true }, hP := { since := since } })] }

theorem witness_TestPulsesProveTheSwitches :
    (let s := testing false 7 0
     s.alive = true ∧ s.soFaultOf 3 = 0 ∧ s.kerbOn 0 = true ∧ (soSw (s.soCh 3) 0).on = true ∧ (soSw (s.soCh 3) 0).test = false ∧
      (soSw (s.soCh 3) 1).test = false ∧ (soSw (s.soCh 3) 0).missed < 8 ∧ testDue (soSw (s.soCh 3) 0) s.now = true) ∧
    8 ≤ (soSw ((testing false 8 0).soCh 3) 0).missed ∧ testDue { slot := some 0 } 1000000000 = true ∧ testDue { due := some 5 } 5 = true ∧
    (let s := testing true 0 0
     (soSw (s.soCh 3) 0).test = true ∧ (soSw (s.soCh 3) 1).test = false ∧ (soSw (s.soCh 3) 1).want = false ∧
      (s.soCh 3).hP.stands = false ∧ (s.soCh 3).hP.since ≤ (s.soCh 3).changedAt + s.testWidth) ∧
    (let s := testing true 0 100000000
     (soSw (s.soCh 3) 0).test = true ∧ ¬ (s.soCh 3).hP.since ≤ (s.soCh 3).changedAt + s.testWidth ∧
      (s.soCh 3).changedAt + s.testWidth ≤ s.now + 100000000) := by decide +kernel

theorem witness_ConnectionsTimeOutDecayAndClear :
    (let s := (kerb [] { conn := [(127, { age := 300 })] }).put (Fl.KRB_CONN_STATUS_STATE 127) 2
     s.alive = true ∧ s.kerbOn 1 = true ∧ s.get (Fl.KRB_CONN_STATUS_STATE 127) = 2 ∧ (s.connImage 127).2.1 ≤ (s.kconn 127).age ∧
      s.get ⟨Reg.KRB_CONN_TIMEOUTS 127, 15, 0⟩ < 0xFFFF ∧ (s.kconn 127).fallAt + 900000000000 ≤ s.now + 900000000000) ∧
    (let s := (kerb [] { conn := [(0, { age := 300, last := some 1 })] }).put (Fl.KRB_CONN_STATUS_STATE 0) 1
     s.kerbOn 0 = true ∧ s.get (Fl.KRB_CONN_STATUS_STATE 0) = 1 ∧ (s.kconn 0).last.isSome = true ∧ (s.connImage 0).2.1 ≤ (s.kconn 0).age) ∧
    (HostTakes Reg.KRB_CONN_CLR (run []) ∧ (0x17F : Word).toNat % 256 = 127 ∧ (0x17F : Word).toNat.testBit 8 = true) ∧
    ((run []).put (Fl.KRB_CONN_STATUS_STATE 127) 3).get (Fl.KRB_CONN_STATUS_STATE 127) = 3 := by decide +kernel

/-! ### Witnesses: feedback and lanes -/

/-- Channel 5 in a mode, at a position, with the lines as they stood. -/
def fbAt (mode pos lines : Nat) : State :=
  let s := (run []).put (Fl.FB_CFG_MODE 5) mode
  { s with fbk := { s.fbk with ch := [(5, { main := { lines := lines, pos := pos } })] } }

/-- The lines that the filter of channel 5 lets through, each level having stood for 256 samples. -/
def seen (s : State) (a b c : Bool) : Nat := fbSeen s 5 (s.fbCh 5).main.lines a b c 256 256 256

theorem witness_FilteredChangesCount :
    (let s := fbAt 3 0x7FFFFFFF 0
     s.alive = true ∧ s.isOpen 12 = true ∧ fbTable (s.get (Fl.FB_CFG_MODE 5)) (s.fbCh 5).main.lines (seen s true false false) = 1 ∧
      (s.fbCh 5).main.pos = 0x7FFFFFFF) ∧
    (let s := fbAt 3 0x80000000 0
     fbTable 3 (s.fbCh 5).main.lines (seen s false true false) = -1 ∧ (s.fbCh 5).main.pos = 0x80000000) ∧
    (let s := fbAt 3 0 0
     fbTable 3 0 (seen s false false true) = 0 ∧ fbIllegal 3 0 (seen s true true false) = true ∧ fbIllegal 3 0 (seen s true false false) = false ∧
      s.get ⟨Reg.FB_ILLEGAL 5, 15, 0⟩ < 0xFFFF) ∧
    (let s := fbAt 1 0 0
     s.get (Fl.FB_CFG_MODE 5) = 1 ∧ rises 0 0 (seen s true true false) = true ∧ (0).testBit 1 ≠ (seen s true true false).testBit 1) ∧
    (let s := (fbAt 3 0 0).flag (Fl.FB_CFG_INDEX_EN 5) true
     s.get (Fl.FB_CFG_MODE 5) = 3 ∧ s.is (Fl.FB_CFG_INDEX_EN 5) = true ∧ rises 2 0 (seen s false false true) = true) ∧
    held.alive = false ∧ (run [(Reg.FAB_PORT_STATE, 0x7FEFFE)]).isOpen 12 = false := by decide +kernel

/-- With the compare of channel 5 armed at a value, and divider 1 on it from a source. -/
def armed (arm c src : Nat) : State :=
  (((fbAt 3 0 0).put (Fl.FB_CMP_STATUS_ARM 5) arm).wr (Reg.FB_CMP 5) c).put (Fl.FBK_PDIV_CFG_SRC 1) src |>.put (Fl.FBK_PDIV_CFG_CHAN 1) 5

theorem witness_ComparesFireOnce :
    (let s := armed 1 1 2
     s.alive = true ∧ s.isOpen 12 = true ∧ fbTable (s.get (Fl.FB_CFG_MODE 5)) (s.fbCh 5).main.lines (seen s true false false) = 1) ∧
    compareAt (armed 1 1 2) 5 1 ∧ compareAt (armed 2 0xFFFFFFFF 2) 5 (-1) ∧ compareAt (armed 3 9 2) 5 1 ∧ ¬ compareAt (armed 0 1 2) 5 1 ∧
    ((armed 1 1 2).flag (Fl.FB_CMP_CTL_AUTO 5) true).is (Fl.FB_CMP_CTL_AUTO 5) = true ∧ (armed 1 1 2).is (Fl.FB_CMP_CTL_AUTO 5) = false ∧
    ((armed 1 1 2).flag (Fl.FB_CMP_CTL_IRQ 5) true).is (Fl.FB_CMP_CTL_IRQ 5) = true ∧
    (armed 1 1 2).get ⟨Reg.FB_CMP_FIRES 5, 15, 0⟩ < 0xFFFF ∧ (armed 1 1 2).get (Fl.FBK_PDIV_CFG_SRC 1) = 2 ∧
    (armed 1 1 1).get (Fl.FBK_PDIV_CFG_SRC 1) = 1 ∧ (armed 1 1 1).get (Fl.FBK_PDIV_CFG_CHAN 1) = 5 ∧
    (aGetD (armed 1 1 1).fbk.acc 1 0 + 1).natAbs = (armed 1 1 1).get (Fl.FBK_PDIV_CFG_DIV_M1 1) + 1 ∧
    (aGetD (armed 1 1 1).fbk.acc 1 0 + 1).natAbs ≠ ((armed 1 1 1).put (Fl.FBK_PDIV_CFG_DIV_M1 1) 9).get (Fl.FBK_PDIV_CFG_DIV_M1 1) + 1 := by
  unfold compareAt
  decide +kernel

theorem witness_ComparesAreArmed :
    (HostTakes (Reg.FB_CMP 5) (run []) ∧ HostTakes (Reg.FB_CMP_CTL 5) (run []) ∧ (run []).is (Fl.FB_CMP_CTL_EN 5) = false) ∧
    ((run []).flag (Fl.FB_CMP_CTL_EN 5) true).is (Fl.FB_CMP_CTL_EN 5) = true ∧
    (let s : State := { run [] with fbk := { pulseAt := [(1, 0)] } }
     UnitTakes 12 s ∧ aGet s.fbk.pulseAt 1 = some 0 ∧ 0 + 1000 ≤ s.now + 1000 ∧ s.now + 999 < 0 + 1000) := by decide +kernel

theorem witness_LaneCommandsAreStaged :
    (HostStages (Reg.LANE_CTL 63) (run []) ∧ (run []).role ≠ 2) ∧ (HostStages (Reg.LANE_CTL 63) (dev 3 2 []) ∧ (dev 3 2 []).role = 2) ∧
    (let s := ((run []).put (Fl.LANE_STATE_STATE 63) 1).put (Fl.LANE_BIND_FB_AZ 63) 5
     HostStages (Reg.LANE_AZ_SET 63) s ∧ s.laneState 63 = 1 ∧ s.fbAz 63 < 6) ∧ (run []).laneState 63 ≠ 1 := by decide +kernel

/-- Lane 63 in a state, with EN as given, judged to be reopened or to have a CLEAR. -/
def lane (role st : Nat) (en clear reopened : Bool) : State :=
  let s := ((dev 3 role []).put (Fl.LANE_STATE_STATE 63) st).flag (Fl.LANE_CTL_EN 63) en |>.put (Fl.LANE_BIND_FB_AZ 63) 7
    |>.put (Fl.LANE_BIND_FB_T 63) 7
  { s with lanes := { s.lanes with lane := [(63, { clear := clear, reopened := reopened })] } }

theorem witness_LaneTransitionsFollowTheTable :
    (let s := lane 3 2 true false true; ((s.laneSt 63).clear = false ∧ s.laneState 63 = 2 ∧ s.laneCauses 63 ≠ [])) ∧
    ((lane 2 2 true false false).laneCauses 63 = [] ∧ (lane 2 2 true false false).laneState 63 = 2 ∧ (lane 2 2 true false false).role ≠ 3) ∧
    ((lane 3 2 false false false).laneCauses 63 = [] ∧ (lane 3 2 false false false).is (Fl.LANE_CTL_EN 63) = false) ∧
    ((lane 3 2 true false false).laneCauses 63 = [] ∧ (lane 3 2 true false false).inRun = true ∧
      (lane 3 2 true false false).is Fl.PWR_STATUS_LEAVING = false ∧ (lane 3 2 true false false).is (Fl.LANE_CTL_EN 63) = true) ∧
    ((lane 3 3 true false false).laneCauses 63 = [] ∧ (lane 3 3 true false false).laneState 63 = 3) ∧
    ((lane 3 1 true false false).laneCauses 63 = [] ∧ (lane 3 1 true false false).laneState 63 = 1) ∧
    (lane 3 4 true false false).laneState 63 = 4 ∧
    (((lane 3 4 true true false).laneSt 63).clear = true ∧ ((lane 3 4 true true false).laneSt 63).reopened = false ∧
      (lane 3 4 true true false).laneCauses 63 = []) ∧
    (let s := { lane 3 4 true true false with lanes := { lane := [(63, { clear := true, servoMiss := 3 })] } }
     s.laneState 63 = 4 ∧ (s.laneSt 63).clear = true ∧ s.laneCauses 63 ≠ []) := by decide +kernel

/-! ### Witnesses: the ring -/

/-- The device at address 1 of a ring, in RUN: its role, ring A's state, the links of both rings in service, the ring controller's own
state. -/
def node (role st : Nat) (l : List (Nat × Nat)) (g : Ring) : State :=
  { ([0, 1, 2, 3].foldl (fun s q => s.flag (Fl.RING_PORT_STATUS_LINK q) true) (dev 3 role l)).put Fl.RING_CFG_ADDRESS 1
      |>.put Fl.RING_STATUS_STATE_A st with ring := g }

/-- An Enrum frame that arrives at port 0: TYPE, source, destination, FLAGS, HOPS, payload; LEN counts the payload, and the frame is
padded to its least length. -/
def efr (ty src dst flags hops : Nat) (b : List Nat) : RxFrame :=
  ⟨0, ([1, ty] ++ toBE 2 src ++ toBE 2 dst ++ toBE 4 0 ++ [0, flags] ++ toBE 2 hops ++ toBE 2 b.length ++ b ++
    List.replicate (30 - b.length) 0).map (BitVec.ofNat 8), true⟩

theorem witness_LinksCarryOrBreak :
    (let s := ({ node 2 3 [] {} with pins := { (node 2 3 [] {}).pins with bypA := true } } : State).flag (Fl.RING_PORT_STATUS_LINK 1) false
     UnitTakes 16 s ∧ s.is (Fl.RING_PORT_STATUS_LINK 1) = false ∧ s.holdOf 0 = true ∧
      s.is (Fl.RING_PORT_STATUS_LINK_REFUSED 1) = false ∧ s.is Fl.RING_CFG_AN_EN = true) ∧
    ((node 2 3 [] {}).flag Fl.RING_CFG_AN_EN false).is Fl.RING_CFG_AN_EN = false ∧ (0x40).testBit 0 = false ∧ (0x41).testBit 0 = true ∧
    ((node 2 3 [] {}).side 0).upFrom + 1000000 ≤ (node 2 3 [] {}).now + 1000000 ∧
    ((node 3 3 [] { trainOn := true }).isMaster 0 = true ∧ (node 3 3 [] { trainOn := true }).ringState 0 = 3) ∧
    (node 2 3 [] {}).isMaster 0 = false ∧
    (UnitTakes 17 (run []) ∧ (run []).red.cwLink = false ∧ (run []).red.cwRefused = false ∧ (run []).red.cwFrom + 1000000 ≤ (run []).now + 1000000) ∧
    (node 2 3 [] {}).carries 3 = true ∧ (run []).carries 3 = false ∧ (node 2 3 [] {}).get ⟨Reg.RING_PORT_FOREIGN 3, 15, 0⟩ < 0xFFFF := by
  repeat' apply And.intro
  all_goals decide +kernel

theorem witness_RingsAreJoinedAndLeft :
    (let s := node 3 0 [] {}
     UnitTakes 16 s ∧ s.power = 3 ∧ s.ringState 0 = 0 ∧ s.holdOf 0 = false ∧ s.leaving 0 = false ∧ s.released 0 = false ∧
      HostTakes Reg.RING_CTL s ∧ s.ring.noSync < 3) ∧
    (node 3 1 [] {}).ringState 0 ≠ 0 ∧ (node 3 5 [] {}).ringState 0 = 5 ∧
    (let s := node 2 3 [] { noSync := 3 }; 3 ≤ s.ring.noSync ∧ s.isMaster 0 = false ∧ s.isMaster 1 = false) ∧
    (node 3 3 [] { trainOn := true }).isMaster 0 = true := by decide +kernel

theorem witness_FramesAreForwarded :
    frameCommand 0 (efr 2 9 0xFFFF 8 2 []) 2 = some (.commandFrameReceived 0 (efr 2 9 0xFFFF 8 2 [])) ∧ UnitTakes 16 (node 2 3 [] {}) ∧
    (efr 2 9 0xFFFF 8 2 []).port < 4 ∧ (node 2 5 [] {}).ringState 0 = 5 ∧
    ((node 2 3 [] {}).ringState 0 ≠ 5 ∧ (node 2 3 [] {}).carries 0 = true ∧ Forwards 0 (node 2 3 [] {})) ∧
    ({ efr 2 9 0xFFFF 8 2 [] with fcsOk := false } : RxFrame).fcsOk = false ∧
    ¬ EnrumForm 2 (bytesNat (efr 7 9 0xFFFF 8 2 []).bytes) ∧ EnrumForm 2 (bytesNat (efr 2 9 0xFFFF 8 1 []).bytes) ∧
    beAt (bytesNat (efr 2 9 0xFFFF 8 1 []).bytes) 12 2 ≤ 1 ∧ ¬ TakenOff 0 (bytesNat (efr 2 9 0xFFFF 8 1 []).bytes) (node 2 3 [] {}) ∧
    (node 2 3 [] {}).is (Fl.RING_PORT_STATUS_LINK 1) = true ∧ (node 2 3 [] {}).is (Fl.RING_PORT_STATUS_LOOPING 0) = false ∧
    ((node 2 3 [] {}).flag (Fl.RING_PORT_STATUS_LOOPING 0) true).is (Fl.RING_PORT_STATUS_LOOPING 0) = true ∧
    EnrumFrame 2 (efr 2 9 0xFFFF 8 2 []) (node 2 3 [] {}) ∧ EnrumFrame 4 (efr 4 1 0xFFFF 8 0 []) (node 2 3 [] {}) ∧
    TakenOff 0 (bytesNat (efr 4 1 0xFFFF 8 0 []).bytes) (node 2 3 [] {}) := by
  repeat' apply And.intro
  all_goals decide +kernel

/-- A COLLECT slot of a node with no feedback fields. -/
def slot (n filled : Nat) : List Nat := toBE 2 n ++ toBE 2 12 ++ [filled, 3, 0, 0] ++ toBE 4 0

theorem witness_TrainsAreTaken :
    FreshFrame 2 (efr 2 9 0xFFFF 8 2 []) (node 2 3 [(Reg.RED_OWNER, 9)] {}) ∧
    ((node 2 3 [(Reg.RED_OWNER, 9)] {}).rd Reg.RED_OWNER = 9 ∧ (node 2 3 [] {}).firstOf 2 0 = true ∧ (node 2 3 [] {}).rd Reg.RED_OWNER ≠ 9) ∧
    FreshFrame 4 (efr 4 9 0xFFFF 8 2 ([255, 0, 0, 0] ++ toBE 4 5 ++ List.replicate 256 7)) (node 2 3 [] {}) ∧
    (aGet (node 2 3 [] {}).ring.pages 255 = none ∧ after32 5 4 = true ∧ after32 5 5 = false ∧
      aGet (node 2 3 [] { pages := [(255, ⟨5, []⟩)] }).ring.pages 255 = some ⟨5, []⟩) ∧
    (let x := efr 3 9 0xFFFF 8 2 (slot 254 1)
     let f := bytesNat x.bytes
     let s := node 2 3 [] { absent := [254] }
     FreshFrame 3 x s ∧ beAt f 14 2 = 12 + 4 * byteAt f 22 ∧ byteAt f 23 = 0 ∧ max 12 (beAt f 18 2) = beAt f 14 2 ∧ byteAt f 20 = 1 ∧
      beAt f 16 2 ≠ s.address ∧ s.ring.absent.contains 254 = true ∧ s.firstOf 3 254 = true) ∧
    (node 2 3 [] { got := [(3, 254)] }).firstOf 3 254 = false ∧
    (let x := efr 3 9 0xFFFF 8 2 (slot 1 0)
     let f := bytesNat x.bytes
     let s := node 2 3 [] {}
     FreshFrame 3 x s ∧ ¬ TakenOff 0 f s ∧ Forwards 0 s ∧ beAt f 14 2 = 12 ∧ beAt f 16 2 = s.address ∧ byteAt f 20 = 0) ∧
    (let x := efr 4 9 0xFFFF 8 2 []
     let s := node 2 3 [(Reg.RING_CYCLE, 1)] {}
     EnrumFrame 4 x s ∧ beAt (bytesNat x.bytes) 2 2 ≠ s.address ∧ s.upstream 0 = false ∧ (s.side 0).ignored = false ∧
      s.isLate (bytesNat x.bytes) = true ∧ s.get ⟨Reg.RING_PORT_LATE 0, 15, 0⟩ < 0xFFFF) ∧
    (let x : RxFrame := { efr 4 9 0xFFFF 8 2 [] with port := 2 }
     let s := (node 2 3 [] {}).flag Fl.RING_CFG_JUNCTION true |>.put Fl.RING_STATUS_STATE_B 3
     EnrumFrame 4 x s ∧ s.upstream 1 = true) := by
  repeat' apply And.intro
  all_goals decide +kernel

/-- A SYNC of an owner with an epoch, from a source. -/
def sync (src epoch owner flags : Nat) : RxFrame :=
  efr 1 src 0xFFFF flags 2 (toBE 2 owner ++ toBE 4 epoch ++ toBE 4 77 ++ [3, 4, 5, 0] ++ List.replicate 58 0)

theorem witness_SyncsAreFollowed :
    (let x := sync 9 5 9 8
     let f := bytesNat x.bytes
     let s := node 2 3 [(Reg.RED_EPOCH, 5), (Reg.RED_OWNER, 9)] { hasPair := true }
     EnrumFrame 1 x s ∧ beAt f 14 2 = 72 ∧ beAt f 2 2 ≠ s.address ∧ s.is Fl.RING_CFG_JUNCTION = false ∧ s.ring.hasPair = true ∧
      beAt f 18 4 = s.rd Reg.RED_EPOCH ∧ beAt f 16 2 = s.rd Reg.RED_OWNER ∧ s.following = false ∧ s.firstOf 1 0 = true ∧ s.role ≠ 1 ∧
      s.inRun = true ∧ s.role = 2 ∧ s.ringState 0 = 3 ∧ ¬ TakenOff 0 f s ∧ s.is (Fl.RING_PORT_STATUS_LINK 1) = true ∧
      s.is (Fl.RING_PORT_STATUS_LOOPING 0) = false ∧ (byteAt f 26 + 0) / s.cyclesPerPace = 0 ∧
      s.cyclesAfter (s.now + 100 - (beAt f 40 4 + s.linkDelay 0)) = 0 ∧ byteAt f 27 < s.legPaces ∧ byteAt f 28 < s.stageLegs) ∧
    precedes 4 9 5 9 = false ∧
    (let x := sync 9 5 9 8
     let s := node 1 3 [] {}
     EnrumFrame 1 x s ∧ s.ring.hasPair = false ∧ s.firstOf 1 0 = true ∧ s.role = 1 ∧ s.red.heardOwner = false ∧ s.hasPartner = false) ∧
    (precedes 6 9 5 1 = true ∧ EnrumFrame 1 (sync 9 6 9 8) (node 3 3 [(Reg.RED_EPOCH, 5), (Reg.RED_OWNER, 1)] { hasPair := true }) ∧
      (node 3 3 [(Reg.RED_EPOCH, 5), (Reg.RED_OWNER, 1)] { hasPair := true }).role = 3) ∧
    (let x := sync 1 5 1 1
     let f := bytesNat x.bytes
     let s := node 3 3 [] { trainOn := true }
     EnrumFrame 1 x s ∧ beAt f 14 2 = 72 ∧ beAt f 2 2 = s.address ∧ (byteAt f 11).testBit 1 = false ∧ byteAt f 11 % 2 ≠ x.port % 2) := by
  repeat' apply And.intro
  all_goals decide +kernel

/-- A management message for node 1. -/
def mgmt (msg : Nat) : RxFrame := efr 5 9 1 0 2 ([msg, 0] ++ toBE 2 7 ++ toBE 4 0x5A)

theorem witness_MessagesAreAnswered :
    (∀ k ∈ [1, 3, 4, 6], EnrumFrame 5 (mgmt k) (node 2 3 [] {}) ∧ byteAt (bytesNat (mgmt k).bytes) 16 = k ∧
      beAt (bytesNat (mgmt k).bytes) 2 2 ≠ (node 2 3 [] {}).address ∧ beAt (bytesNat (mgmt k).bytes) 4 2 = (node 2 3 [] {}).address ∧
      (node 2 3 [] {}).firstOf 5 (9 * 2 ^ 16 + 7) = true) ∧
    (node 2 3 [] {}).ring.mail.length < 8 ∧
    8 ≤ (node 2 3 [] { mail := List.replicate 8 ⟨9, 6, 0, 7, []⟩ }).ring.mail.length := by
  decide +kernel

/-- A frame of so many bytes fits in the window now or not. -/
def fitsNow (s : State) (len : Nat) : Prop :=
  10 * s.window.1 ≤ s.now - s.ring.boundAt ∧ (s.now - s.ring.boundAt) + (max 64 (len + 18) + 20) * 8 ≤ 10 * s.window.2

theorem witness_TheHostExchangesMessages :
    (HostTakes Reg.RING_MGMT_TX_CTL (run []) ∧ Rw.RING_MGMT_TX_CTL.legalOk (2 ^ 31 + 2 ^ 16 * 4) = true ∧
      (2 ^ 31 + 2 ^ 16 * 4).testBit 31 = true) ∧
    (let m : MgmtMsg := ⟨1, 3, 15, 7, []⟩
     let s := node 2 3 [] { txq := [m], ownWin := (0, 12000), win := (0, 12000) }
     UnitTakes 16 s ∧ s.ring.txq = [m] ∧ m.ring < 16 ∧ fitsNow s (s.mgmtFrame m.src m).length ∧ 16 ≤ ({ m with ring := 16 } : MgmtMsg).ring) ∧
    (let m : MgmtMsg := ⟨1, 3, 15, 7, []⟩; ¬ fitsNow (node 2 3 [] { txq := [m] }) ((node 2 3 [] { txq := [m] }).mgmtFrame m.src m).length) ∧
    (let m : MgmtMsg := ⟨9, 6, 0, 65535, []⟩
     HostTakes Reg.RING_MGMT_RX_POP (node 2 3 [] { mail := [m, m] }) ∧ (node 2 3 [] { mail := [m, m] }).ring.mail[1]? = some m ∧
      m.tag < 2 ^ 16) := by
  unfold fitsNow
  decide +kernel

/-! ### Witnesses: time and redundancy -/

/-- The timebase with source 2 in use at a quality, its source data, its own state, the ring's links in service. -/
def timed (quality : Nat) (x : TimSrc) (t : Tim) (l : List (Nat × Nat)) : State :=
  { ([0, 1, 2, 3].foldl (fun s q => s.flag (Fl.RING_PORT_STATUS_LINK q) true) (run ([(Reg.TIM_SRC, 2), (Reg.TIM_JUMP_TH, 100)] ++ l))).flag
      Fl.TIM_PTP_CFG_OC_EN true |>.put Fl.TIM_STATUS_SOURCE 2 |>.put Fl.TIM_STATUS_QUALITY quality with tim := { t with src := [(2, x)] } }

/-- A message of the best master 9 with an origin. -/
def ptp (k : PtpRx) (origin : Nat) : PtpMsg := ⟨k, 0, 77, 9, 0, origin, 0, 0, [], none, 0⟩

/-- A qualified source. -/
def good : TimSrc := { run := 12, best := [9] }

theorem witness_OffsetsEnterTheJumpPolicy :
    (let m := ptp .sync 50; let s := timed 2 good {} []
     UnitTakes 11 s ∧ m.kind = .sync ∧ m.domain = s.get Fl.TIM_PTP_CFG_DOMAIN ∧ m.port < 4 ∧ s.carries m.port = true ∧
      s.is Fl.TIM_PTP_CFG_OC_EN = true ∧
      (s.timSrc 2).best ≠ [] ∧ (s.timSrc 2).best.getLast? = some m.clockId ∧ aGet s.tim.seqSeen 2 ≠ some m.seq ∧
      s.get Fl.TIM_STATUS_SOURCE = 2 ∧ s.timSelect = 2 ∧ 10 ≤ (s.timSrc 2).run ∧ s.tim.entering = true ∧ s.get Fl.TIM_STATUS_QUALITY ≠ 0 ∧
      (((s.elapse 5).clk : Int) - m.origin - m.corr - s.linkDelay m.port).natAbs ≤ s.get ⟨Reg.TIM_JUMP_TH, 19, 0⟩ ∧
      s.get ⟨Reg.TIM_JUMP_TH, 19, 0⟩ < (((s.elapse 5).clk : Int) - (ptp .sync 200).origin - m.corr - s.linkDelay m.port).natAbs) ∧
    (let s := (timed 2 good { seqSeen := [(2, 77)] } []).flag Fl.TIM_PTP_CFG_TC_EN false; aGet s.tim.seqSeen 2 = some 77 ∧ s.is Fl.TIM_PTP_CFG_TC_EN = false) ∧
    ((timed 0 good {} []).tim.entering = true ∧ (timed 0 good {} []).get Fl.TIM_STATUS_QUALITY = 0) ∧
    (let s := timed 1 good { entering := false } []
     s.tim.entering = false ∧ s.is Fl.TIM_STATUS_JUMP_PENDING = false ∧ s.tim.step = none ∧ s.get Fl.TIM_STATUS_QUALITY = 1) := by
  repeat' apply And.intro
  all_goals decide +kernel

theorem witness_JumpsAndLosses :
    (let s := timed 1 good {} []
     UnitTakes 11 s ∧ ptpFailed s 2 (s.now + 3600000000000) = true ∧ s.get Fl.TIM_STATUS_SOURCE = 2 ∧ s.get Fl.TIM_STATUS_QUALITY = 1 ∧
      s.get Fl.TIM_STATUS_SOURCE ≠ 4 ∧ ptpFailed s 4 (s.now + 3600000000000) = true ∧ ptpFailed s 2 s.now = false) ∧
    (HostTakes Reg.TIM_JUMP_CTL (timed 1 good {} []) ∧ (timed 1 good {} []).is Fl.TIM_STATUS_JUMP_PENDING = false ∧
      ((timed 1 good {} []).flag Fl.TIM_STATUS_JUMP_PENDING true).is Fl.TIM_STATUS_JUMP_PENDING = true) ∧
    (let s : State := { timed 1 good { step := some (-5), accepted := true } [] with clock := { (run []).clock with t := (10 ^ 9 - 4) * 2 ^ 32 } }
     UnitTakes 11 s ∧ s.tim.step = some (-5) ∧ s.tim.accepted = true ∧ (s.elapse 4).clk % 10 ^ 9 ≤ 4 ∧
      s.tim.stepSec < (s.elapse 4).clk / 10 ^ 9) ∧
    ((timed 1 good {} []).tim.step = none ∧ 4 < ((timed 1 good {} []).elapse 9).clk % 10 ^ 9) ∧
    (let s := timed 1 good { slewLeft := 1 } [(Reg.TIM_SLEW, 1000)]
     s.tim.slewLeft.natAbs * 10 ^ 9 ≤ (s.now + 1000000 - s.tim.slewFrom) * s.rd Reg.TIM_SLEW ∧
      ¬ s.tim.slewLeft.natAbs * 10 ^ 9 ≤ (s.now + 999999 - s.tim.slewFrom) * s.rd Reg.TIM_SLEW) := by
  repeat' apply And.intro
  all_goals decide +kernel

theorem witness_TimeIsReadAndSent :
    HostTakes Reg.TIM_NOW_NS (timed 1 good {} []) ∧ UnitTakes 11 (timed 1 good {} []) ∧
    (ptp .pdelayResp 0).domain = (timed 1 good {} []).get Fl.TIM_PTP_CFG_DOMAIN ∧ (ptp .pdelayResp 0).port < 4 ∧
    (timed 1 good {} []).carries (ptp .pdelayResp 0).port = true ∧
    aGet (timed 1 good { reqT1 := [(0, 40)] } []).tim.reqT1 (ptp .pdelayResp 0).port = some 40 ∧
    ((timed 1 good {} []).flag Fl.TIM_PTP_CFG_TC_EN true).is Fl.TIM_PTP_CFG_TC_EN = true ∧
    (let s := (timed 1 { good with best := [] } {} []).flag Fl.TIM_PTP_CFG_GM_EN true
     let s : State := { s with ring := { s.ring with ownWin := (0, 12000), win := (0, 12000) } }
     UnitTakes 11 s ∧ s.is Fl.TIM_PTP_CFG_GM_EN = true ∧ s.is Fl.RING_CFG_JUNCTION = false ∧ (s.timSrc (ptpSource 0)).best = [] ∧
      (s.elapse 0).inWindow (State.ptpCode .sync).2 = true ∧ (s.elapse 0).inWindow (State.ptpCode .announce).2 = true ∧
      (s.elapse 0).inWindow 54 = true ∧ s.tim.txAt = [] ∧ (s.elapse 200000).inWindow 54 = false) ∧
    (timed 1 good {} []).is Fl.TIM_PTP_CFG_GM_EN = false ∧
    (let s := (timed 1 good {} []).flag Fl.TIM_PTP_CFG_E2E_CW true
     let s : State := { s with red := { s.red with cwLink := true } }
     s.is Fl.TIM_PTP_CFG_OC_EN = true ∧ s.is Fl.TIM_PTP_CFG_E2E_CW = true ∧ s.red.cwLink = true ∧ aGet s.tim.txAt (3 * 8 + 4) = none) := by
  repeat' apply And.intro
  all_goals decide +kernel

/-- With a Causeway partner at address 2 on a link in service, a device in a role with a redundancy unit of its own. -/
def pair (power role : Nat) (l : List (Nat × Nat)) (r : Red) : State :=
  { (dev power role l).flag Fl.RED_CFG_CAUSEWAY true |>.put Fl.RED_CFG_PARTNER 2 with red := { r with cwLink := true } }

/-- A heartbeat of partner 2 in a role. -/
def beat (role : Nat) : List Nat := [1, 0x10] ++ toBE 2 2 ++ toBE 2 1 ++ List.replicate 10 0 ++ [role] ++ List.replicate 53 0

theorem witness_HeartbeatsAreSent :
    (let s := pair 3 3 [] { exchAsked := some 5 }
     UnitTakes 17 s ∧ s.power = 3 ∧ s.role = 3 ∧ s.hasPartner = true ∧ s.red.cwLink = true ∧ (s.now + 3 - s.ring.boundAt) % 125000 < 4 ∧
      s.red.exchAsked = some 5) ∧
    (pair 3 4 [] {}).role = 4 := by decide +kernel

theorem witness_HeartbeatsAreHeard :
    (let s := pair 3 1 [] {}; let f := bytesNat ((beat 3).map (BitVec.ofNat 8))
     UnitTakes 17 s ∧ PartnerHeartbeat f s ∧ byteAt f 16 = 3 ∧ s.inRun = true ∧ s.role = 1 ∧ s.red.heardOwner = false ∧ s.red.loaded = false ∧
      beAt f 48 8 = s.layoutId ∧ beAt f 48 8 ≠ (pair 3 1 [(Reg.RED_LAYOUT_LO, 1)] {}).layoutId) ∧
    (let f := bytesNat ((beat 2).map (BitVec.ofNat 8)); PartnerHeartbeat f (pair 3 3 [] {}) ∧ byteAt f 16 ≠ 3) ∧
    ¬ PartnerHeartbeat (beat 2) (dev 3 3 []) ∧
    (let s := pair 3 1 [] { edgeAt := some 0 }
     s.red.edgeAt = some 0 ∧ s.now + 39999 < 0 + 40000 ∧ 0 + 40000 ≤ s.now + 40000 ∧ s.now + 90000 ≤ 0 + 90000 ∧ 0 + 90000 < s.now + 90001) := by
  decide +kernel

theorem witness_SilenceDecides :
    (let s := pair 3 3 [] { hbAt := some 0, cwAt := some 375000 }
     UnitTakes 17 s ∧ s.is Fl.RED_STATUS_HB_SILENT = false ∧ s.hasPartner = true ∧ s.red.hbAt = some 0 ∧ 0 + 375000 ≤ s.now + 375000 ∧
      ¬ quietAt (s.now + 375000) s.red.cwAt ∧ s.get ⟨Reg.RED_PATH_FAULTS, 15, 0⟩ < 0xFFFF) ∧
    (let s := pair 3 3 [] { hbAt := some 0 }; quietAt (s.now + 375000) s.red.cwAt ∧ s.role = 3) ∧
    (let s := pair 3 2 [] { hbAt := some 0, loaded := true, partnerRole := 3, fastApplied := some 0 }
     quietAt (s.now + 375000) s.red.cwAt ∧ s.inRun = true ∧ s.role = 2 ∧ s.red.loaded = true ∧ s.red.partnerRole = 3 ∧
      s.red.fastApplied = some 0 ∧ (s.cyc.pace + 2 ^ 32 - 0) % 2 ^ 32 ≤ 4 ∧ State.msDone s.red.fast = none ∧ s.red.fullDone = []) ∧
    (let s := pair 3 3 [] { hbAt := some 10000000, hbFault := true }
     s.red.hbFault = true ∧ ¬ quietAt (s.now + 10000000) s.red.hbAt ∧ s.red.hbSince + 10000000 ≤ s.now + 10000000) ∧
    (pair 3 3 [] {}).red.hbFault = false ∧ (dev 3 3 []).hasPartner = false := by decide +kernel

/-- A fragment of a Milestone: TYPE, kind, index, fragment count, pace, payload. -/
def frag (ty kind i n p : Nat) (b : List Nat) : List Nat :=
  [1, ty] ++ toBE 2 2 ++ toBE 2 1 ++ List.replicate 8 0 ++ toBE 2 (16 + b.length) ++ [kind, 0] ++ toBE 2 i ++ toBE 2 n ++ toBE 2 0 ++
    toBE 4 p ++ toBE 4 0 ++ b

/-- A complete Milestone of a pace that holds no bytes but its CRC. -/
def whole0 (p : Nat) : Option (Nat × Nat × List (Nat × List Nat)) := some (p, 1, [(0, toBE 4 (crc32c []))])

theorem witness_MilestonesAreGatheredAndApplied :
    (let s := pair 3 2 [] {}
     UnitTakes 17 s ∧ s.red.exch = none ∧ s.role = 2 ∧
      PartnerData 0x11 (frag 0x11 0 0 2 5 [1]) s ∧ byteAt (frag 0x11 0 0 2 5 [1]) 16 = 0 ∧
      PartnerData 0x11 (frag 0x11 1 0 2 5 [1]) s ∧ byteAt (frag 0x11 1 0 2 5 [1]) 16 = 1 ∧
      State.msDone (some (State.takeFrag s.red.full (frag 0x11 1 0 2 5 [1]))) = none ∧
      State.msDone (some (State.takeFrag s.red.full (frag 0x11 1 0 1 5 (toBE 4 (crc32c []))))) = some (5, [])) ∧
    (let s := pair 3 1 [] { resyncFrom := some 0, resync := some (5, 2, [(0, [1])]) }; let f := frag 0x12 0 1 2 5 [1]
     PartnerData 0x12 f s ∧ s.role = 1 ∧ s.red.resyncFrom.isSome = true ∧ beAt (frag 0x12 0 0 2 5 [1]) 18 2 = 0 ∧
      s.red.resync = some (5, 2, [(0, [1])]) ∧ 5 = beAt f 24 4 ∧ beAt f 18 2 ≠ 0) ∧
    (({ (run []).cyc with voided := true } : Cyc).voided = true ∧ 13 ∈ ({ (run []).cyc with marks := [13] } : Cyc).marks ∧
      (run []).now + 399999 < (run []).cyc.boundaryAt + 400000) ∧
    (let s := pair 3 2 [] { loaded := true, fast := whole0 0xFFFFFFFF }
     s.inRun = true ∧ s.cyc.voided = false ∧ 13 ∉ s.cyc.marks ∧ s.cyc.boundaryAt + 400000 ≤ s.now + 400000 ∧ s.hasPartner = true ∧
      s.role = 2 ∧ s.red.loaded = true ∧ s.cyc.leg ≠ 4 ∧
      (s.cyc.pace + 2 ^ 32 - 1) % 2 ^ 32 = 0xFFFFFFFF ∧ State.msDone s.red.fast = some (0xFFFFFFFF, [])) ∧
    (State.msDone (whole0 3) = some (3, []) ∧ State.msDone (some (3, 2, [(0, [])])) = none) ∧
    (pair 3 2 [] { partnerRole := 3 }).red.partnerRole = 3 := by
  refine ⟨?_, ?_, ?_, ?_, ?_, ?_⟩ <;> decide +kernel

theorem witness_RolesChangeHands :
    (let s := (pair 3 3 [] { cwAt := some 0, hbAt := some 0, partnerCurrent := true }).put Fl.RED_STATUS_PARTNER_ROLE 2
     HostTakes Reg.RED_CMD s ∧ s.red.exch = none ∧ s.red.exchAsked = none ∧ s.role = 3 ∧ s.get Fl.RED_STATUS_PARTNER_ROLE = 2 ∧
      s.red.partnerCurrent = true ∧ s.red.cwFault = false ∧ s.red.hbFault = false ∧ ¬ quietAt (s.now + 7) s.red.cwAt ∧
      s.red.partnerLayout = s.layoutId) ∧
    (pair 3 3 [] { exch := some 9 }).red.exch.isSome = true ∧
    (let s := (pair 3 2 [] {}).put Fl.RED_STATUS_PARTNER_ROLE 4
     s.inRun = true ∧ s.role = 2 ∧ s.get Fl.RED_STATUS_PARTNER_ROLE ≠ 3 ∧ s.get Fl.RED_STATUS_PARTNER_ROLE ≠ 7 ∧
      State.msDone s.red.fast = none ∧ s.red.fullDone = [] ∧ s.get ⟨Reg.RED_TAKEOVERS, 15, 0⟩ < 0xFFFF) ∧
    (dev 2 0 []).inRun = false ∧
    (let s := pair 3 1 [] { waitCycles := 64 }
     UnitTakes 17 s ∧ s.inRun = true ∧ s.role = 1 ∧ s.red.heardOwner = false ∧ 64 ≤ s.red.waitCycles ∧
      s.red.waitFrom + 64 * s.cycleNs + (if s.is Fl.RED_CFG_ROLE_SEL = true then 2000000000 else 0) ≤ s.now + 64 * s.cycleNs + 2000000000) ∧
    (let s := (pair 3 2 [] {}).flag Fl.RED_STATUS_RING_STANDBY true |>.put Fl.RED_CFG_TAKE_WAIT 2
     UnitTakes 17 s ∧ s.inRun = true ∧ s.role = 2 ∧ s.is Fl.RED_STATUS_RING_STANDBY = true ∧
      s.ring.lastSyncNow.getD s.red.waitFrom + s.get Fl.RED_CFG_TAKE_WAIT * 1000000 ≤ s.now + 2000000 ∧
      quietAt (s.now + 2000000) s.red.cwAt ∧ quietAt (s.now + 2000000) s.red.hbAt) := by decide +kernel

theorem witness_PairsPrecedeByEpochThenOwner :
    0xFFFFFFFF < 2 ^ 32 ∧ precedes 0 9 0xFFFFFFFF 1 = true ∧ precedes 5 1 5 9 = true ∧ precedes 0 1 (2 ^ 31) 9 = true ∧
    precedes (2 ^ 31) 9 0 1 = false := by decide +kernel

/-! ### Witnesses: sensors and satellite navigation -/

/-- A stream record: number, source, slot, kind, talker, formatter, trigger. -/
def rec (n src slot kind : Nat) (talker : Nat) (fm : List Nat) (trig : Nat) : List Nat :=
  [n, src, slot, kind, 0, 0] ++ toBE 2 talker ++ fm ++ [0] ++ toBE 4 1000 ++ [0, 0, 0, 0, trig, 3, 4, 0, 1, 0, 0, 0, 0, 0, 0, 0]

/-- A framing descriptor: sync AA, its check kind and length, and one field of two bytes at byte 1 for a stream. -/
def framing (check len n : Nat) : List Nat :=
  [1, check] ++ toBE 2 len ++ [0xAA, 0, 0, 0, 0, 0, 0, 1, 0, 1, 0, 0] ++ ([0, 1, 2, 0, n, 0, 0, 0] ++ toBE 4 0x3F800000) ++ List.replicate 180 0

/-- With these streams and a framing in the image, and sensor ports of our own. -/
def sense (rs : List (List Nat)) (f : List Nat) (p : Sns) (l : List (Nat × Nat)) : State :=
  { run l with ldr := { (run l).ldr with sections := [(3, rs.length :: List.replicate 63 0 ++ rs.flatten ++ f)] }, sns := p }

/-- Characters that arrived at once. -/
def rx (l : List Nat) : SerialIn := ⟨l.map (BitVec.ofNat 8), 0, 0, 0, false⟩

/-- `$HEHDT,90.0,T` with CR LF, and with a checksum. -/
def hdt (ck : List Nat) : List Nat := [36, 72, 69, 72, 68, 84, 44, 57, 48, 46, 48, 44, 84] ++ ck ++ [13, 10]

/-- One stream's image, its port in IEC mode. -/
def iec : State := sense [rec 0 1 0 0 0x4845 [72, 68, 84] 0] [] {} [(Reg.SNS_PORT_CFG 0, 16)]

/-- The port as it is after new settings. -/
def iecNew : State := { iec with sns := { ports := [(0, { cfgAt := 1000 })] } }

theorem fresh_stream : ∀ l, (iec.strm 0).last = some l → l < (iec.elapse 9).edgeStamp 0 0 - iec.strLatAt 0 (iec.now + 9 - 0) := by
  have e : (iec.strm 0).last = none := by decide +kernel
  intro l h
  rw [e] at h
  cases h

theorem witness_SentencesAreChecked :
    (let cs := hdt []
     UnitTakes 8 iec ∧ (rx cs).chars ≠ [] ∧ (rx cs).lost = 0 ∧ (rx cs).agoNs = 0 ∧ iec.get (Fl.SNS_PORT_CFG_MODE 0) = 1 ∧
      (run []).get (Fl.SNS_PORT_CFG_MODE 0) ≠ 1 ∧ sentenceBody [36] = none ∧ sentenceBody cs = some (none, (cs.drop 1).take 12) ∧
      (iec.port 0).cfgAt + 0 ≤ iec.now + 9 ∧ iecNew.now + 9 < (iecNew.port 0).cfgAt + 0 ∧ iecNew.get (Fl.SNS_PORT_CFG_MODE 0) = 1 ∧
      (iec.flag (Fl.SNS_PORT_CFG_CSUM_OPT 0) true).is (Fl.SNS_PORT_CFG_CSUM_OPT 0) = true ∧ iec.is (Fl.SNS_PORT_CFG_CSUM_OPT 0) = false ∧
      (splitOn 44 ((cs.drop 1).take 12)).headD [] = [72, 69, 72, 68, 84] ∧
      iec.boundStreams 0 0x4845 [72, 68, 84] = [rec 0 1 0 0 0x4845 [72, 68, 84] 0] ∧
      decodeSentence [72, 68, 84] ((splitOn 44 ((cs.drop 1).take 12)).drop 1) = .values [[0x40000000]]) ∧
    TakesSample 0 (rec 0 1 0 0 0x4845 [72, 68, 84] 0) ((iec.elapse 9).edgeStamp 0 0 - iec.strLatAt 0 (iec.now + 9 - 0)) iec ∧
    ((hdt [42, 48, 48]).length ≤ 82 ∧ (sentenceBody (hdt [42, 48, 48])).map (·.1) = some (some false)) ∧
    (sense [] [] {} [(Reg.SNS_PORT_CFG 0, 16)]).boundStreams 0 0x4845 [72, 68, 84] = [] ∧
    decodeSentence [68, 84, 77] [[87, 56, 52]] = .dtm true := by
  refine ⟨?_, ⟨?_, ?_, ?_, fresh_stream⟩, ?_, ?_, ?_⟩
  all_goals repeat' apply And.intro
  all_goals decide +kernel

/-- A binary port: a stream of its own framing, of a fixed length of three bytes. -/
def bin (check : Nat) : State := sense [rec 0 1 0 1 0 [0, 0, 0] 0] (framing check 3 0) {} [(Reg.SNS_PORT_CFG 0, 32)]

/-- The framing of the binary port's image. -/
abbrev binF (check : Nat) : Bytes := framingOf (bin check) ((bin check).get (Fl.SNS_PORT_CFG_FRAMING 0))

theorem fresh_frame : ∀ l, ((bin 0).strm 0).last = some l →
    l < ((bin 0).elapse 9).edgeStamp 0 0 - (bin 0).strLatAt 0 ((bin 0).now + 9 - 0) := by
  have e : ((bin 0).strm 0).last = none := by decide +kernel
  intro l h
  rw [e] at h
  cases h

theorem witness_BinaryFramesAreChecked :
    (let f := binF 0
     UnitTakes 8 (bin 0) ∧ (bin 0).get (Fl.SNS_PORT_CFG_MODE 0) = 2 ∧ (run []).get (Fl.SNS_PORT_CFG_MODE 0) ≠ 2 ∧
      ((bin 0).port 0).bin = [] ∧ ((bin 0).port 0).cfgAt + 0 ≤ (bin 0).now + 9 ∧ byteAt f 0 = 1 ∧
      (∀ b ∈ ([0xBB, 0, 7] : List Nat), b ≠ byteAt f 4) ∧ ([0xAA, 0, 7] : List Nat).take 1 = (f.drop 4).take 1 ∧ beAt f 2 2 ≠ 0 ∧
      frameLen f [0xAA, 0, 7] = 3 ∧ ((byteAt f 11 + checkSize (byteAt f 1) : Nat) : Int) ≤ 3 ∧ byteAt f 1 = 0 ∧ byteAt f 13 = 1 ∧
      byteAt ((f.drop 16).take 12) 4 = 0 ∧ byteAt (rec 0 1 0 1 0 [0, 0, 0] 0) 1 = 0 + 1 ∧ byteAt (rec 0 1 0 1 0 [0, 0, 0] 0) 3 = 1 ∧
      byteAt (rec 0 1 0 1 0 [0, 0, 0] 0) 11 = (bin 0).get (Fl.SNS_PORT_CFG_FRAMING 0)) ∧
    TakesSample 0 (rec 0 1 0 1 0 [0, 0, 0] 0) (((bin 0).elapse 9).edgeStamp 0 0 - (bin 0).strLatAt 0 ((bin 0).now + 9 - 0)) (bin 0) ∧
    (let f := binF 1
     checkSize (byteAt f 1) = 1 ∧ frameLen f [0xAA, 0, 7] = 3 ∧
      frameCheck (byteAt f 1) ((([0xAA, 0, 7] : List Nat).take 2).drop (byteAt f 11)) ≠ 7 ∧ (∀ b ∈ ([0, 7] : List Nat), b ≠ byteAt f 4)) ∧
    (let s := sense [] (framing 0 0x1000 0) {} [(Reg.SNS_PORT_CFG 0, 32)]
     512 < frameLen (framingOf s (s.get (Fl.SNS_PORT_CFG_FRAMING 0))) [0xAA, 0, 7]) := by
  refine ⟨?_, ⟨?_, ?_, ?_, fresh_frame⟩, ?_, ?_⟩
  all_goals repeat' apply And.intro
  all_goals decide +kernel

theorem witness_BytesAreSent :
    HostTakes (Reg.SNS_PORT_TXDATA 4) (run []) ∧ ((run []).port 4).tx.length < 256 ∧
    256 ≤ ((sense [] [] { ports := [(4, { tx := List.replicate 256 7 })] } []).port 4).tx.length ∧
    ((sense [] [] { ports := [(4, { tx := List.replicate 256 7 })] } []).now + 0 - 0) /
      max 1 ((sense [] [] { ports := [(4, { tx := List.replicate 256 7 })] } []).charNs 4) = 0 := by
  refine ⟨?_, ?_, ?_, ?_⟩ <;> decide +kernel

theorem witness_StreamsTakeSamples :
    (let r := rec 47 1 0 1 0 [0, 0, 0] 0; let s := sense [r] [] {} []
     s.alive = true ∧ strRec s 47 = some r ∧ s.pathOpen = true ∧ byteAt r 20 = 0 ∧ (s.strm 47).last = none ∧
      s.get ⟨Reg.SNS_STR_DISCARD 47, 15, 0⟩ < 0xFFFF) ∧
    ((run []).wr Reg.FAB_PORT_STATE 0).pathOpen = false ∧
    (let r := rec 47 1 0 1 0 [0, 0, 0] 0; let s := sense [r] [] { strm := [(47, { last := some 5, lastAt := 0 })] } []
     (s.strm 47).last = some 5 ∧ (s.strm 47).lastAt + byteAt r 22 * strNom r * 1000 = 4000000) ∧
    (let r := rec 47 1 0 1 0 [0, 0, 0] 1; let s := sense [r] [] { edges := [(0, [(100, 0), (90, 0)])], strm := [(47, { seen := 2 })] } []
     byteAt r 20 ≠ 0 ∧ byteAt r 1 ≠ 6 ∧ aGetD s.sns.edges (byteAt r 20 - 1) [] = [(100, 0), (90, 0)] ∧
      s.now + 0 ≤ 0 + s.strLatAt 47 (s.now + 0) ∧ (s.strm 47).edge = none ∧ (s.strm 47).last = none ∧ (s.strm 47).seen = 2 ∧
      0 + s.strLatAt 47 (s.now + 9000000000) < s.now + 9000000000 ∧
      aGetD (sense [r] [] {} []).sns.edges (byteAt r 20 - 1) [] = []) := by
  refine ⟨?_, ?_, ?_, ?_⟩
  all_goals repeat' apply And.intro
  all_goals decide +kernel

/-- A channel of the sample port in its image, the port on with all lanes, between two frames. -/
def smp (slot delay : Nat) : State :=
  sense [rec 5 6 slot 0 0 [0, 0, 0] 0] [] { frame := some (2000000, 2000000), prevFrame := some (0, 0) } [(Reg.SNS_SMP_CFG, 0x1F0)]
    |>.put Fl.SNS_SMP_CFG_FS_DELAY delay

/-- A trigger of 1 ms at phase 0 whose schedule the stream follows. -/
def trig (skip : List Nat) : State :=
  sense [rec 5 1 0 1 0 [0, 0, 0] 2] [] { strm := [(5, { last := some 5 })], skip := skip }
    [(Reg.SNS_TRIG_CTL 1, 0x20001), (Reg.SNS_TRIG_PERIOD 1, 1000), (Reg.SNS_TRIG_PHASE 1, 0)]

theorem witness_FramesAndTriggers :
    (let s := { smp 31 0 with sns := {} }
     UnitTakes 8 s ∧ s.is Fl.SNS_SMP_CFG_EN = true ∧ frameDueAt s s.now = true ∧ s.sns.frame = none ∧ frameDueAt s (s.now + 5) = false) ∧
    (let s := smp 31 0; let r := rec 5 6 31 0 0 [0, 0, 0] 0
     s.sns.frame = some (2000000, 2000000) ∧ s.get Fl.SNS_SMP_CFG_RATE = 0 ∧ s.get Fl.SNS_SMP_CFG_FS_DELAY = 0 ∧
      2000000 + (32 * 7 + 32 + 0) * (1000000000 / (500 * 2 ^ 0)) / 256 < s.now + 4000000 + 4 ∧
      (s.get Fl.SNS_SMP_CFG_LANES).testBit 3 = true ∧ (strRecs s).filter (fun x => byteAt x 1 == 6 && byteAt x 2 == 8 * 3 + 7) = [r] ∧
      strRec s 5 = some r ∧ s.pathOpen = true ∧ byteAt r 1 = 6 ∧ (s.strm 5).last = none) ∧
    (let s := smp 31 1
     s.get Fl.SNS_SMP_CFG_FS_DELAY = 1 ∧ s.sns.prevFrame = some (0, 0) ∧
      ¬ 2000000 + (32 * 7 + 32 + 1) * (1000000000 / (500 * 2 ^ 0)) / 256 < s.now + 2008000 + 4 ∧
      0 + (32 * 7 + 32 + 1) * (1000000000 / (500 * 2 ^ 0)) / 256 < s.now + 2008000 + 4) ∧
    (run []).sns.frame = none ∧ (run []).sns.prevFrame = none ∧ (run []).is Fl.SNS_SMP_CFG_EN = false ∧
    (run []).is (Fl.SNS_TRIG_CTL_EN 1) = false ∧
    (let s := trig []
     s.is (Fl.SNS_TRIG_CTL_EN 1) = true ∧ s.clock.running = true ∧ s.sns.skip = [] ∧
      (strRecs s).filter (fun x => byteAt x 20 == 1 + 1) = [rec 5 1 0 1 0 [0, 0, 0] 2] ∧ aGetD s.sns.edges 1 [] = [] ∧
      s.rd (Reg.SNS_TRIG_PERIOD 1) % 2 ^ 20 * 1000 = 1000000 ∧ s.rd (Reg.SNS_TRIG_PHASE 1) % 2 ^ 20 * 1000 = 0 ∧
      ((s.elapse 1000000).clk + 1000000 - 0 % 1000000) % 1000000 ≤ 4 ∧ ¬ ((s.elapse 500000).clk + 1000000 - 0 % 1000000) % 1000000 ≤ 4) := by
  refine ⟨?_, ?_, ?_, ?_, ?_, ?_, ?_, ?_⟩
  all_goals repeat' apply And.intro
  all_goals decide +kernel

theorem witness_BanksAndFades :
    (let s := run [(Reg.FIR_COEF_SEL, 47)]
     HostTakes (Reg.FIR_COEF 767) s ∧ s.get ⟨Reg.FIR_COEF_SEL, 5, 0⟩ = 47 ∧ s.fading 47 = false ∧ HostTakes (Reg.FIR_CH_GD_INACT 47) s ∧
      Rw.FIR_CH_GD_INACT.legalOk 100 = true ∧ HostStages (Reg.FIR_CH_FADE 47) s ∧ Rw.FIR_CH_FADE.legalOk (2 ^ 31 + 40) = true ∧
      s.bankOther 47 = [] ∧ 0x80000028 % 2048 = 40) ∧
    (sense [] [] { fir := [(47, { fade := some (0, 5) })] } []).fading 47 = true ∧
    (let s := sense [] [] { fir := [(47, { a := [1], b := [2] })] } []
     s.bankOther 47 ≠ [] ∧ s.rd (Reg.FIR_CH_GD_ACT 47) = s.rd (Reg.FIR_CH_GD_INACT 47)) := by decide +kernel

/-- With a satellite baseband of our own. -/
def nav (l : List (Nat × Nat)) (g : Gns) : State := { run l with gns := g }

theorem witness_ChannelsTrack :
    UnitTakes 10 (run []) ∧ ((run []).put (Fl.GNS_CH_STATUS_STATE 191) 1).chState 191 = 1 ∧ (run []).is Fl.GNS_STATUS_GCLK_LOST = false ∧
    2 ≤ ((run []).put (Fl.GNS_CH_STATUS_STATE 191) 2).chState 191 ∧ (run []).chState 191 = 0 := by decide +kernel

/-- An epoch with a solution. -/
def epoch : PvtIn := { epochOf [] with sol := some ⟨100, 200, 300, 12, 1000, 1000, 0, 0, 0, 0, 0, false⟩, rtkRatio := some 30 }

theorem witness_EpochsGivePositions :
    (nav [] {}).alive = true ∧ (nav [] {}).isOpen 10 = true ∧ (nav [] {}).isOpen 9 = true ∧ (nav [] {}).isOpen 11 = true ∧
    epoch.sol.isSome = true ∧ (epochOf []).sol = none ∧ (nav [] {}).gns.baseAt = none ∧
    (let s := nav [(Reg.GNS_RTCM_CFG, 63)] { base := some (1, 0, 0, 0), baseAt := some 0 }
     s.gns.base = some (1, 0, 0, 0) ∧ (s.elapse 1).baseAge.isSome = true ∧ s.rd Reg.GNS_RTCM_CFG % 64 * 1000 = 63000 ∧ s.gns.rtkRestart = false) ∧
    epoch.rtkRatio = some 30 ∧
    ((run []).wr Reg.FAB_PORT_STATE 0x7FFBFE).isOpen 10 = false ∧ ((run []).wr Reg.FAB_PORT_STATE 0x7FFBFE).isOpen 11 = true ∧
    ((run []).wr Reg.FAB_PORT_STATE 0x7FF3FE).isOpen 11 = false := by
  repeat' apply And.intro
  all_goals decide +kernel

/-- An RTCM frame whose message begins with a number. -/
def rtcm (ty : Nat) : List Nat :=
  let b := [0xD3, 0, 19] ++ toBE 2 (ty * 16) ++ List.replicate 17 0
  b ++ toBE 3 (crc24q b)

theorem witness_CorrectionsAreChecked :
    (let s := (run []).put Fl.GNS_CTL_RTK_SRC 1
     HostTakes Reg.GNS_RTCM_DATA s ∧ s.get Fl.GNS_CTL_RTK_SRC = 1 ∧ s.get ⟨Reg.GNS_RTCM_IGNORED, 15, 0⟩ < 0xFFFF ∧ UnitTakes 10 s ∧
      s.get Fl.GNS_CTL_RTK_SRC ≠ 0 ∧ s.gns.fifo = [] ∧ s.gns.dec = [] ∧ (s.gns.fifo.drop 0).length < 256) ∧
    (256 ≤ (nav [] { fifo := List.replicate 256 1 }).gns.fifo.length ∧ (run []).get Fl.GNS_CTL_RTK_SRC = 0 ∧ UnitTakes 10 (run [])) ∧
    (0xD3 ∉ ([1, 2] : List Nat) ∧ byteAt [0xD3, 0] 0 = 0xD3 ∧ ([0xD3, 0] : List Nat).length < 3 ∧
      byteAt (rtcm 1005) 0 = 0xD3 ∧ (rtcm 1005).length = beAt (rtcm 1005) 1 2 % 1024 + 6 ∧
      crc24q ((rtcm 1005).take 22) = beAt (rtcm 1005) 22 3 ∧ State.bitsAt ((rtcm 1005).drop 3) 0 12 = 1005 ∧
      State.bitsAt ((rtcm 1074).drop 3) 0 12 = 1074 ∧ State.bitsAt ((rtcm 1125).drop 3) 0 12 = 1125 ∧
      State.bitsAt ((rtcm 1019).drop 3) 0 12 = 1019 ∧ State.bitsAt ((rtcm 1033).drop 3) 0 12 = 1033 ∧
      (let f := (rtcm 1005).take 22 ++ [0, 0, 0]; crc24q (f.take 22) ≠ beAt f 22 3 ∧ 0xD3 ∉ f.drop 1)) := by
  repeat' apply And.intro
  all_goals decide +kernel

theorem witness_NotchesFollowLines :
    (let s := (run []).put Fl.GNS_NOTCH_CFG_TH 10 |>.put Fl.GNS_NOTCH_CFG_EN 8
     UnitTakes 10 s ∧ s.get Fl.GNS_NOTCH_CFG_TH < 20 ∧ (s.get Fl.GNS_NOTCH_CFG_EN).testBit 3 = true ∧
      (s.get Fl.GNS_NOTCH_CFG_EN).testBit 0 = false ∧ (∀ i < 4, s.notchOn i 0 = false ∧ s.notchOn i 1 = false)) ∧
    (let s := (run []).put Fl.GNS_NOTCH_CFG_EN 8 |>.flag (Fl.GNS_NOTCH_STATUS_ACTIVE 6) true
     s.notchOn 3 0 = true ∧ s.notchOn 3 1 = false ∧ ((5 : Int) - s.notchFreq 3 0).natAbs ≤ 10 ∧ s.get Fl.GNS_NOTCH_CFG_TH ≤ 20) ∧
    (let s := (run []).put Fl.GNS_NOTCH_CFG_EN 0 |>.flag (Fl.GNS_NOTCH_STATUS_ACTIVE 6) true
     s.get Fl.GNS_NOTCH_CFG_EN = 0 ∧ (∀ k < 4, k ≠ 3 → s.notchOn k 0 = false ∧ s.notchOn k 1 = false) ∧ s.notchOn 3 0 = true) := by
  repeat' apply And.intro
  all_goals decide +kernel

/-- A transaction of one byte out and one in, begun at the start of time. -/
def wire : State := { (run []).wr Reg.GNS_FE_CMD 0x80000808 with gns := { fe := some (0, 5) } }

theorem witness_WireHoldoverAndPulse :
    (HostTakes Reg.GNS_FE_CMD (run []) ∧ Rw.GNS_FE_CMD.legalOk 0x80000808 = true ∧ (run []).is Fl.GNS_FE_CMD_GO = false ∧
      wire.is Fl.GNS_FE_CMD_GO = true ∧ UnitTakes 10 wire ∧ wire.gns.fe = some (0, 5) ∧
      (3 + 2 * wire.get Fl.GNS_FE_CMD_LEN_OUT + (2 + 2 * wire.get Fl.GNS_FE_CMD_LEN_IN)) * 500 = 18500 ∧
      wire.get Fl.GNS_FE_CMD_RATE = 0 ∧ 0 + 18500 ≤ wire.now + 18500 ∧ UnitTakes 11 (run [])) ∧
    (let s := run [] |>.put Fl.TIM_STATUS_QUALITY 3 |>.flag Fl.GNS_PPS_CTL_SUPPRESS_UNQUAL true |>.flag Fl.GNS_PPS_CTL_EN true
     s.get Fl.TIM_STATUS_QUALITY = 3 ∧ s.is Fl.GNS_PPS_CTL_SUPPRESS_UNQUAL = true ∧ s.is Fl.GNS_PPS_CTL_EN = true ∧ s.gns.ppsAt = none ∧
      (((s.elapse 1000000000).clk : Int) - sBits 16 (s.rd Reg.GNS_PPS_OFFSET)) % 1000000000 ≤ 4) ∧
    (let s := (run []).put Fl.TIM_STATUS_QUALITY 2
     s.get Fl.TIM_STATUS_QUALITY = 2 ∧ s.tim.holdAt + s.rd Reg.GNS_HOLD_LIMIT % 65536 * 1000000000 ≤ s.now + 65536000000000) := by
  repeat' apply And.intro
  all_goals decide +kernel

/-! ### Witnesses: the host's part of fusion and the law, and health -/

theorem witness_DecisionsWaitForTheObserverMark :
    HostTakes Reg.FUS_CMD (run []) ∧ 17 % 32 < 18 ∧ 18 ≤ 31 % 32 := by decide +kernel

theorem witness_TheHostSteersTheLaw :
    HostTakes Reg.LOOP_SP_GO (run []) ∧ Rw.LOOP_SP_GO.legalOk 1 = true ∧ Rw.LOOP_SP_GO.legalOk 0 = true ∧ UnitTakes 6 (run []) ∧
    (let s := (run []).put Fl.FUS_DETOUR_LEVEL 4
     s.lawMode = 2 ∧ s.loop.ramp = none ∧ s.loop.joyAt + s.get ⟨Reg.LOOP_JOY_TMO, 15, 0⟩ * 1000000 ≤ s.now + 65535000000) ∧
    (run []).lawMode ≠ 2 ∧ HostStages (Reg.LOOP_SLOT_CTL 95) (run []) := by decide +kernel

/-- The permit in the Kerb's status and slot 95 at a rate. -/
def permit (state : Nat) : State :=
  (run []).flag Fl.KRB_STATUS_TEST_PERMIT true |>.put (Fl.LOOP_SLOT_CFG_RATE 95) 1 |>.put Fl.LOOP_TEST_STATUS_STATE state

theorem witness_TestsNeedThePermit :
    HostTakes Reg.LOOP_TEST_CTL (permit 0) ∧ Rw.LOOP_TEST_CTL.legalOk (2 ^ 31 + 95) = true ∧ (2 ^ 31 + 95) % 128 = 95 ∧
    (permit 0).is Fl.KRB_STATUS_TEST_PERMIT = true ∧ (permit 0).inRun = true ∧ (permit 0).role = 3 ∧ (permit 0).slotRate 95 ≠ 0 ∧
    (permit 0).slotRate 0 = 0 ∧ (permit 1).get Fl.LOOP_TEST_STATUS_STATE = 1 ∧ (permit 0).get Fl.LOOP_TEST_STATUS_STATE ≠ 1 := by
  refine ⟨?_, ?_, ?_, ?_, ?_, ?_, ?_, ?_, ?_, ?_⟩ <;> decide +kernel

theorem witness_CapturesAreArmedAndRead :
    HostTakes (Reg.LOOP_CAP_CTL 1) (run []) ∧ Rw.LOOP_CAP_CTL.legalOk (2 ^ 31) = true ∧ HostTakes (Reg.LOOP_CAP_RDDATA 1) (run []) ∧
    ((run []).put (Fl.LOOP_CAP_STATUS_STATE 1) 3).get (Fl.LOOP_CAP_STATUS_STATE 1) = 3 ∧ (run []).get (Fl.LOOP_CAP_STATUS_STATE 1) ≠ 3 ∧
    (let s := (run []).wr Reg.FAB_PORT_STATE 0; s.alive = true ∧ s.hostClosed (Reg.LOOP_CAP_RDDATA 1) = true) := by decide +kernel

/-- With a health manager of our own. -/
def well (h : Health) : State := { run [] with hlt := h }

theorem witness_SecondsAndCorrectedErrors :
    (run []).alive = true ∧ (run []).log.opsec < 0xFFFFFFFF ∧
    (let s := well { ecc := [(State.eccKey 31 7, List.replicate 7 0)] } |>.put Fl.HLT_VERGE_CTL_ROW_TH 8
     s.get Fl.HLT_VERGE_CTL_ROW_TH ≤
      1 + ((aGetD s.hlt.ecc (State.eccKey 31 7) []).filter (fun u => decide (s.log.opsec < u + 86400))).length) ∧
    0 < ((run []).put (Fl.HLT_MON_STATUS_SPARE_ROWS 58) 2).get (Fl.HLT_MON_STATUS_SPARE_ROWS 58) := by decide +kernel

theorem witness_WearMonitorsJudgeAverages :
    (run []).alive = true ∧ (27 ≤ 30 ∧ 30 ≤ 58) ∧ ¬ (27 ≤ 26 ∧ 26 ≤ 58) ∧ (run []).monState 26 ≠ 3 ∧ (run []).monState 65 ≠ 3 ∧
    (aGetD (well { mons := [(26, ⟨59, 0⟩)] }).hlt.mons 26 {}).above = 59 ∧ (run []).get Fl.HLT_VERGE_CTL_LAT_TH ≤ 2000 := by decide +kernel

theorem witness_SwapsStartAndAbort :
    HostTakes Reg.HLT_VERGE_CMD (run []) ∧ (run []).alive = true ∧
    ((run []).hlt.swap = none ∧ (run []).freeEngines = [16, 17]) ∧
    (well { retired := [16, 17] }).freeEngines = [] ∧
    (let x : SwapSt := { engine := 15, target := 16 }
     (well { swap := some x }).hlt.swap = some x ∧ x.engine < 16 ∧ x.switched = false ∧ ({ x with switched := true } : SwapSt).switched = true) := by
  decide +kernel

theorem witness_SectorsAndSelfChecks :
    (run []).alive = true ∧ (run []).log.sectorCopy = none ∧
    ({ run [] with log := { (run []).log with sectorCopy := some 21 } } : State).log.sectorCopy = some 21 ∧
    0 < (run []).cellsLeft ∧ ((run []).put Fl.SLV_VERGE_SPARES_FREE 0).cellsLeft = 0 ∧
    (run []).hlt.chansDue.length < (run []).get Fl.GNS_VERGE_SPARES_FREE ∧
    ((run []).put Fl.GNS_VERGE_SPARES_FREE 0).get Fl.GNS_VERGE_SPARES_FREE ≤ (run []).hlt.chansDue.length ∧
    (run []).gns.dead.contains 191 = false ∧ (well { retired := [16, 17] }).hlt.retired.contains 17 = true ∧
    (well { retired := [16, 17] }).hlt.retired.contains 15 = false ∧ (well { retired := [16, 17] }).freeEngines = [] ∧
    (well { retired := [16, 17] }).logEng 15 = some 15 := by decide +kernel

/-! ### Witnesses: where each command completes -/

/-- The host's registers that these commands need are open in a state. -/
abbrev taken (s : State) (l : List Nat) : Prop := ∀ a ∈ l, s.hostClosed a = false

theorem witness_PowerCommandsComplete :
    (MayIssue (op0 none false) (withEngines []) ∧ ((withEngines []).tagFor (.eng 0)).isSome = true ∧
      (withEngines []).uidOpen (.eng 15) = true ∧ State.locReserved (.eng 15) (2 ^ 24) = false) ∧
    ((tagsOut false .issued []).fab.tags.find? (·.num == 127) = some ⟨127, op0 none false, 0, 0, false, false, 0, .issued, 0⟩ ∧
      (tagsOut false .issued []).fab.stalled = []) ∧
    (let s := waiting 2 (.unit 1)
     s.units.ready.contains (.unit 1) = true ∧ s.units.since.find? (·.1 == .unit 1) = some (.unit 1, 0, 0) ∧ s.power ≠ 3 ∧
      (s.elapse 1000000).clk % 1000000 ≤ 4 ∧ (s.elapse 1000000).clk / 1000000 ≠ 0) ∧
    (let s := dev 2 0 []
     taken s [Reg.PWR_PARK, Reg.PWR_UNIT_RESET, Reg.PWR_CMD] ∧ Uid.unit 10 ∈ parkable ∧ parkBit (.unit 10) = some 0 ∧
      (s.rd Reg.PWR_PARK &&& Rw.PWR_PARK.mask) = s.rd Reg.PWR_PARK ∧ s.parkAsked (.unit 10) = false ∧
      parkable.any (s.parkRefused (State.putBits (s.rd Reg.PWR_PARK) 0 0 1)) = false ∧ s.role ≠ 4 ∧ s.is Fl.PWR_STATUS_BUSY = false ∧
      s.power = 2 ∧ s.is Fl.SEC_STATUS_JTAG_OPEN = false ∧ s.is Fl.TG_NVW_STATUS_BUSY = false) ∧
    (let s := dev 2 0 [(Reg.PWR_PARK, 1), (Reg.FAB_PORT_STATE, 0x7FFBFE)]
     s.parkAsked (.unit 10) = true ∧ (s.rd Reg.PWR_PARK &&& Rw.PWR_PARK.mask) = s.rd Reg.PWR_PARK ∧
      parkable.any (s.parkRefused (State.putBits (s.rd Reg.PWR_PARK) 0 0 0)) = false) ∧
    ((run []).resetOk 13 = true ∧ (run []).hostClosed Reg.PWR_UNIT_RESET = false) ∧
    ((run []).role ≠ 4 ∧ (run []).is Fl.PWR_STATUS_BUSY = false ∧ (run []).power = 3 ∧ (run []).pwr.rstn = true ∧ held.pwr.rstn = false ∧
      (run []).is Fl.HLT_STATUS_FATAL = false) ∧
    entering.pwr.trans = some ⟨3, some 5⟩ ∧ 5 * 1000000 ≤ (entering.elapse 5000000).clk := by
  refine ⟨⟨⟨by decide +kernel, by decide +kernel, fun o h => absurd h (List.not_mem_nil)⟩, by decide +kernel, by decide +kernel,
    by decide +kernel⟩, ?_, ?_, ?_, ?_, ?_, ?_, ?_, ?_⟩
  all_goals repeat' apply And.intro
  all_goals decide +kernel

theorem witness_LaneCommandsComplete :
    (taken (run []) [Reg.FB_CMP 5, Reg.FB_CMP_CTL 5, Reg.KRB_CONN_CLR] ∧ (run []).isOpen 12 = true ∧ (run []).kerbOn 0 = true ∧
      (run []).kerbOn 1 = true ∧ HostStages (Reg.LANE_CTL 63) (run []) ∧ (run []).role ≠ 2 ∧ (run []).krb.fatalP = false ∧
      (run []).krb.fatalL = false ∧ (run []).power = 3 ∧ (run []).krb.strobe + 1800000 ≤ (run []).now + 1800000 ∧
      (run []).krb.mailL + 1800000 ≤ (run []).now + 1800000) ∧
    aGet ({ run [] with fbk := { pulseAt := [(1, 0)] } } : State).fbk.pulseAt 1 = some 0 ∧
    (let s := ((run []).put (Fl.LANE_STATE_STATE 63) 1).put (Fl.LANE_BIND_FB_AZ 63) 5
     HostStages (Reg.LANE_AZ_SET 63) s ∧ s.laneState 63 = 1 ∧ s.fbAz 63 < 6) ∧
    (let s := (kerb [] { conn := [(127, { age := 300 })] }).put (Fl.KRB_CONN_STATUS_STATE 127) 2
     s.kerbOn (127 % 2) = true ∧ s.get (Fl.KRB_CONN_STATUS_STATE 127) = 2 ∧ (s.connImage 127).2.1 ≤ (s.kconn 127).age ∧
      (s.kconn 127).fallAt + 900000000000 ≤ s.now + 900000000000) ∧
    ((laneAt 0 1).hostClosed Reg.KRB_ACK = false ∧
      (∀ m ∈ (laneAt 0 1).ackLanes 0 (some 63), ((laneAt 0 1).kl 0 m).viol = [] ∧ ((laneAt 0 1).kl 1 m).viol = []) ∧
      (∀ m ∈ (laneAt 0 1).ackLanes 8 none, ((laneAt 0 1).kl 0 m).viol = [] ∧ ((laneAt 0 1).kl 1 m).viol = [])) ∧
    (let s := (kerb [] {}).put (Fl.KRB_SO_STATUS_FAULT 3) 2
     s.hostClosed Reg.KRB_ACK = false ∧ s.soFaultOf 3 ≠ 0 ∧ (s.soCh 3).hP.stands = false ∧ (s.soCh 3).lP.stands = false ∧
      (s.soCh 3).hL.stands = false ∧ (s.soCh 3).lL.stands = false) ∧
    ((dev 2 0 []).isOpen 15 = true ∧ (dev 2 0 []).pwr.trans = none ∧ (dev 2 0 []).krb.changed = false ∧ (dev 2 0 []).inRun = false) ∧
    (let s := kerb [] { so := [(3, channel true true)] }
     s.kerbOn 0 = true ∧ s.kerbOn 1 = true ∧ s.soFaultOf 3 = 0 ∧ (s.soCh 3).hP = ⟨3, true, true, 0⟩ ∧ (s.soCh 3).hL = ⟨3, true, true, 0⟩ ∧
      (s.soCh 3).lP = ⟨3, false, false, 0⟩ ∧ (s.soCh 3).lL = ⟨3, false, false, 0⟩ ∧ (s.soCh 3).hs.test = false ∧
      (s.soCh 3).ls.test = false ∧ (s.soCh 3).changedAt + 50000 ≤ s.now + 50000) ∧
    (let s := testing false 7 0
     s.soFaultOf 3 = 0 ∧ s.kerbOn 0 = true ∧ (s.soCh 3).hs.on = true ∧ (s.soCh 3).hs.test = false ∧ (s.soCh 3).ls.test = false ∧
      testDue (s.soCh 3).hs (s.now + 0) = true ∧ (s.soCh 3).hs.missed < 8) ∧
    (let s := testing true 0 0
     s.soFaultOf 3 = 0 ∧ (s.soCh 3).hs.test = true ∧ (s.soCh 3).ls.test = false ∧ (s.soCh 3).ls.want = false ∧
      (s.soCh 3).hP.stands = false ∧ (s.soCh 3).hP.since ≤ (s.soCh 3).changedAt + s.testWidth) := by
  repeat' apply And.intro
  all_goals decide +kernel

theorem witness_HealthCommandsComplete :
    (run []).alive = true ∧ (run []).log.secAt + 1000000000 ≤ (run []).now + 1000000000 ∧ (run []).log.opsec < 0xFFFFFFFF ∧
    (run []).monState 65 ≠ 3 ∧
    (let s := ((run []).put (Fl.HLT_MON_STATUS_SPARE_ROWS 58) 2).put Fl.HLT_VERGE_CTL_ROW_TH 1
     0 < s.get (Fl.HLT_MON_STATUS_SPARE_ROWS (27 + 31)) ∧ s.get Fl.HLT_VERGE_CTL_ROW_TH ≤ 1) ∧
    ({ run [] with log := { (run []).log with sectorCopy := some 21 } } : State).log.sectorCopy.isSome = true ∧
    (run []).hostClosed Reg.HLT_VERGE_CMD = false ∧ (run []).hlt.swap = none ∧ (run []).freeEngines ≠ [] ∧
    (well { swap := some { engine := 15, target := 16 } }).hlt.swap.map (·.switched) = some false ∧
    ((run []).put Fl.SLV_VERGE_SPARES_FREE 0).cellsLeft = 0 := by
  repeat' apply And.intro
  all_goals decide +kernel

theorem witness_SensorCommandsComplete :
    (iec.alive = true ∧ iec.isOpen 8 = true ∧ (rx (hdt [])).lost = 0 ∧ iec.get (Fl.SNS_PORT_CFG_MODE 0) = 1 ∧
      sentenceBody (hdt []) = some (none, ((hdt []).drop 1).take 12) ∧ iec.is (Fl.SNS_PORT_CFG_CSUM_OPT 0) = false ∧
      (iec.flag (Fl.SNS_PORT_CFG_CSUM_OPT 0) true).is (Fl.SNS_PORT_CFG_CSUM_OPT 0) = true) ∧
    (beAt (binF 0) 2 2 = 3 ∧ byteAt (binF 0) 0 = 1 ∧ ([0xAA, 0, 7] : List Nat).take 1 = ((binF 0).drop 4).take 1 ∧
      byteAt (binF 0) 11 + checkSize (byteAt (binF 0) 1) ≤ 3 ∧ byteAt (binF 0) 1 = 0 ∧ byteAt (binF 0) 13 = 1) ∧
    (taken (run []) [Reg.SNS_PORT_TXDATA 4, Reg.SNS_PORT_STATUS 4, Reg.FIR_COEF 767, Reg.FIR_CH_GD_INACT 47] ∧ ((run []).port 4).tx = []) ∧
    (let s := { smp 31 0 with sns := {} }
     s.isOpen 8 = true ∧ s.is Fl.SNS_SMP_CFG_EN = true ∧ frameDueAt s (s.now + 0) = true ∧ s.sns.frame = none) ∧
    ((smp 31 0).sns.frame = some (2000000, 2000000) ∧ 2000000 + 1000000000 ≤ (smp 31 0).now + 1002000000) ∧
    ((trig []).isOpen 8 = true ∧ (trig []).is (Fl.SNS_TRIG_CTL_EN 1) = true ∧ (trig []).clock.running = true ∧
      aGetD (trig []).sns.edges 1 [] = [] ∧ (trig []).rd (Reg.SNS_TRIG_PERIOD 1) % 2 ^ 20 = 1000 ∧
      ((trig []).elapse 0).clk % 1000000 = 0 ∧ (trig []).rd (Reg.SNS_TRIG_PHASE 1) = 0) ∧
    (let r := rec 47 1 0 1 0 [0, 0, 0] 0; let s := sense [r] [] { strm := [(47, { last := some 5, lastAt := 0 })] } []
     s.pathOpen = true ∧ strRec s 47 = some r ∧ (s.strm 47).last = some 5 ∧
      (s.strm 47).lastAt + byteAt r 22 * strNom r * 1000 ≤ s.now + 4000000) ∧
    (let s := sense [] [] { fir := [(47, { b := [2] })] } [(Reg.FIR_COEF_SEL, 47)]
     s.get ⟨Reg.FIR_COEF_SEL, 5, 0⟩ = 47 ∧ s.fading 47 = false ∧ HostStages (Reg.FIR_CH_FADE 47) s ∧
      Rw.FIR_CH_FADE.legalOk (2 ^ 31 + 40) = true ∧ s.bankOther 47 ≠ [] ∧ s.rd (Reg.FIR_CH_GD_ACT 47) = s.rd (Reg.FIR_CH_GD_INACT 47) ∧
      Rw.FIR_CH_GD_INACT.legalOk 100 = true) := by
  repeat' apply And.intro
  all_goals decide +kernel

theorem witness_BasebandCommandsComplete :
    ((run []).isOpen 10 = true ∧ (run []).isOpen 11 = true ∧ (run []).is Fl.GNS_STATUS_GCLK_LOST = false ∧
      taken (run []) [Reg.GNS_FE_CMD, Reg.GNS_RTCM_DATA] ∧ Rw.GNS_FE_CMD.legalOk 0x80000808 = true ∧
      (run []).is Fl.GNS_FE_CMD_GO = false) ∧
    ((run []).put (Fl.GNS_CH_STATUS_STATE 191) 1).chState 191 = 1 ∧ 2 ≤ ((run []).put (Fl.GNS_CH_STATUS_STATE 191) 2).chState 191 ∧
    (wire.is Fl.GNS_FE_CMD_GO = true ∧ wire.gns.fe = some (0, 5) ∧ 0 + 100000 ≤ wire.now + 100000) ∧ epoch.sol.isSome = true ∧
    (let s := (run []).put Fl.TIM_STATUS_QUALITY 2
     s.get Fl.TIM_STATUS_QUALITY = 2 ∧ s.tim.holdAt + s.rd Reg.GNS_HOLD_LIMIT % 65536 * 1000000000 ≤ s.now + 65536000000000) ∧
    (let s := (run []).put Fl.GNS_CTL_RTK_SRC 1
     s.get Fl.GNS_CTL_RTK_SRC = 1 ∧ s.gns.fifo = [] ∧ s.gns.dec = [] ∧ byteAt (rtcm 1005) 0 = 0xD3 ∧
      (rtcm 1005).length = beAt (rtcm 1005) 1 2 % 1024 + 6 ∧ crc24q ((rtcm 1005).take 22) = beAt (rtcm 1005) 22 3 ∧
      State.bitsAt (((rtcm 1005).drop 3).take 19) 0 12 = 1005) ∧
    (let s := (run []).put Fl.GNS_NOTCH_CFG_TH 10 |>.put Fl.GNS_NOTCH_CFG_EN 8
     s.get Fl.GNS_NOTCH_CFG_TH < 20 ∧ (s.get Fl.GNS_NOTCH_CFG_EN).testBit 3 = true ∧ s.notchOn 3 0 = false ∧ s.notchOn 3 1 = false) ∧
    (let s := (run []).flag Fl.GNS_PPS_CTL_EN true |>.flag Fl.GNS_PPS_CTL_SUPPRESS_UNQUAL false
     (((s.elapse 0).clk : Int) - sBits 16 (s.rd Reg.GNS_PPS_OFFSET)) % 1000000000 = 0 ∧ s.gns.ppsAt = none ∧
      s.is Fl.GNS_PPS_CTL_EN = true ∧ s.is Fl.GNS_PPS_CTL_SUPPRESS_UNQUAL = false) := by
  repeat' apply And.intro
  all_goals decide +kernel

theorem witness_LoopCommandsComplete :
    (taken (run []) [Reg.FUS_CMD, Reg.LOOP_SP_GO, Reg.LOOP_TEST_CTL, Reg.LOOP_CAP_CTL 1, Reg.LOOP_CAP_RDDATA 1] ∧ (run []).isOpen 6 = true ∧
      Rw.LOOP_SP_GO.legalOk 1 = true ∧ HostStages (Reg.LOOP_SLOT_CTL 95) (run []) ∧ Rw.LOOP_CAP_CTL.legalOk (2 ^ 31) = true) ∧
    (let s := (run []).put Fl.FUS_DETOUR_LEVEL 4
     s.lawMode = 2 ∧ s.loop.ramp = none ∧ s.loop.joyAt + s.get ⟨Reg.LOOP_JOY_TMO, 15, 0⟩ * 1000000 ≤ s.now + 65535000000) ∧
    (Rw.LOOP_TEST_CTL.legalOk (2 ^ 31 + 95) = true ∧ (permit 0).is Fl.KRB_STATUS_TEST_PERMIT = true ∧ (permit 0).inRun = true ∧
      (permit 0).role = 3 ∧ (permit 0).slotRate ((2 ^ 31 + 95) % 128) ≠ 0 ∧ (permit 1).get Fl.LOOP_TEST_STATUS_STATE = 1) ∧
    ((run []).put (Fl.LOOP_CAP_STATUS_STATE 1) 3).get (Fl.LOOP_CAP_STATUS_STATE 1) = 3 := by
  repeat' apply And.intro
  all_goals decide +kernel

/-- The pair that node 1 follows. -/
def led (g : Ring) : State := node 2 3 [(Reg.RED_EPOCH, 5), (Reg.RED_OWNER, 9)] g

theorem witness_RingCommandsComplete :
    (let s := ({ node 2 3 [] {} with pins := { (node 2 3 [] {}).pins with bypA := true } } : State).flag (Fl.RING_PORT_STATUS_LINK 1) false
     s.is Fl.RING_CFG_AN_EN = true ∧ (0x41 : Nat).testBit 0 = true ∧ s.holdOf (1 / 2) = true ∧ s.is (Fl.RING_PORT_STATUS_LINK 1) = false ∧
      s.is (Fl.RING_PORT_STATUS_LINK_REFUSED 1) = false) ∧
    (let s := node 3 0 [] {}
     s.isOpen 16 = true ∧ s.power = 3 ∧ s.ringState 0 = 0 ∧ s.holdOf 0 = false ∧ s.leaving 0 = false ∧ s.released 0 = false ∧
      taken s [Reg.RING_CTL, Reg.RING_MGMT_TX_CTL, Reg.RING_MGMT_RX_POP]) ∧
    (let s := node 2 3 [] { noSync := 3 }; s.isMaster 0 = false ∧ s.isMaster 1 = false ∧ 3 ≤ s.ring.noSync) ∧
    (let x := sync 9 5 9 8; let f := bytesNat x.bytes; let s := led { hasPair := true }
     EnrumFrame 1 x s ∧ beAt f 14 2 = 72 ∧ beAt f 2 2 ≠ s.address ∧ s.is Fl.RING_CFG_JUNCTION = false ∧ s.ring.hasPair = true ∧
      beAt f 18 4 = s.rd Reg.RED_EPOCH ∧ beAt f 16 2 = s.rd Reg.RED_OWNER ∧ s.following = false ∧ s.firstOf 1 0 = true ∧ s.role ≠ 1) ∧
    (let x := efr 2 9 0xFFFF 8 2 []; let s := led {}
     FreshFrame 2 x s ∧ beAt (bytesNat x.bytes) 2 2 = s.rd Reg.RED_OWNER ∧ s.firstOf 2 0 = true) ∧
    (let x := efr 3 9 0xFFFF 8 2 (slot 254 1); let f := bytesNat x.bytes; let s := node 2 3 [] {}
     FreshFrame 3 x s ∧ beAt f 14 2 = 12 ∧ byteAt f 22 = 0 ∧ byteAt f 23 = 0 ∧ beAt f 18 2 ≤ 12 ∧ byteAt f 20 = 1 ∧
      beAt f 16 2 ≠ s.address) ∧
    (let x := efr 4 9 0xFFFF 8 2 ([255, 0, 0, 0] ++ toBE 4 5 ++ List.replicate 256 7); let s := node 2 3 [] {}
     FreshFrame 4 x s ∧ aGet s.ring.pages (byteAt (bytesNat x.bytes) 16) = none) ∧
    (EnrumFrame 5 (mgmt 1) (node 2 3 [] {}) ∧ beAt (bytesNat (mgmt 1).bytes) 2 2 ≠ (node 2 3 [] {}).address ∧
      beAt (bytesNat (mgmt 1).bytes) 4 2 = (node 2 3 [] {}).address ∧ (node 2 3 [] {}).firstOf 5 (9 * 2 ^ 16 + 7) = true ∧
      byteAt (bytesNat (mgmt 1).bytes) 16 = 1 ∧ beAt (bytesNat (mgmt 1).bytes) 18 2 = 7) ∧
    (node 2 3 [] {}).carries ((efr 7 9 0xFFFF 8 2 []).port % 4) = true ∧
    (Rw.RING_MGMT_TX_CTL.legalOk (2 ^ 31 + 2 ^ 16 * 4) = true ∧ (2 ^ 31 + 2 ^ 16 * 4).testBit 31 = true) ∧
    (let m : MgmtMsg := ⟨1, 3, 1, 7, []⟩
     let s := node 2 3 [] { txq := [m], ownWin := (0, 12000), win := (0, 12000) }
     let size := ((s.mgmtFrame m.src m).length + 18) + (64 - ((s.mgmtFrame m.src m).length + 18))
     s.ring.txq = [m] ∧ m.ring < 2 ∧ 10 * s.window.1 ≤ s.now + 0 - s.ring.boundAt ∧
      s.now + 0 - s.ring.boundAt + (size + 20) * 8 ≤ 10 * s.window.2) := by
  repeat' apply And.intro
  all_goals decide +kernel

theorem witness_TimeCommandsComplete :
    (let s := timed 1 good {} []; let m := ptp .pdelayReq 0
     s.isOpen 11 = true ∧ m.domain = s.get Fl.TIM_PTP_CFG_DOMAIN ∧ m.port < 4 ∧ s.carries m.port = true ∧ m.kind = .pdelayReq ∧
      ptpFailed s 2 (s.now + 3600000000000) = true ∧ taken s [Reg.TIM_JUMP_CTL, Reg.TIM_NOW_NS] ∧
      (s.flag Fl.TIM_STATUS_JUMP_PENDING true).is Fl.TIM_STATUS_JUMP_PENDING = true) ∧
    (let s : State := { timed 1 good { step := some (-5), accepted := true } [] with clock := { (run []).clock with t := (10 ^ 9 - 4) * 2 ^ 32 } }
     s.tim.step = some (-5) ∧ (s.elapse 4).clk % 10 ^ 9 ≤ 4 ∧ s.tim.stepSec < (s.elapse 4).clk / 10 ^ 9) ∧
    (let s := timed 1 good { slewLeft := 1 } [(Reg.TIM_SLEW, 1000)]
     s.tim.slewLeft.natAbs * 10 ^ 9 ≤ (s.now + 1000000 - s.tim.slewFrom) * s.rd Reg.TIM_SLEW) ∧
    (let s := timed 1 good {} []
     let s : State := { s with ring := { s.ring with ownWin := (0, 12000), win := (0, 12000) } }
     aGet s.tim.txAt (2 * 8 + 3) = none ∧ (s.elapse 0).inWindow 54 = true) := by
  repeat' apply And.intro
  all_goals decide +kernel

theorem witness_PairCommandsComplete :
    (let s := pair 3 3 [] {}
     s.isOpen 17 = true ∧ s.power = 3 ∧ s.role ≠ 4 ∧ s.hasPartner = true ∧ s.red.cwLink = true ∧ (s.now + 3 - s.ring.boundAt) % 125000 < 4) ∧
    (let f := bytesNat ((beat 2).map (BitVec.ofNat 8)); PartnerHeartbeat f (pair 3 3 [] {}) ∧ byteAt f 16 ≠ 3) ∧
    ((pair 3 1 [] { edgeAt := some 0 }).red.edgeAt = some 0 ∧ 0 + 40000 ≤ (pair 3 1 [] {}).now + 40000) ∧
    (let s := pair 3 3 [] { cwAt := some 0, hbAt := some 375000 }
     s.is Fl.RED_STATUS_CW_SILENT = false ∧ s.red.cwAt = some 0 ∧ 0 + 375000 ≤ s.now + 375000 ∧
      quietAt (s.now + 375000) s.red.hbAt = false) ∧
    (let s := pair 3 3 [] { cwAt := some 10000000, cwFault := true }
     s.red.cwFault = true ∧ quietAt (s.now + 10000000) s.red.cwAt = false ∧ s.red.cwSince + 10000000 ≤ s.now + 10000000) ∧
    (let s := pair 3 2 [] {}
     PartnerData 0x11 (frag 0x11 0 0 2 5 [1]) s ∧ s.role = 2 ∧ s.red.exch = none ∧ byteAt (frag 0x11 0 0 2 5 [1]) 16 = 0) ∧
    (let s := pair 3 1 [] { resyncFrom := some 0 }
     PartnerData 0x12 (frag 0x12 0 0 2 5 [1]) s ∧ s.role = 1 ∧ s.red.resyncFrom.isSome = true ∧ beAt (frag 0x12 0 0 2 5 [1]) 18 2 = 0) ∧
    (let s := pair 3 2 [] { loaded := true, fast := whole0 0xFFFFFFFF }
     s.inRun = true ∧ s.cyc.voided = false ∧ 13 ∉ s.cyc.marks ∧ s.cyc.boundaryAt + 400000 ≤ s.now + 400000 ∧ s.hasPartner = true ∧
      s.role = 2 ∧ s.red.loaded = true ∧ s.cyc.leg ≠ 4 ∧ State.msDone s.red.fast = some ((s.cyc.pace + 2 ^ 32 - 1) % 2 ^ 32, [])) ∧
    (let s := (pair 3 3 [] { cwAt := some 0, hbAt := some 0, partnerCurrent := true }).put Fl.RED_STATUS_PARTNER_ROLE 2
     s.hostClosed Reg.RED_CMD = false ∧ s.role = 3 ∧ s.red.exch = none ∧ s.red.exchAsked = none ∧ s.get Fl.RED_STATUS_PARTNER_ROLE = 2 ∧
      s.red.partnerCurrent = true ∧ s.red.cwFault = false ∧ s.red.hbFault = false ∧ quietAt (s.now + 7) s.red.cwAt = false ∧
      s.red.partnerLayout = s.layoutId) ∧
    (let s := (pair 3 2 [] {}).put Fl.RED_STATUS_PARTNER_ROLE 2
     s.hostClosed Reg.RED_CMD = false ∧ s.role = 2 ∧ s.get Fl.RED_STATUS_PARTNER_ROLE = 2 ∧ State.msDone s.red.fast = none ∧
      s.red.fullDone = []) ∧
    (let s := (dev 3 2 []).flag Fl.RED_STATUS_RING_STANDBY true |>.put Fl.RED_CFG_TAKE_WAIT 2
     s.isOpen 17 = true ∧ s.inRun = true ∧ s.role = 2 ∧ s.is Fl.RED_STATUS_RING_STANDBY = true ∧ s.hasPartner = false ∧
      s.ring.lastSyncNow.getD s.red.waitFrom + s.get Fl.RED_CFG_TAKE_WAIT * 1000000 ≤ s.now + 2000000) ∧
    (let s := pair 3 1 [] { waitCycles := 64 }
     s.inRun = true ∧ s.role = 1 ∧ s.red.heardOwner = false ∧ 64 ≤ s.red.waitCycles ∧
      s.red.waitFrom + 64 * s.cycleNs + 2000000000 ≤ s.now + 64 * s.cycleNs + 2000000000) := by
  repeat' apply And.intro
  all_goals decide +kernel

theorem witness_HostCommandsComplete :
    ((run []).tg.armed = none ∧ (run []).freeze = none ∧ ({ run [] with freeze := some 100 } : State).freeze.isSome = true ∧
      (run []).inRun = true) ∧
    (let s : State := { dev 2 0 [] with freeze := some 1 }; s.inRun = false ∧ 1 + s.frozenMs ≤ (s.elapse 1000000).ms) ∧
    (HostQuiet (run []) ∧ (run []).pins.hRdy = true ∧
      bytesNat (frame (writeBytes Reg.GLB_SCRATCH 0xA5000001)).mosi = writeBytes Reg.GLB_SCRATCH 0xA5000001 ∧
      (bytesNat (frame (readBytes Reg.GLB_SCRATCH ++ List.replicate 8 0)).mosi).take 7 = readBytes Reg.GLB_SCRATCH) ∧
    (findRow Reg.HIF_IRQ_EN = some Rw.HIF_IRQ_EN ∧ Rw.HIF_IRQ_EN.acc = .rw ∧ Rw.HIF_IRQ_EN.w1c = 0 ∧ Rw.HIF_IRQ_EN.base ∉ ownWrites ∧
      Rw.HIF_IRQ_EN.legalOk 1 = true ∧ (run []).hostClosed Reg.HIF_IRQ_EN = false ∧ Reg.LOOP_ORIGIN_CTL < Rw.HIF_IRQ_EN.base) ∧
    ((run []).hostClosed Reg.TIM_PTP_GM_LO = false ∧ findRow Reg.TIM_PTP_GM_LO = some Rw.TIM_PTP_GM_LO ∧ Rw.TIM_PTP_GM_LO.acc = .ros ∧
      Rw.TIM_PTP_GM_LO.base ∉ ownReads ∧ State.isSection Rw.TIM_PTP_GM_LO.base = false ∧ Reg.TIM_PTP_GM_LO / 0x10000 < 0x20) ∧
    taken (run []) [Reg.FAB_CNT_CLR, Reg.ENG_CNT_CLR, Reg.SNS_CNT_CLR, Reg.GNS_CNT_CLR, Reg.FUS_CNT_CLR, Reg.ALC_CNT_CLR, Reg.SLV_CNT_CLR,
      Reg.HZN_CNT_CLR, Reg.FBK_CNT_CLR, Reg.LANE_CNT_CLR 63, Reg.KRB_CNT_CLR, Reg.RING_CNT_CLR, Reg.TIM_CNT_CLR, Reg.RED_CNT_CLR,
      Reg.TG_CNT_CLR, Reg.SEC_CNT_CLR, Reg.LOG_CNT_CLR, Reg.HIF_CNT_CLR, Reg.PWR_CNT_CLR, Reg.HLT_CNT_CLR] ∧
    Rw.SNS_CNT_CLR.legalOk 0x40 = true ∧ (0x40 : Nat).testBit 6 = true := by
  repeat' apply And.intro
  all_goals decide +kernel

theorem witness_RecordAndConfigurationCommandsComplete :
    ((run []).isOpen 18 = true ∧ (21 : Nat) ∈ recordUnits ∧
      taken (run []) [Reg.LOG_CMD, Reg.LOG_RD_INDEX, Reg.LOG_RD_DATA 7]) ∧
    (let s : State := { dev 2 0 [] with sec := { rsk := some [] } }
     s.hostClosed Reg.LOG_CMD = false ∧ s.sec.rsk.isSome = true ∧ s.is Fl.LOG_VERIFY_BUSY = false ∧ s.power = 2 ∧
      s.is Fl.LOG_STATUS_CLEARING = false) ∧
    ((verifying [seal1]).is Fl.LOG_VERIFY_BUSY = true ∧ (verifying [seal1]).sec.rsk.isSome = true) ∧
    (withLog 2 { clearPending := true }).log.clearPending = true ∧
    ((gate 2 0 {} []).isOpen 19 = true ∧ (gate 2 0 {} []).get Fl.TG_STATUS_STATE = 0 ∧ (gate 2 0 {} []).tg.entries.length < 4096 ∧
      (gate 2 2 {} []).get Fl.TG_STATUS_STATE = 2 ∧ (gate 2 3 {} []).get Fl.TG_STATUS_STATE = 3 ∧ (gate 2 3 {} []).inRun = false ∧
      (gate 3 4 { armed := some (1, 9) } []).get Fl.TG_STATUS_STATE = 4) ∧
    NoCommitDue (gate 2 0 {} []) ∧
    (let s := dev 2 0 [(Reg.TG_NVW_PAGE, 256)]
     s.is Fl.TG_NVW_STATUS_BUSY = false ∧ s.nvwAddr 0 / quarterOf s.ldr ≠ 0 ∧ s.nvwAddr 0 / quarterOf s.ldr ≠ s.get Fl.TG_BOOT_SLOT) ∧
    ((nvw (some (3, 2)) []).ldr.cmd.isSome = true ∧ (nvw (some (3, 2)) []).pwr.quietWait = false) ∧
    blank.power = 1 ∧ blank.is Fl.TG_BOOT_FAILED = false := by
  refine ⟨?_, ?_, ?_, ?_, ?_, fun m h => absurd (show (none : Option (Nat × Nat)) = some (0, m) from h) (by simp), ?_, ?_, ?_, ?_⟩
  all_goals repeat' apply And.intro
  all_goals decide +kernel

theorem witness_SecurityCommandsComplete :
    (let s := secure {}
     s.alive = true ∧ s.isOpen 20 = true ∧ taken s [Reg.SEC_CMD, Reg.SEC_EXPORT_DATA, Reg.SEC_ALARM_CLR] ∧ s.is Fl.SEC_RESULT_BUSY = false ∧
      s.power = 2 ∧ s.sec.kek = none ∧ s.sec.dik = none ∧ (0x2 : Word).toNat.testBit 1 = true ∧ (s.elapse 0).causePresent 1 = false) ∧
    ((secure {}).flag Fl.SEC_STATUS_ERASE_PENDING true).is Fl.SEC_STATUS_ERASE_PENDING = true ∧
    (let s := secure { kek := some kek0, skeyBuf := [(11, 0x67F83EAE), (12, 0xAF994EBE), (13, 0x61F60B5D), (14, 0x40AA3AAE)] }
     s.sec.kek = some kek0 ∧ bufBytes s.sec.skeyBuf 15 = skeyBuf 0) ∧
    gcmTag kek0 ((skeyBuf 0).take 12) [] (((skeyBuf 0).drop 12).take 32) = (skeyBuf 0).drop 44 ∧
    (aGet (secure { skeys := [(3, kek0)] }).sec.skeys 3).isSome = true ∧ (secure { exportQ := [1] }).sec.exportQ = [1] ∧
    (secure { dik := some 1 }).sec.dik.isSome = true ∧ (secure { attest := some (1, 2) }).sec.attest.isSome = true ∧
    (let s := (secure {}).flag Fl.SEC_JTAG_CTL_PERMIT true; s.is Fl.SEC_JTAG_CTL_PERMIT = true ∧ s.isOpen 20 = true) := by
  refine ⟨?_, by decide +kernel, ⟨rfl, rfl⟩, witness_SecurityCommandsAct.2.1, by decide +kernel, by decide +kernel, by decide +kernel,
    by decide +kernel, by decide +kernel⟩
  repeat' apply And.intro
  all_goals decide +kernel

end Sys2Proof.Tests
end

section
/-! Proofs/CycleRefuted: statements on the station-keeping cycle that fail, each by a state on which the model runs. Every one of
them is about all states, and its state holds a number that the loader or the Tollgate's check would not let in, or a fabric write
that takes effect at the mark. -/

namespace Sys2Proof.Proofs.Cycle

open Sys2Proof Sys2Proof.Machine Sys2Proof.Safety

/-! ### States of the counterexamples -/

/-- What a function of the next state gives for an outcome; `d` where there is no next state. -/
def seen {α : Type} (d : α) (f : State → α) : Host.Outcome State Fault Refusal → α
  | .next t => f t
  | _ => d

theorem seen_next {α : Type} {d : α} {f : State → α} {o : Host.Outcome State Fault Refusal} {t : State} (h : o = .next t) :
    seen d f o = f t := by rw [h]; rfl

/-- In RUN and ACTIVE with every unit's ports open and pace work running, at a pace of the leg. -/
def inPace (leg : Nat) : State :=
  let s := ((State.reset.put Fl.PWR_STATUS_STATE 3).put Fl.RED_STATUS_ROLE 3).wr Reg.FAB_PORT_STATE 0x7FFFFE
  { s with cyc := { s.cyc with active := true, leg := leg } }

/-- One graph in the image, placed on logical engine `n`. Nothing in a statement over all states keeps `n` below 16, and the
counters of an engine past the sixteenth lie on registers of other units. -/
def withGraph (s : State) (g : Bytes) (n : Nat) : State :=
  { s with ldr := { s.ldr with sections := [(1, toBE 2 1 ++ [0, 0] ++ g)], graphsAt := [(0, n)] } }

/-- A graph of group 0 without instances, by its START_MARK and END_MARK (R74). -/
def bareGraph (start stop : Nat) : Bytes :=
  toBE 2 0 ++ [0, 0, 0, start, stop, 0] ++ List.replicate 20 0 ++ toBE 4 32

/-- A graph of group 0 whose HOLD (R70) starts with 2^127 and feeds a GAIN of 2^127: its run overflows binary32 (R72). -/
def overflowingGraph (start : Nat) : Bytes :=
  let unused := [0xFF, 0xFF]
  let inst (code : Nat) (input : Bytes) (output : Nat) : Bytes :=
    [code, 0] ++ toBE 2 1 ++ toBE 4 0 ++ input ++ unused ++ unused ++ unused ++ toBE 2 output ++ unused ++ toBE 4 0
  toBE 2 0 ++ [0, 0, 0, start, 0, 0] ++ toBE 2 2 ++ toBE 2 2 ++ toBE 4 0 ++ toBE 4 32 ++ toBE 4 40 ++ toBE 4 88 ++ toBE 4 92 ++
    ([0, 0] ++ toBE 2 1) ++ ([0, 0] ++ toBE 2 1) ++ inst 0x0F unused 0 ++ inst 0x01 (toBE 2 0) 1 ++ toBE 4 0x7F000000

/-- A graph that ends at mark `stop` with an invalid output waiting, placed so that ENG[n]_INVALID is register `a`. -/
def invalidAt (s : State) (stop a : Nat) : State :=
  let s := withGraph s (bareGraph 0 stop) ((a - Reg.ENG_INVALID 0) / 0x40)
  { s with eng := { s.eng with runs := [(0, [(0, [])])] } }

/-- A graph that overflows at mark `start`, placed so that ENG[n]_SAT is register `a`. -/
def overflowAt (s : State) (start a : Nat) : State :=
  withGraph s (overflowingGraph start) ((a - Reg.ENG_SAT 0) / 0x40)

/-- Lane 62 in use and ACTIVE, and an invalid output counted on its thrust command. -/
def thrustCounted : State :=
  invalidAt (((inPace 0).flag (Fl.LANE_BIND_ENABLED 62) true).put (Fl.LANE_STATE_STATE 62) 2) 3 (Reg.LANE_CMD_T 62)

/-- After the command mark lane 62's thrust command is the count, and not its allocation. -/
theorem thrustCounted_commandMark {t : State} (h : exec (.commandMark 0) thrustCounted = .next t) :
    t.rd (Reg.LANE_CMD_T 62) ≠ thrustCounted.rd (Reg.ALC_LANE_CMD_T 62) := by
  rw [← seen_next (d := 0) (f := fun t => t.rd (Reg.LANE_CMD_T 62)) h]
  decide +kernel

/-- Refutes O15: an invalid output of a graph that ends at the command mark is counted (R71) after the commands are set, and on an
engine number past the sixteenth ENG[n]_INVALID is a lane's LANE_CMD_T. -/
theorem not_commandMarkHandsOverCommands : ¬ Obligations.CommandMarkHandsOverCommands := by
  intro h
  obtain ⟨t, ht, -, hl⟩ := (h 0 thrustCounted (by decide +kernel)).2 (by decide +kernel)
  obtain ⟨hactive, -, -⟩ := hl 62 (by decide +kernel) (by decide +kernel)
  exact thrustCounted_commandMark ht (hactive (by decide +kernel) (by decide +kernel)).2


/-- Refutes O56 by the same run: its clause on the command mark says the same of LANE_CMD_T. -/
theorem not_cycleCommandsComplete : ¬ Obligations.CycleCommandsComplete := by
  intro h
  obtain ⟨-, -, -, -, -, -, -, hcommand, -⟩ := h 0 0 false none [] [] [] thrustCounted (by decide +kernel)
  obtain ⟨t, ht, -, hlanes⟩ := hcommand (by decide +kernel) (by decide +kernel)
  exact thrustCounted_commandMark ht (hlanes 62 (by decide +kernel) (by decide +kernel) (by decide +kernel))

/-! ### A commit of the Tollgate at the pace boundary -/

/-- At the last pace of the leg with an IMMEDIATE commit due whose one entry rewrites the legs' length in RING_TIME (R367). -/
def legResized : State :=
  let s := inPace 9
  { s with ldr := { s.ldr with sections := [(8, List.replicate 20 0)] }
           tg := { s.tg with armed := some (0, 0), entries := [(2 ^ 31 + 8 * 2 ^ 24 + 12, 0x00140000)] } }

/-- Refutes O13: an armed commit takes effect before the phases advance, and nothing in a statement over all states keeps its
entries to stageable fields (R375). The leg of 10 paces is 20 paces long by the time its tenth pace ends. -/
theorem not_pacesBegin : ¬ Obligations.PacesBegin := by
  intro h
  obtain ⟨-, -, -, -, hphases, -⟩ := h 0 legResized (by decide +kernel)
  obtain ⟨t, ht, hleg, -⟩ := hphases (by decide +kernel)
  rw [← seen_next (d := 0) (f := fun t => t.cyc.leg) ht] at hleg
  exact absurd hleg (by decide +kernel)

/-! ### A run-ahead that resets its own unit -/

/-- The run-ahead of this pace is solved and good, and its provisional write (R58) is one of PWR_UNIT_RESET that names unit 4. -/
def resetAhead : State :=
  let s := (inPace 0).flag Fl.ALC_CTL_RUNAHEAD_EN true
  { s with alc := { s.alc with ahead := some ⟨[], s.loop.tau, s.busRegs, 0⟩, aheadRes := some {} }
           fab := { s.fab with shadows := [(Reg.PWR_UNIT_RESET, 0x80000004)] } }

/-- Refutes O14: the commit writes the run-ahead's shadows, a register's new value is taken by its unit at once (log entry 70), and
a unit reset of the front stage leaves no result. -/
theorem not_commitMarkCommitsOrSolvesAgain : ¬ Obligations.CommitMarkCommitsOrSolvesAgain := by
  intro h
  obtain ⟨t, ht, -, -, -, hres, -⟩ := (h 0 resetAhead (by decide +kernel) (by decide +kernel)).1 (by decide +kernel) (by decide +kernel)
  rw [← seen_next (d := none) (f := fun t => t.alc.res) ht] at hres
  exact absurd hres (by decide +kernel)

/-! ### Counters of engines past the sixteenth at the other marks -/

/-- A standby in READY at the end mark of a leg, where a graph that starts at that mark counts its overflow on RED_MS_FULL. -/
def fullCounted : State :=
  let s := overflowAt (((inPace 9).put Fl.PWR_STATUS_STATE 2).put Fl.RED_STATUS_ROLE 2) 4 Reg.RED_MS_FULL
  { s with red := { s.red with loaded := true } }

/-- Refutes O16: graphs run at the end mark before the leg's epoch is read, and on an engine number past the sixteenth ENG[n]_SAT is
RED_MS_FULL. -/
theorem not_endMarkCompletesTheEpoch : ¬ Obligations.EndMarkCompletesTheEpoch := by
  intro h
  obtain ⟨t, ht, -, -, hleg, -⟩ := h 0 0 fullCounted (by decide +kernel) (by decide +kernel)
  obtain ⟨e, hbank, -, hfull⟩ := hleg (by decide +kernel)
  have hepoch : t.legB.compEpoch = fullCounted.rd Reg.RED_MS_FULL := by
    rw [hbank]; exact hfull (by decide +kernel) (by decide +kernel)
  rw [← seen_next (d := 0) (f := fun t => t.legB.compEpoch) ht] at hepoch
  exact absurd hepoch (by decide +kernel)

/-- At the envelope mark, with a graph that starts there and counts its overflow on F_max(23). -/
def envelopeOverflow : State := overflowAt (inPace 3) 7 (Reg.ALC_ENV 23)

/-- Refutes O17: a late envelope mark still starts its graphs (R69), and on an engine number past the sixteenth ENG[n]_SAT is a
direction of the envelope. -/
theorem not_lateMarksKeepWhatWasCommitted : ¬ Obligations.LateMarksKeepWhatWasCommitted := by
  intro h
  obtain ⟨-, henvelope, -⟩ := h 0 true envelopeOverflow (by decide +kernel)
  obtain ⟨t, ht, -, -, -, hkept⟩ := henvelope (by decide +kernel) (by decide +kernel) (.inl rfl)
  have hdir := hkept 23 (by decide)
  rw [← seen_next (d := 0) (f := fun t => t.rd (Reg.ALC_ENV 23)) ht] at hdir
  exact absurd hdir (by decide +kernel)

/-- At the demand mark in mode D3_HOLD (R180), with a graph that starts there and flags its overflow in the classic τ's surge. -/
def demandFlagged : State :=
  withGraph ((inPace 3).wr (Reg.ENG_STATUS 6) 0) (overflowingGraph 8) ((Reg.LOOP_TAU_CL 0 - Reg.ENG_FLAGS 0) / 0x40)

/-- Refutes O20: graphs run at the demand mark after the blend, and on an engine number past the sixteenth ENG[n]_FLAGS is the
classic τ of which the blend was made. -/
theorem not_legsBeginAndCommit : ¬ Obligations.LegsBeginAndCommit := by
  intro h
  obtain ⟨-, -, -, hdemand⟩ := h.2 0 demandFlagged (by decide +kernel)
  obtain ⟨t, ht, -, -, hblend, -⟩ := hdemand (by decide +kernel) (by decide +kernel) (by decide +kernel) (by decide +kernel)
  have hsurge := hblend (by decide +kernel) 0 (by decide)
  rw [← seen_next (d := 0) (f := fun t => t.rd (Reg.LOOP_TAU 0)) ht,
    ← seen_next (d := 0) (f := fun t => t.rd (Reg.LOOP_TAU_CL 0)) ht, ← seen_next (d := 0) (f := fun t => t.rd (Reg.LOOP_TAU_PL 0)) ht,
    ← seen_next (d := 0) (f := fun t => t.rd Reg.LOOP_BLEND_W) ht] at hsurge
  exact absurd hsurge (by decide +kernel)

/-- A result that is accepted at the allocation mark, with an invalid output counted on its shown time. -/
def timeCounted : State := invalidAt { inPace 0 with alc := { res := some {} } } 2 Reg.ALC_SOLVE_T

/-- Refutes O21: an invalid output of a graph that ends at the allocation mark is counted after the result is shown, and on an
engine number past the sixteenth ENG[n]_INVALID is ALC_SOLVE_T. -/
theorem not_allocationsAreSolvedAndMarked : ¬ Obligations.AllocationsAreSolvedAndMarked := by
  rintro ⟨hmark, -⟩
  obtain ⟨-, haccepted, -⟩ := (hmark 0 timeCounted (by decide +kernel)).2 (by decide +kernel)
  obtain ⟨t, ht, -, -, htime, -⟩ := haccepted {} rfl (by decide +kernel) rfl (.inl (by decide +kernel))
  rw [← seen_next (d := 0) (f := fun t => t.rd Reg.ALC_SOLVE_T) ht] at htime
  exact absurd htime (by decide +kernel)

/-! ### A channel retired on the role's register -/

/-- At the first leg of a stage with a trajectory to take effect, while a channel number past the last of 192 waits for its
retirement (R442): GNS_CH_STATUS of it is RED_STATUS. -/
def roleRetired : State :=
  let s := (inPace 0).put Fl.GNS_VERGE_SPARES_FREE 0
  { s with hlt := { s.hlt with chansDue := [(Reg.RED_STATUS - Reg.GNS_CH_STATUS 0) / 4] }
           hzn := { s.hzn with next := some ⟨[], 0, 1, 0, 0⟩ } }

/-- Refutes O18: the stage boundary retires the channel before it asks whether pace work runs, the role is NONE by then, and the
committed trajectory does not take effect. -/
theorem not_plannerStagesItsTrajectory : ¬ Obligations.PlannerStagesItsTrajectory := by
  intro h
  obtain ⟨-, -, -, hstage, -⟩ := h 0 false [] roleRetired (by decide +kernel)
  obtain ⟨t, ht, -, hforce⟩ := hstage (by decide +kernel) (by decide +kernel)
  have hnext := (hforce (by decide +kernel)).1
  rw [← seen_next (d := none) (f := fun t => t.hzn.force) ht] at hnext
  exact absurd hnext (by decide +kernel)

end Sys2Proof.Proofs.Cycle
end

section

namespace Sys2Proof.Proofs.Cycle

open Sys2Proof Sys2Proof.Machine Sys2Proof.Safety

/-! One proof is elaborated after the other, as in the tests: proofs begun side by side each hold a thread with its stack, and
so many small ones at the end of the text need more memory than the check allows. -/
set_option Elab.async false

/-! ### What a boundary of the cycle leaves alone -/

/-- The cycle's count, the boundary its frames are judged from and RING_CFG, from which the cycle's length is read, are the same
in two states. -/
def SameCycle (s t : State) : Prop :=
  t.cyc = s.cyc ∧ t.ring.boundAt = s.ring.boundAt ∧ t.rd Reg.RING_CFG = s.rd Reg.RING_CFG

/-! ### Addresses of the register map

RING_CFG's address stands as the numeral 0x110000 in these facts, for `omega` and `decide`. -/

/-- No register of an array whose base is out of step with RING_CFG is RING_CFG. -/
theorem array_ne {b w n : Nat} (h : b % w ≠ 0x110000 % w := by decide) : b + n * w ≠ 0x110000 := by
  intro e
  rw [← e, Nat.add_mul_mod_self_right] at h
  exact h rfl

/-- Nor is one of an array above it. -/
theorem array_ne_of_gt {b w n : Nat} (h : 0x110000 < b := by decide) : b + n * w ≠ 0x110000 := by omega

theorem row_has_of_findRow {a : Nat} {r : Row} (h : findRow a = some r) : r.has a = true := by
  unfold findRow at h
  exact List.find?_some (p := fun r : Row => r.has a) h

theorem row_mem_of_findRow {a : Nat} {r : Row} (h : findRow a = some r) : r ∈ blockRows.flatten := by
  have hm := List.mem_of_find?_eq_some h
  cases hb : blockRows[a / 0x10000]? with
  | none => simp [hb] at hm
  | some l =>
    rw [hb] at hm
    exact List.mem_flatten.mpr ⟨l, List.mem_of_getElem? hb, hm⟩

/-- A register's address from its index in its array. -/
theorem base_add_idx {a : Nat} {r : Row} (h : r.has a = true) : r.base + r.idx a * r.stride = a := by
  unfold Row.has at h
  unfold Row.idx
  split at h
  · rename_i h0
    simpa [h0] using (eq_of_beq h).symm
  · rename_i h0
    simp only [Bool.and_eq_true, decide_eq_true_eq, beq_iff_eq] at h
    obtain ⟨⟨hle, hmod⟩, -⟩ := h
    rw [if_neg h0, Nat.div_mul_cancel (Nat.dvd_of_mod_eq_zero hmod)]
    omega

/-- The element that an address other than RING_CFG's names in its array is not RING_CFG. -/
theorem element_ne {a b w : Nat} {r : Row} (hr : findRow a = some r) (ha : a ≠ 0x110000) (hb : r.base = b)
    (hw : ∀ r ∈ blockRows.flatten, r.base = b → r.stride = w := by decide +kernel) : b + r.idx a * w ≠ 0x110000 := by
  rw [← hw r (row_mem_of_findRow hr) hb, ← hb, base_add_idx (row_has_of_findRow hr)]
  exact ha

/-- RING_CFG is no held register (R417). -/
theorem ne_ringCfg_of_rws {a : Nat} {r : Row} (hr : findRow a = some r) (hacc : r.acc = .rws) : a ≠ 0x110000 := by
  rintro rfl
  have h0 : findRow 0x110000 = some Rw.RING_CFG := by decide
  rw [h0, Option.some.injEq] at hr
  rw [← hr] at hacc
  exact absurd hacc (by decide)

/-! ### The parts of a ring-cycle boundary

Steps of State.nodePresence and State.ringCycleBoundary under names of their own: a long chain of record updates is then never
unfolded as a whole, neither here nor in the kernel. -/

/-- A cycle in which a listed node's slot did not come is counted. -/
def nodeCounted (s : State) (n : Nat) : State :=
  if s.get (Fl.RING_NODE_STATUS_MISSES n) = 0xFFFF then s.flag (Fl.RING_NODE_STATUS_OVF n) true
  else s.put (Fl.RING_NODE_STATUS_MISSES n) (s.get (Fl.RING_NODE_STATUS_MISSES n) + 1)

/-- A listed node is missed once more. -/
def nodeMissed (s : State) (a : Nat) : State :=
  let m := aGetD s.ring.misses a 0 + 1
  let s : State := { s with ring := { s.ring with misses := aSet s.ring.misses a m } }
  if m = 3 && !s.ring.absent.contains a then
    ({ s with ring := { s.ring with absent := s.ring.absent ++ [a] } } : State).logEv Ev.NODE_LEAVE (a % 256)
  else s

/-- What State.nodePresence does for one listed node. -/
def nodeSeen (s : State) (e : Nat × Nat) : State :=
  let n := e.1 % 256
  let pa := s.ring.a.filled.contains n
  let pb := s.ring.b.filled.contains n
  let s := (s.flag (Fl.RING_NODE_STATUS_PRESENT_A n) pa).flag (Fl.RING_NODE_STATUS_PRESENT_B n) pb
  if pa || (pb && !s.upstream 1) || e.1 == s.address then
    { s with ring := { s.ring with misses := aDel s.ring.misses e.1 } }
  else nodeMissed (nodeCounted s n) e.1

/-- The next ring cycle begins; `first`: with the first train after a takeover. -/
def cycleBegins (s : State) (first : Bool) : State :=
  let s : State := if first then { s with ring := { s.ring with trainOn := true } } else s
  let s : State := { s with
    cyc := { s.cyc with sub := (s.cyc.sub + 1) % s.cyclesPerPace }
    ring := { s.ring with noSync := s.ring.noSync + 1, sent := [] }
    red := { s.red with waitCycles := s.red.waitCycles + 1 } }
  s.wr Reg.RING_CYCLE (s.rd Reg.RING_CYCLE + 1)

/-- The holds follow; a master has not lost its SYNC. -/
def holdsFollow (s : State) : State :=
  let s := ((s.endLooping).holdAtBoundary 0).holdAtBoundary 1
  if s.isMaster 0 || s.isMaster 1 then s.flag Fl.RING_STATUS_SYNC_LOST false else s

/-- An insertion is announced on one ring at most. -/
def insertionNext (s : State) : State :=
  let s := s.insertNext 0
  if (s.side 0).insertHeard && s.sendsTrain 0 then s else s.insertNext 1

/-- The commands kept for an exchange are out. -/
def heldSent (s : State) : State :=
  if s.red.sendNow then { s with red := { s.red with sendNow := false, heldCmds := [] } } else s

/-- A device that has handed over sends no further train. -/
def trainStops (s : State) : State :=
  if s.red.exchStopped then { s with ring := { s.ring with trainOn := false } } else s

/-- RED_LAST_TO of a takeover whose first train is out. -/
def takeoverTimed (s : State) (first : Bool) : State :=
  if first then
    let t := s.now - s.red.detectAt.getD 0
    let off := s.cmdCycle * s.cycleNs
    let due := s.cyc.boundaryAt + off
    let due := if due > s.red.failAt then (if due ≥ s.red.failAt + 1000000 then due - 1000000 else due) else due + 1000000
    ({ s with red := { s.red with detectAt := none, takenPace := s.cyc.pace } } : State).wr Reg.RED_LAST_TO
      (min 0xFFFF ((s.now - due + 500) / 1000) * 2 ^ 16 + min 0xFFFF ((t + 500) / 1000))
  else s

/-- The ended cycle's judgement, then these parts, in the order of State.ringCycleBoundary. -/
theorem ringCycleBoundary_eq (s : State) : ∃ first, s.ringCycleBoundary =
    let begun := cycleBegins ((s.commitInputs.nodePresence.judgeRing 0).judgeRing 1) first
    let sent := (insertionNext (holdsFollow begun)).stopTelegrams.sendTrain first
    (takeoverTimed (trainStops (heldSent sent)) first).freshCycle.masterPublish := ⟨_, rfl⟩

namespace SameCycle

variable {s t u : State}

theorem refl (s : State) : SameCycle s s := ⟨rfl, rfl, rfl⟩

theorem trans (h : SameCycle s t) (k : SameCycle t u) : SameCycle s u :=
  ⟨k.1.trans h.1, k.2.1.trans h.2.1, k.2.2.trans h.2.2⟩

/-- A change of other parts of the state. -/
theorem keep (k : SameCycle s t) (hc : u.cyc = t.cyc) (hb : u.ring.boundAt = t.ring.boundAt) (hr : u.regs = t.regs) :
    SameCycle s u :=
  k.trans ⟨hc, hb, by unfold State.rd; rw [hr]⟩

theorem of_differs {ps : List Part} {fs : List Fld} (h : Differs ps fs s t) (hc : .cyc ∉ ps := by decide)
    (hr : .ring ∉ ps := by decide) (hf : ∀ f ∈ fs, f.addr ≠ Reg.RING_CFG := by decide) : SameCycle s t :=
  ⟨h.1 .cyc hc, congrArg (·.boundAt) (h.1 .ring hr), h.2.rd hf⟩

/-! ### Register operations -/

theorem wr {a v : Nat} (k : SameCycle s t) (h : a ≠ 0x110000 := by decide) : SameCycle s (t.wr a v) :=
  k.trans ⟨rfl, rfl, State.rd_wr_ne t v h.symm⟩

theorem put {f : Fld} {v : Nat} (k : SameCycle s t) (h : f.addr ≠ 0x110000 := by decide) : SameCycle s (t.put f v) :=
  k.wr h

theorem flag {f : Fld} {b : Bool} (k : SameCycle s t) (h : f.addr ≠ 0x110000 := by decide) : SameCycle s (t.flag f b) :=
  k.wr h

theorem irq {i : Nat} (k : SameCycle s t) : SameCycle s (t.irq i) := k.wr (a := Reg.HIF_IRQ_STATUS)

theorem count {a : Nat} (k : SameCycle s t) (h : a ≠ 0x110000 := by decide) : SameCycle s (t.count a) :=
  k.trans ⟨t.count_cyc a, by rw [t.count_ring a], t.rd_count_ne a h.symm⟩

/-! ### Combinators -/

theorem ite {c : Prop} [Decidable c] (h : c → SameCycle s t) (k : ¬c → SameCycle s u) :
    SameCycle s (if c then t else u) := by
  split
  · rename_i hc; exact h hc
  · rename_i hc; exact k hc

theorem when {c : Bool} {f : State → State} (k : SameCycle s t) (h : ∀ {t}, SameCycle s t → SameCycle s (f t)) :
    SameCycle s (t.when c f) := ite (fun _ => h k) (fun _ => k)

theorem each {α : Type} {l : List α} {f : State → α → State} (k : SameCycle s t)
    (h : ∀ {u x}, x ∈ l → SameCycle s u → SameCycle s (f u x)) : SameCycle s (t.each l f) := by
  induction l generalizing t with
  | nil => exact k
  | cons x l ih => exact ih (h (by simp) k) (fun hx => h (List.mem_cons_of_mem _ hx))

theorem countN {a n : Nat} (k : SameCycle s t) (h : a ≠ 0x110000 := by decide) : SameCycle s (t.countN a n) :=
  k.each (fun _ k => k.count h)

/-! ### Operations whose changes the laws name -/

theorem logEv {ev : Ev} {arg data : Nat} (k : SameCycle s t) : SameCycle s (t.logEv ev arg data) :=
  k.trans (of_differs ((Differs.refl t).logEv (ps := [.log]) (fs := logFlds) (by decide) (fun _ h => h)))

theorem badWrite {a : Nat} (k : SameCycle s t) : SameCycle s (t.badWrite a) :=
  k.trans (of_differs ((Differs.refl t).badWrite (ps := []) (fs := badFlds) (fun _ h => h)))

theorem kerbUpdate (k : SameCycle s t) : SameCycle s t.kerbUpdate :=
  k.trans (of_differs ((Differs.refl t).kerbUpdate (ps := [.krb]) (fs := kerbFlds) (by decide) (fun _ h => h))
    (hf := by decide +kernel))

/-! ### Changes of one thing's own state -/

theorem draw (k : SameCycle s t) : SameCycle s t.draw.2 := k.keep rfl rfl rfl
theorem setLaneSt {n : Nat} {x : LaneSt} (k : SameCycle s t) : SameCycle s (t.setLaneSt n x) := k.keep rfl rfl rfl
theorem setFbCh {n : Nat} {x : FbCh} (k : SameCycle s t) : SameCycle s (t.setFbCh n x) := k.keep rfl rfl rfl
theorem setStrm {n : Nat} {x : Strm} (k : SameCycle s t) : SameCycle s (t.setStrm n x) := k.keep rfl rfl rfl
theorem setFir {n : Nat} {x : FirSt} (k : SameCycle s t) : SameCycle s (t.setFir n x) := k.keep rfl rfl rfl
theorem setPort {n : Nat} {x : SnsPort} (k : SameCycle s t) : SameCycle s (t.setPort n x) := k.keep rfl rfl rfl
theorem setSlot {n : Nat} {x : SlotSt} (k : SameCycle s t) : SameCycle s (t.setSlot n x) := k.keep rfl rfl rfl
theorem setKconn {n : Nat} {x : KConn} (k : SameCycle s t) : SameCycle s (t.setKconn n x) := k.keep rfl rfl rfl
theorem pdivPin {d : Nat} {b : Bool} (k : SameCycle s t) : SameCycle s (t.pdivPin d b) := k.keep rfl rfl rfl
theorem hold {r : Nat} {b : Bool} (k : SameCycle s t) : SameCycle s (t.hold r b) := k.keep rfl rfl rfl

theorem setKl {m n : Nat} {x : KLane} (k : SameCycle s t) : SameCycle s (t.setKl m n x) :=
  ite (fun _ => k.keep rfl rfl rfl) (fun _ => k.keep rfl rfl rfl)

theorem setSide {r : Nat} {x : RingSide} (k : SameCycle s t) : SameCycle s (t.setSide r x) :=
  ite (fun _ => k.keep rfl rfl rfl) (fun _ => k.keep rfl rfl rfl)

/-! ### Lanes (R257, R262) -/

theorem laneFault {n c : Nat} (k : SameCycle s t) : SameCycle s (t.laneFault n c) :=
  ite (fun _ => k) (fun _ => ((((k.put array_ne).put array_ne).logEv).irq).count array_ne)

theorem laneFaultNow {n c : Nat} (k : SameCycle s t) : SameCycle s (t.laneFaultNow n c) :=
  ite (fun _ => k) (fun _ => (k.laneFault (n := n) (c := c)).keep rfl rfl rfl)

theorem driveFaults (k : SameCycle s t) : SameCycle s t.driveFaults :=
  ite (fun _ => k) (fun _ => k.each (fun _ k => ite (fun _ => k.laneFaultNow) (fun _ => k)))

theorem ageLanes (k : SameCycle s t) : SameCycle s t.ageLanes :=
  ite (fun _ => k.each (fun _ k => k.setLaneSt)) (fun _ => k)

/-! ### The Kerb's connections (R264, R268, R270, R284 to R289) -/

theorem connAges (k : SameCycle s t) : SameCycle s t.connAges :=
  k.each (fun _ k => ite (fun _ => k.setKconn) (fun _ => k))

theorem connStatus_ne {c : Nat} (hc : c < 128) : Reg.KRB_CONN_STATUS c ≠ 0x110000 := by
  show _ + _ ≠ _
  omega

theorem connError {c : Nat} (hc : c < 128) (k : SameCycle s t) : SameCycle s (t.connError c) := 
  (put (f := Fl.KRB_CONN_STATUS_ERR_LEVEL c) (ite (fun _ => k.setKconn) (fun _ => k)) (connStatus_ne hc)).when
    (fun k => k.put (f := Fl.KRB_CONN_STATUS_STATE c) (connStatus_ne hc))

theorem kerbDisc {m n : Nat} (k : SameCycle s t) : SameCycle s (t.kerbDisc m n) :=
  SameCycle.keep (t := t.setKl m n _) k.setKl rfl rfl rfl

theorem kerbTrip {m n f : Nat} (k : SameCycle s t) : SameCycle s (t.kerbTrip m n f) :=
  ite (fun _ => k) (fun _ => (k.setKl.count.logEv.irq).each (fun _ k => k.laneFaultNow))

theorem remoteEvaluate {m n d : Nat} (k : SameCycle s t) : SameCycle s (t.remoteEvaluate m n d) := by
  unfold State.remoteEvaluate
  split
  · exact k
  · dsimp only
    split
    · exact k.setKl.kerbDisc
    · exact k.setKl.kerbDisc.kerbTrip.kerbUpdate

theorem connAccept {c q d : Nat} {data : Bytes} (hc : c < 128) (k : SameCycle s t) : SameCycle s (t.connAccept c q d data) := by
  have hp {x} := (k.setKconn (n := c) (x := x)).put (f := Fl.KRB_CONN_STATUS_STATE c) (v := 2) (connStatus_ne hc)
  exact ite (fun _ => (ite (fun _ => hp) (fun _ => k.setKconn)).remoteEvaluate)
    (fun _ => ite (fun _ => hp) (fun _ => k.setKconn))

theorem safetyTelegram {node : Nat} {b : Bytes} (k : SameCycle s t) : SameCycle s (t.safetyTelegram node b) := by
  unfold State.safetyTelegram
  split
  · exact k
  · rename_i c hfind
    have hc : c < 128 := List.mem_range.mp (List.mem_of_find?_eq_some hfind)
    dsimp only
    refine ite (fun _ => k) (fun _ => ite (fun _ => (k.count array_ne).connError hc) (fun _ => ?_))
    split
    · exact k.setKconn
    · refine ite (fun _ => k) (fun _ => ite (fun _ => k.connAccept hc) (fun _ => ?_))
      exact ite (fun _ => (k.count array_ne).setKconn) (fun _ => ((k.count array_ne).setKconn).connError hc)

/-! ### Streams and their filters (R86 to R103) -/

theorem strRestart {n c : Nat} {r : Bytes} {ev : Bool} (k : SameCycle s t) : SameCycle s (t.strRestart n c r ev) :=
  (k.setStrm.setFir.put (f := Fl.SNS_STR_STATUS_STATE n) array_ne).when (fun k => k.logEv)

theorem fadeStep {c : Nat} (k : SameCycle s t) : SameCycle s (t.fadeStep c) := by
  unfold State.fadeStep
  split
  · exact k
  · have hs {x v} := (((k.setFir (n := c) (x := x)).put (f := Fl.FIR_CH_STATUS_FADE_POS c) (v := v) array_ne).flag
      (f := Fl.FIR_CH_STATUS_FADING c) (b := true) array_ne).flag (f := Fl.FIR_CH_FADE_GO c) (b := false) array_ne
    exact ite (fun _ => hs) (fun _ => ((((hs.setFir).flag array_ne).flag array_ne).put array_ne).put array_ne)

theorem toFusion {r : Bytes} {v : List Int} {stamp : Nat} {att : Att} {rep : Bool} (k : SameCycle s t) :
    SameCycle s (t.toFusion r v stamp att rep) := ite (fun _ => k.keep rfl rfl rfl) (fun _ => k)

theorem firDeliver {n c : Nat} {r : Bytes} {v : List Int} {x : Int} {att : Att} {rep : Bool} (k : SameCycle s t) :
    SameCycle s (t.firDeliver n c r v x att rep) :=
  ite (fun _ => k.setFir.count array_ne) (fun _ => k.setFir.setFir.toFusion)

theorem firEmit {n c : Nat} {r : Bytes} {x : Nat} {att : Att} (k : SameCycle s t) : SameCycle s (t.firEmit n c r x att) :=
  (k.when (fun k => k.flag (f := Fl.FIR_CH_STATUS_SAT c) array_ne)).fadeStep.firDeliver

theorem firRepeat {n c : Nat} {r : Bytes} {x : Nat} (k : SameCycle s t) : SameCycle s (t.firRepeat n c r x) := by
  unfold State.firRepeat
  split
  · exact k.firDeliver
  · exact k

theorem slip {n c dir : Nat} {r : Bytes} {dec : Nat} (k : SameCycle s t) : SameCycle s (t.slip n c dir r dec) :=
  (k.setStrm.setFir.count (a := Reg.SNS_STR_SLIP n) array_ne).logEv

theorem firInput {n c : Nat} {r : Bytes} {v : List Int} {x : Nat} {att : Att} (k : SameCycle s t) :
    SameCycle s (t.firInput n c r v x att) := by
  have hs {y v} := (k.setFir (n := c) (x := y)).put (f := Fl.SNS_STR_STATUS_STATE n) (v := v) array_ne
  exact ite (fun _ => hs) (fun _ => ite (fun _ => hs.slip.fadeStep) (fun _ => ite (fun _ => hs.firRepeat.slip)
    (fun _ => hs.firEmit)))

theorem fillGap {n c : Nat} {r : Bytes} {m x : Nat} (k : SameCycle s t) : SameCycle s (t.fillGap n c r m x) :=
  k.each (fun _ k => k.setStrm.firInput)

theorem edgeGap {n c : Nat} {r : Bytes} {gap : Nat} {ts : List Nat} (k : SameCycle s t) :
    SameCycle s (t.edgeGap n c r gap ts) := by
  have hs := k.countN (a := Reg.SNS_STR_GAP n) (n := gap) array_ne
  exact ite (fun _ => hs) (fun _ => ite (fun _ => hs.strRestart) (fun _ => ite (fun _ => hs)
    (fun _ => hs.each (fun _ k => k.firInput))))

theorem strPublish {n c : Nat} {r : Bytes} (k : SameCycle s t) : SameCycle s (t.strPublish n c r) :=
  ite (fun _ => k) (fun _ => ((k.wr (a := Reg.SNS_STR_SKEW n) array_ne).wr (a := Reg.SNS_STR_TRACK n) array_ne).flag
    (f := Fl.SNS_STR_STATUS_RETIMED n) array_ne)

theorem strSample {n : Nat} {r : Bytes} {vals : List Int} {x : Nat} {att : Att} (k : SameCycle s t) :
    SameCycle s (t.strSample n r vals x att) := by
  unfold State.strSample
  refine ite (fun _ => k.count array_ne) (fun _ => strPublish (ite (fun _ => k.setStrm.firInput) (fun _ => ?_)))
  split
  · exact k.setStrm.setFir.firInput
  · have hg {m} := k.countN (a := Reg.SNS_STR_GAP n) (n := m) array_ne
    exact (setStrm (ite (fun _ => hg) (fun _ => ite (fun _ => hg.fillGap) (fun _ => hg.setStrm.strRestart)))).firInput

theorem strTriggered {n : Nat} {r : Bytes} {vals : List Int} {arr : Nat} {att : Att} (k : SameCycle s t) :
    SameCycle s (t.strTriggered n r vals arr att) := by
  have hc := k.count (a := Reg.SNS_STR_DISCARD n) array_ne
  unfold State.strTriggered
  dsimp only
  split
  · exact hc
  · exact ite (fun _ => hc) (fun _ => k.edgeGap.setStrm.strSample)

theorem streamRecord {node n stamp v : Nat} (k : SameCycle s t) : SameCycle s (t.streamRecord node n stamp v) := by
  unfold State.streamRecord
  split
  · exact k
  · refine ite (fun _ => k) (fun _ => ?_)
    unfold State.strArrive
    split
    · exact k
    · exact ite (fun _ => k) (fun _ => ite (fun _ => k.strSample) (fun _ => k.strTriggered))

theorem commitRecords (k : SameCycle s t) : SameCycle s t.commitRecords := by
  refine each (SameCycle.keep k rfl rfl rfl) (fun _ k => ite (fun _ => k.safetyTelegram) (fun _ => ?_))
  split
  · exact k
  · exact k.streamRecord

/-! ### Held register writes taking force (R417) -/

theorem applySlotCtl {m w : Nat} (k : SameCycle s t) : SameCycle s (t.applySlotCtl m w) := by
  have hs := k.put (f := Fl.LOOP_SLOT_CTL_AW m) (v := w / 16) array_ne
  exact ite (fun _ => setSlot (ite (fun _ => hs.setSlot) (fun _ => hs))) (fun _ => ite (fun _ => hs.setSlot) (fun _ => hs))

theorem applyLaneCtl {n w : Nat} (k : SameCycle s t) (h : Reg.LANE_CTL n ≠ 0x110000) : SameCycle s (t.applyLaneCtl n w) :=
  ite (fun _ => k.flag) (fun _ => k.setLaneSt.flag (f := Fl.LANE_CTL_EN n) h)

theorem applyAzSet {n w : Nat} (k : SameCycle s t) : SameCycle s (t.applyAzSet n w) :=
  (k.setLaneSt.wr (a := Reg.LANE_AZ_SET n) (v := w) array_ne).keep rfl rfl rfl

theorem applyFade {c w : Nat} (k : SameCycle s t) : SameCycle s (t.applyFade c w) := by
  have hs := k.put (f := Fl.FIR_CH_FADE_LEN c) (v := w % 2048) array_ne
  refine ite (fun _ => hs) (fun _ => ?_)
  split
  · exact hs.setFir.flag (f := Fl.FIR_CH_FADE_GO c) array_ne
  · exact (hs.put (f := Fl.FIR_CH_STATUS_RESULT c) array_ne).flag (f := Fl.FIR_CH_FADE_GO c) array_ne

theorem sampleRestart (k : SameCycle s t) : SameCycle s t.sampleRestart :=
  each (SameCycle.keep k rfl rfl rfl) (fun _ k => k.strRestart)

theorem applySmpCfg {w : Nat} (k : SameCycle s t) : SameCycle s (t.applySmpCfg w) := by
  have hs := k.wr (a := Reg.SNS_SMP_CFG) (v := w &&& Rw.SNS_SMP_CFG.mask)
  exact ite (fun _ => hs) (fun _ => ite (fun _ => hs.sampleRestart) (fun _ => hs.sampleRestart.keep rfl rfl rfl))

theorem applyPortCfg {p w : Nat} (k : SameCycle s t) (h : Reg.SNS_PORT_CFG p ≠ 0x110000) : SameCycle s (t.applyPortCfg p w) :=
  (k.when (fun k => k.count (a := Reg.SNS_PORT_ERR_OTHER p) array_ne)).setPort.wr h

theorem applyLat {n w : Nat} (k : SameCycle s t) : SameCycle s (t.applyLat n w) :=
  k.setStrm.wr (a := Reg.SNS_STR_LAT n) array_ne

theorem applyGnsCtl {w : Nat} (k : SameCycle s t) : SameCycle s (t.applyGnsCtl w) := by
  have hs := k.wr (a := Reg.GNS_CTL) (v := w &&& Rw.GNS_CTL.mask)
  exact ite (fun _ => flag (hs.keep rfl rfl rfl)) (fun _ => hs)

theorem timReselect (k : SameCycle s t) : SameCycle s t.timReselect :=
  ite (fun _ => k) (fun _ => put (flag (k.keep rfl rfl rfl)))

theorem applyPdiv {d w : Nat} (k : SameCycle s t) (h : Reg.FBK_PDIV_CFG d ≠ 0x110000) : SameCycle s (t.applyPdiv d w) :=
  wr (pdivPin (k.keep rfl rfl rfl)) h

theorem applyFbCfg {n w : Nat} (k : SameCycle s t) (h : Reg.FB_CFG n ≠ 0x110000) : SameCycle s (t.applyFbCfg n w) :=
  k.setFbCh.wr h

theorem plainWrite {r : Row} {a w : Nat} (k : SameCycle s t) (h : a ≠ 0x110000) : SameCycle s (t.plainWrite r a w) := k.wr h

theorem applyReg {a w : Nat} (k : SameCycle s t) : SameCycle s (t.applyReg a w) := by
  unfold State.applyReg
  split
  · exact k
  · rename_i r hr
    dsimp only
    refine ite (fun _ => k) (fun hacc => ?_)
    have ha : a ≠ 0x110000 := ne_ringCfg_of_rws hr (by simpa using hacc)
    have hw {r : Row} {w : Nat} := k.plainWrite (r := r) (w := w) ha
    refine ite (fun _ => k.applySlotCtl) (fun _ => ?_)
    refine ite (fun hb => k.applyLaneCtl (element_ne hr ha hb)) (fun _ => ?_)
    refine ite (fun _ => k.applyAzSet) (fun _ => ?_)
    refine ite (fun _ => k.applyFade) (fun _ => ?_)
    refine ite (fun _ => k.applySmpCfg) (fun _ => ?_)
    refine ite (fun hb => k.applyPortCfg (element_ne hr ha hb)) (fun _ => ?_)
    refine ite (fun _ => k.applyLat) (fun _ => ?_)
    refine ite (fun _ => k.applyGnsCtl) (fun _ => ?_)
    refine ite (fun _ => hw.keep rfl rfl rfl) (fun _ => ?_)
    refine ite (fun _ => ite (fun _ => k.badWrite) (fun _ => ite (fun _ => k) (fun _ => hw.keep rfl rfl rfl))) (fun _ => ?_)
    refine ite (fun _ => hw.timReselect) (fun _ => ?_)
    refine ite (fun hb => k.applyPdiv (element_ne hr ha hb)) (fun _ => ?_)
    refine ite (fun hb => k.applyFbCfg (element_ne hr ha hb)) (fun _ => ?_)
    exact ite (fun _ => k) (fun _ => hw)

/-! ### A Tollgate commit (R377, R378) -/

theorem joyWritten (k : SameCycle s t) : SameCycle s t.joyWritten := k.keep rfl rfl rfl

theorem tgApplyOne {e : Nat × Word} (k : SameCycle s t) : SameCycle s (t.tgApplyOne e) := by
  unfold State.tgApplyOne
  refine ite (fun _ => k.keep rfl rfl rfl) (fun _ => ?_)
  dsimp only
  split
  · split
    · exact k
    · exact k.keep rfl rfl rfl
  · refine ite (fun _ => badWrite ?_) (fun _ => ite (fun _ => joyWritten (applyReg ?_)) (fun _ => applyReg ?_))
    all_goals
      split
      · exact k
      · exact k.keep rfl rfl rfl

theorem tgState {n : Nat} (k : SameCycle s t) : SameCycle s (t.tgState n) := k.put.put

theorem tgFail {e : Option Nat} {c : Nat} (k : SameCycle s t) : SameCycle s (t.tgFail e c) := by
  have hs {u : State} (k : SameCycle s u) :
      SameCycle s (({ u with tg := { u.tg with armed := none } } : State).tgState 6) := tgState (k.keep rfl rfl rfl)
  cases e with
  | none => exact irq (logEv (count (put (put (hs k.draw)))))
  | some i => exact irq (logEv (count (put (put (hs k)))))

theorem tgApply (k : SameCycle s t) : SameCycle s t.tgApply := by
  unfold State.tgApply
  split
  · exact k.tgFail
  · have ha : SameCycle s t.tgApplyAll := k.each (fun _ k => k.tgApplyOne)
    exact irq (logEv (count (tgState (ha.keep rfl rfl rfl))))

theorem tgDue (k : SameCycle s t) : SameCycle s t.tgDue := by
  unfold State.tgDue
  split
  · exact ite (fun _ => k.tgApply) (fun _ => k)
  · exact k

/-! ### The ring controller (R300 to R321) -/

theorem commitInputs (k : SameCycle s t) : SameCycle s t.commitInputs := k.keep rfl rfl rfl

theorem misses {x : List (Nat × Nat)} (k : SameCycle s t) :
    SameCycle s { t with ring := { t.ring with misses := x } } := k.keep rfl rfl rfl

theorem absent {x : List Nat} (k : SameCycle s t) : SameCycle s { t with ring := { t.ring with absent := x } } :=
  k.keep rfl rfl rfl


theorem nodeMissed {a : Nat} (k : SameCycle s t) : SameCycle s (nodeMissed t a) :=
  ite (fun _ => k.misses.absent.logEv) (fun _ => k.misses)

theorem nodeSeen {e : Nat × Nat} (k : SameCycle s t) : SameCycle s (nodeSeen t e) := by
  have hp {b c} := (k.flag (f := Fl.RING_NODE_STATUS_PRESENT_A (e.1 % 256)) (b := b) array_ne_of_gt).flag
    (f := Fl.RING_NODE_STATUS_PRESENT_B (e.1 % 256)) (b := c) array_ne_of_gt
  exact ite (fun _ => hp.misses) (fun _ => nodeMissed (ite (fun _ => hp.flag array_ne_of_gt) (fun _ => hp.put array_ne_of_gt)))

theorem nodePresence (k : SameCycle s t) : SameCycle s t.nodePresence :=
  ite (fun _ => k) (fun _ => each (each k (fun {u e} _ k => show SameCycle s (Cycle.nodeSeen u e) from k.nodeSeen))
    (fun _ k => wr (wr k array_ne_of_gt) array_ne_of_gt))

theorem ringFld_ne (r : Nat) : (State.ringFld r).addr ≠ 0x110000 := by
  unfold State.ringFld
  split <;> decide

theorem ringBreak {r : Nat} (k : SameCycle s t) : SameCycle s (t.ringBreak r) :=
  ite (fun _ => k) (fun _ => ((k.setSide.put (ringFld_ne r)).logEv.count).irq)

theorem judgeRing {r : Nat} (k : SameCycle s t) : SameCycle s (t.judgeRing r) :=
  ite (fun _ => k.setSide) (fun _ => ite (fun _ => k.setSide.ringBreak)
    (fun _ => ite (fun _ => (k.setSide.put (ringFld_ne r)).logEv.irq) (fun _ => k.setSide)))

theorem endLooping (k : SameCycle s t) : SameCycle s t.endLooping :=
  k.each (fun _ k => ite (fun _ => k.flag array_ne_of_gt) (fun _ => k))

theorem ringOut {r : Nat} (k : SameCycle s t) : SameCycle s (t.ringOut r) :=
  ite (fun _ => k.hold.setSide) (fun _ => k.hold.setSide.put (ringFld_ne r))

theorem ringInsert {r : Nat} (k : SameCycle s t) : SameCycle s (t.ringInsert r) := (k.hold.put (ringFld_ne r)).setSide

theorem holdAtBoundary {r : Nat} (k : SameCycle s t) : SameCycle s (t.holdAtBoundary r) :=
  ite (fun _ => k.ringOut) (fun _ => ite (fun _ => k.ringInsert) (fun _ => k))

theorem insertNext {r : Nat} (k : SameCycle s t) : SameCycle s (t.insertNext r) :=
  ite (fun _ => (k.setSide (r := r)).keep rfl rfl rfl) (fun _ => k)

theorem stopTelegrams (k : SameCycle s t) : SameCycle s t.stopTelegrams := by
  refine k.each (fun _ k => ite (fun _ => k) (fun _ => ?_))
  dsimp only
  split
  · exact k.setKconn
  · exact k.draw.setKconn

theorem sendTrain {first : Bool} (k : SameCycle s t) : SameCycle s (t.sendTrain first) :=
  ite (fun _ => k) (fun _ => k.keep rfl rfl rfl)

theorem freshCycle (k : SameCycle s t) : SameCycle s t.freshCycle := k.keep rfl rfl rfl

theorem masterPublish (k : SameCycle s t) : SameCycle s t.masterPublish := k.flag.flag

end SameCycle

/-! ### The ring-cycle boundary (R30, R301) -/

theorem SameCycle.cyclesPerPace {s t : State} (k : SameCycle s t) : t.cyclesPerPace = s.cyclesPerPace := by
  obtain ⟨-, -, hcfg⟩ := k
  unfold State.cyclesPerPace State.cycleNs State.get
  rw [hcfg]

/-- The cycle's count is one further and nothing else of it has changed; its frames are judged from the same boundary. -/
def NextCycle (s t : State) : Prop :=
  t.cyc = { s.cyc with sub := (s.cyc.sub + 1) % s.cyclesPerPace } ∧ t.ring.boundAt = s.ring.boundAt

theorem NextCycle.before {s t u : State} (h : NextCycle s t) (k : SameCycle t u) : NextCycle s u := by
  obtain ⟨hc, hb⟩ := h
  obtain ⟨hc', hb', -⟩ := k
  exact ⟨hc'.trans hc, hb'.trans hb⟩

theorem NextCycle.after {s t u : State} (h : NextCycle t u) (k : SameCycle s t) : NextCycle s u := by
  obtain ⟨hc, hb⟩ := h
  have hper := k.cyclesPerPace
  obtain ⟨hc', hb', -⟩ := k
  exact ⟨by rw [hc, hc', hper], hb.trans hb'⟩

theorem nextCycle_cycleBegins (s : State) (first : Bool) : NextCycle s (cycleBegins s first) := by
  cases first <;> exact ⟨rfl, rfl⟩

namespace SameCycle

variable {s t : State}

theorem holdsFollow (k : SameCycle s t) : SameCycle s (holdsFollow t) :=
  ite (fun _ => k.endLooping.holdAtBoundary.holdAtBoundary.flag) (fun _ => k.endLooping.holdAtBoundary.holdAtBoundary)

theorem insertionNext (k : SameCycle s t) : SameCycle s (insertionNext t) :=
  ite (fun _ => k.insertNext) (fun _ => k.insertNext.insertNext)

theorem heldSent (k : SameCycle s t) : SameCycle s (heldSent t) := ite (fun _ => k.keep rfl rfl rfl) (fun _ => k)

theorem trainStops (k : SameCycle s t) : SameCycle s (trainStops t) := ite (fun _ => k.keep rfl rfl rfl) (fun _ => k)

theorem takeoverTimed {first : Bool} (k : SameCycle s t) : SameCycle s (takeoverTimed t first) :=
  ite (fun _ => wr (k.keep rfl rfl rfl)) (fun _ => k)

end SameCycle

theorem nextCycle_ringCycleBoundary (s : State) : NextCycle s s.ringCycleBoundary := by
  obtain ⟨first, h⟩ := ringCycleBoundary_eq s
  have hjudged : SameCycle s ((s.commitInputs.nodePresence.judgeRing 0).judgeRing 1) :=
    (SameCycle.refl s).commitInputs.nodePresence.judgeRing.judgeRing
  have hbegun := (nextCycle_cycleBegins _ first).after hjudged
  have hsent := (SameCycle.refl (cycleBegins ((s.commitInputs.nodePresence.judgeRing 0).judgeRing 1)
    first)).holdsFollow.insertionNext.stopTelegrams.sendTrain (first := first)
  rw [h]
  exact hbegun.before hsent.heldSent.trainStops.takeoverTimed.freshCycle.masterPublish

theorem nextCycle_sub (s : State) : NextCycle s { s with cyc := { s.cyc with sub := (s.cyc.sub + 1) % s.cyclesPerPace } } :=
  ⟨rfl, rfl⟩

/-- With the ring controller open or closed. -/
theorem nextCycle_cycleBoundary {s : State} (hc : s.cycling = true) (hd : s.timerDue = true) :
    NextCycle s.timerRestart s.cycleBoundary := by
  have hstart : SameCycle s.timerRestart s.timerRestart.tgDue.commitRecords.ageLanes.connAges :=
    (SameCycle.refl _).tgDue.commitRecords.ageLanes.connAges
  have hdue : ¬(!(s.cycling && s.timerDue)) = true := by simp [hc, hd]
  unfold State.cycleBoundary
  rw [if_neg hdue]
  dsimp only
  split
  · exact ((nextCycle_ringCycleBoundary _).before (SameCycle.refl _).driveFaults).after hstart
  · exact (nextCycle_sub _).after hstart

theorem cycling_of_power {s : State} (h2 : 2 ≤ s.power) (h4 : s.power ≤ 4) : s.cycling = true := by
  have h : s.power = 2 ∨ s.power = 3 ∨ s.power = 4 := by omega
  rcases h with h | h | h <;> simp [State.cycling, h]

theorem act_of_alive {dt : Nat} {f : State → State} {s : State} (h : s.alive = true) :
    act dt f s = .next (settle s.pending (f (s.elapse dt))) := by
  simp [act, h]

theorem ringCyclesAreCounted : Parts.RingCyclesAreCounted := by
  intro dt s ⟨halive, h2, h4, hdue⟩
  have hcycling : (s.elapse dt).cycling = true := cycling_of_power (by simpa using h2) (by simpa using h4)
  obtain ⟨hcyc, hbound⟩ := nextCycle_cycleBoundary hcycling hdue
  have hper : (s.elapse dt).timerRestart.cyclesPerPace = s.cyclesPerPace := by
    show (s.elapse dt).cyclesPerPace = _
    simp [State.cyclesPerPace, State.cycleNs]
  have hcyc' : (s.elapse dt).cycleBoundary.cyc = { s.cyc with sub := (s.cyc.sub + 1) % s.cyclesPerPace } := by
    rw [hcyc, hper]
    simp [State.timerRestart]
  have hbound' : (s.elapse dt).cycleBoundary.ring.boundAt = s.now + dt := by
    rw [hbound]
    simp [State.timerRestart]
  refine ⟨_, act_of_alive halive, ?_, ?_, ?_, fun _ => hbound'⟩ <;> rw [State.settle_cyc, hcyc']

/-! ### Marks that pass without effect (R31, R34) -/

theorem markOpen_eq_false {s : State} {code : Nat}
    (h : s.cyc.voided = true ∨ code ∈ s.cyc.marks ∨ 4 ∈ s.cyc.marks ∨ s.power = 1 ∨ s.power = 5) :
    s.markOpen code = false := by
  rcases h with h | h | h | h | h <;> simp [State.markOpen, State.cycling, h]

theorem legOpen_eq_false {s : State} {code idx : Nat} (h : s.markOpen code = false) : s.legOpen code idx = false := by
  simp [State.legOpen, h]

/-- A command that would change nothing after `dt` ns lets time pass. -/
theorem act_of_unchanged {dt : Nat} {f : State → State} {s : State} (h : f (s.elapse dt) = s.elapse dt) :
    act dt f s = .next (settle s.pending (s.elapse dt)) := by
  simp [act, h]

theorem marksPassOnceInAPace : Parts.MarksPassOnceInAPace := by
  intro dt ns b gclk agree vec sats s e he h
  have hopen : (s.elapse dt).markOpen e.2 = false := markOpen_eq_false (by simpa using h)
  have hleg (idx : Nat) : (s.elapse dt).legOpen e.2 idx = false := legOpen_eq_false hopen
  simp only [markTable, List.mem_cons, List.not_mem_nil, or_false] at he
  rcases he with rfl | rfl | rfl | rfl | rfl | rfl | rfl | rfl | rfl | rfl | rfl | rfl
  · exact act_of_unchanged (f := State.commitMark) (by simp [State.commitMark, hopen])
  · exact act_of_unchanged (f := State.allocationMark) (by simp [State.allocationMark, hopen])
  · exact act_of_unchanged (f := State.cmdMark) (by simp [State.cmdMark, hopen])
  · exact act_of_unchanged (f := fun s => s.endMark ns) (by simp [State.endMark, hopen])
  · exact act_of_unchanged (f := fun s => s.legBoundary gclk agree vec) (by simp [State.legBoundary, hleg])
  · exact act_of_unchanged (f := fun s => s.observerMark b) (by simp [State.observerMark, hleg])
  · exact act_of_unchanged (f := fun s => s.envelopeMark b) (by simp [State.envelopeMark, hleg])
  · exact act_of_unchanged (f := fun s => s.demandMark b) (by simp [State.demandMark, hleg])
  · exact act_of_unchanged (f := fun s => s.classHMark b) (by simp [State.classHMark, hleg])
  · exact act_of_unchanged (f := fun s => s.stageBoundary sats) (by simp [State.stageBoundary, hleg])
  · exact act_of_unchanged (f := State.gateMet) (by simp [State.gateMet, hleg])
  · exact act_of_unchanged (f := State.kerbMark) (by simp [State.kerbMark, hopen])

/-- Settles O19: a mark that is not open leaves the state as it is, and of all that a ring-cycle boundary does, only the step to
the next cycle touches the cycle's count. -/
theorem ringCyclesAndMarksPassOnce : Obligations.RingCyclesAndMarksPassOnce :=
  ⟨marksPassOnceInAPace, ringCyclesAreCounted⟩

end Sys2Proof.Proofs.Cycle
end

section
/-! Proofs/GnssRefuted: the statement on the satellite baseband fails on its notches (R130), by a state on which the model
runs: one stream's notch has waited out its second without a line when a line of another stream engages one. -/

namespace Sys2Proof.Proofs.Gnss

open Sys2Proof Sys2Proof.Machine Sys2Proof.Safety Sys2Proof.Proofs.Cycle

theorem lastCode_of_logged {ev : Ev} {arg data : Nat} {t : State} (h : Logged ev arg data t) :
    (aGet t.log.last ev.src).map (·.entry.code) = some (ev.sev * 2 ^ 14 + ev.num) := by
  obtain ⟨x, hlast, hcode, -⟩ := h
  rw [hlast, Option.map_some, hcode]

/-- Every stream's notches enabled as at reset, and only notch 0 of stream 1 engaged, at 300 kHz; 99 spectra in a row have shown
it no line, and the next one without a line completes the second after which it releases (R130). -/
def notchAboutToRelease : State :=
  let s := (inPace 0).setNotch 1 0 true 20 300
  { s with gns := { s.gns with quiet := [(2, 99)] } }

/-- A line of stream 0, 10 dB above the reset threshold. -/
def lineOfStream0 : SpecLine := ⟨0, 100, 25⟩

/-- The streams are served in rising order, so the last record is the release on stream 1. -/
theorem notchAboutToRelease_lastRecord {t : State} (h : exec (.notchSpectrumUpdate 0 [lineOfStream0]) notchAboutToRelease = .next t) :
    (aGet t.log.last Ev.NOTCH_ENGAGED.src).map (·.entry.code) =
      some (Ev.NOTCH_RELEASED.sev * 2 ^ 14 + Ev.NOTCH_RELEASED.num) := by
  rw [← seen_next (d := none) (f := fun t => (aGet t.log.last Ev.NOTCH_ENGAGED.src).map (·.entry.code)) h]
  decide +kernel

/-- The clause on an engagement's record asks that no notch of a stream that is turned off is engaged, and not that no notch of an
enabled stream releases for want of a line. -/
theorem not_notchesFollowLines : ¬ Parts.NotchesFollowLines := by
  intro h
  obtain ⟨t, ht, hengages, -⟩ := h 0 lineOfStream0 notchAboutToRelease (by decide +kernel) (by decide)
  obtain ⟨-, -, hrecord, -⟩ :=
    hengages (by decide +kernel) (by decide +kernel) (by decide +kernel) (by decide +kernel)
  have hengaged := lastCode_of_logged (hrecord (by decide +kernel))
  rw [notchAboutToRelease_lastRecord ht] at hengaged
  exact absurd hengaged (by decide)

/-- Refutes O52: when a line of stream 0 engages a notch, the same spectrum can release an enabled notch of stream 1 that has been
without a line for its second (R130), and then the source's last record is the release and not the engagement. -/
theorem not_theBasebandTracksAndFixes : ¬ Obligations.TheBasebandTracksAndFixes := by
  rintro ⟨-, -, -, hnotches, -⟩
  exact not_notchesFollowLines hnotches

end Sys2Proof.Proofs.Gnss
end

section
/-! Proofs/Commands: what commands of many units share: which record of a source is the last one after an event (R399, R400), and
what a host write comes to (R19, R62, R416). -/

namespace Sys2Proof.Proofs.Commands

open Sys2Proof Sys2Proof.Machine Sys2Proof.Safety

/-! As in the other proofs: one is elaborated after the other, for the memory that the check allows. -/
set_option Elab.async false

/-! ### The recorder's last record of a source (R399, R400) -/

section Records
variable {ev ev' : Ev} {arg data arg' data' flags : Nat} {s t : State} {b : Bool}

theorem logged_of_last (h : Logged ev arg data s) (e : aGet t.log.last ev.src = aGet s.log.last ev.src) : Logged ev arg data t := by
  obtain ⟨x, hlast, hx⟩ := h
  exact ⟨x, e.trans hlast, hx⟩

theorem sealMore_last (k : Bytes) (n : Nat) (l : Recorder) : (sealMore k n l).last = l.last := by
  induction n generalizing l with
  | zero => rfl
  | succ n ih =>
    unfold sealMore
    dsimp only
    split
    · exact ih _
    · rfl

theorem sealLog_last (s : State) : s.sealLog.log.last = s.log.last := by
  unfold State.sealLog
  split
  · rfl
  · exact sealMore_last ..

theorem logPublish_log (s : State) : s.logPublish.log = s.log :=
  ((Differs.refl s).logPublish (ps := []) (fs := logFlds) (fun _ h => h)).1 .log (by decide)

theorem logged_storeRecord_same : Logged ev arg data (s.storeRecord ev arg data flags b) :=
  ⟨_, aGet_aSet_same .., rfl, rfl, rfl⟩

theorem logged_storeRecord_other (h : Logged ev arg data s) (hsrc : ev.src ≠ ev'.src) :
    Logged ev arg data (s.storeRecord ev' arg' data' flags b) :=
  logged_of_last h (aGet_aSet_ne _ _ hsrc)

/-- The record of a full main area is of the recorder's own source, and hides no event of another one. -/
theorem logged_newRecord (hsrc : ev.src ≠ Ev.LOG_FULL.src) : Logged ev arg data (s.newRecord ev arg data flags) := by
  have published {u : State} (h : Logged ev arg data u) : Logged ev arg data u.logPublish :=
    logged_of_last h (by rw [logPublish_log])
  have stored : Logged ev arg data (s.storeRecord ev arg data flags false).sealLog :=
    logged_of_last logged_storeRecord_same (by rw [sealLog_last])
  unfold State.newRecord
  dsimp only
  split
  · exact published (logged_of_last logged_storeRecord_same (by rw [State.count_log]))
  · split
    · refine published (logged_of_last (logged_storeRecord_other ?_ hsrc) (by rw [State.irq_log]))
      exact logged_of_last stored rfl
    · exact published stored

/-- A repeat counts in the record it repeats. -/
theorem logged_repeatRecord {x : LastRec} (hlast : aGet s.log.last ev.src = some x)
    (hcode : x.entry.code = ev.sev * 2 ^ 14 + ev.num) (harg : x.entry.arg = arg % 256) (hdata : x.entry.data = data % 2 ^ 32) : Logged ev arg data (s.repeatRecord x) := by
  by_cases hsrc : ev.src = x.entry.source
  · refine ⟨{ x with entry := { x.entry with rep := min 0xFFFF (x.entry.rep + 1) } }, ?_, hcode, harg, hdata⟩
    rw [hsrc]
    exact aGet_aSet_same ..
  · exact ⟨x, (aGet_aSet_ne _ _ hsrc).trans hlast, hcode, harg, hdata⟩

theorem logged_ite {c : Prop} [Decidable c] (h : c → Logged ev arg data s) (k : ¬c → Logged ev arg data t) :
    Logged ev arg data (if c then s else t) := by
  split
  · rename_i hc; exact h hc
  · rename_i hc; exact k hc

/-- An event of any source but the recorder's is its source's last record. -/
theorem logged_logEv (hsrc : ev.src ≠ Ev.LOG_FULL.src) : Logged ev arg data (s.logEv ev arg data) := by
  unfold State.logEv
  split
  · exact logged_newRecord hsrc
  · rename_i x hlast
    refine logged_ite (fun ⟨hcode, harg, hdata⟩ => ?_) (fun _ => logged_newRecord hsrc)
    exact logged_ite (fun _ => logged_repeatRecord hlast hcode harg hdata) (fun _ => logged_newRecord hsrc)

end Records

/-! ### Host writes (R19, R62, R416) -/

section Writes
variable {dt a w : Nat} {r : Row} {eff : State → State} {ps : List Part} {fs : List Fld} {s u : State}

/-- A command that comes to a state `u` on the running device. -/
theorem changes_act_to {f : State → State} (ha : s.alive = true) (hf : f (s.elapse dt) = u) (h : Differs ps fs (s.elapse dt) u) :
    act dt f s = .next (settle s.pending u) ∧ Changes dt ps fs s (settle s.pending u) := by
  subst hf
  exact changes_act ha h

/-- A host write of a legal value to an open unit comes to its effect. -/
theorem changes_hostCmd (hs : HostTakes a s) (hp : r.priv = false) (hv : r.legalOk w = true) (he : eff (s.elapse dt) = u)
    (h : Differs ps fs (s.elapse dt) u) (hl : (r.acc == .rws && s.tgLocks a) = false) :
    act dt (fun s => s.hostCmd r a true w eff) s = .next (settle s.pending u) ∧ Changes dt ps fs s (settle s.pending u) := by
  obtain ⟨halive, hc⟩ := hs
  exact changes_act_to halive ((hostCmd_takes hp (by simpa using hc) (by simpa using hl) hv).trans he) h

/-- The same of a privileged register, which ends the run of refused transactions. -/
theorem changes_hostCmd_priv (hs : HostTakes a s) (hp : r.priv = true) (hv : r.legalOk w = true)
    (he : eff (s.elapse dt).privUsed = u) (h : Differs ps fs (s.elapse dt) u) (hl : (r.acc == .rws && s.tgLocks a) = false) :
    act dt (fun s => s.hostCmd r a true w eff) s = .next (settle s.pending u) ∧ Changes dt ps fs s (settle s.pending u) := by
  obtain ⟨halive, hc⟩ := hs
  exact changes_act_to halive ((hostCmd_takes_priv hp (by simpa using hc) (by simpa using hl) hv).trans he) h

theorem is_lastErr {f : Fld} {c : Nat} (h : f.addr ≠ Reg.HIF_LAST_ERR) : (s.lastErr c a).is f = s.is f := by
  unfold State.is State.lastErr
  rw [State.get_put_ne _ _ _ _ h, State.get_put_ne _ _ _ _ h]

/-- A host write of an illegal value comes to BAD_WRITE. -/
theorem changes_hostCmd_bad (hs : HostTakes a s) (hp : r.priv = false) (hv : r.legalOk w = false) :
    ∃ t, act dt (fun s => s.hostCmd r a true w eff) s = .next t ∧ t.is Fl.HIF_STATUS_BAD_WRITE = true ∧
      Changes dt [] badFlds s t := by
  obtain ⟨halive, hc⟩ := hs
  have he : (s.elapse dt).hostCmd r a true w eff = (s.elapse dt).badWrite a := by
    simp [State.hostCmd, State.hostTxn, State.hostWrite, hp, hc, hv]
  obtain ⟨ht, hch⟩ := changes_act_to (f := fun s => s.hostCmd r a true w eff) halive he
    ((Differs.refl _).badWrite (fun _ h => h))
  refine ⟨_, ht, ?_, hch⟩
  rw [State.is_settle]
  exact (is_lastErr (by decide)).trans (State.is_flag_same _ _ _ rfl (by decide))

end Writes

end Sys2Proof.Proofs.Commands
end

section
/-! Proofs/HostWord: the host's decisions for the fusion unit, and its setpoints, tests and captures in the loop engine
(R166, R172, R181, R191 to R197). -/

namespace Sys2Proof.Proofs.HostWord

open Sys2Proof Sys2Proof.Machine Sys2Proof.Safety Sys2Proof.Proofs.Commands

/-! As in the other proofs: one is elaborated after the other, for the memory that the check allows. -/
set_option Elab.async false

/-! ### Decisions (R166) -/

/-- FUS_CMD takes an action of 1 to 5 with a track there is, and D4's actions with any. -/
theorem fusCmd_legalOk_iff {what k : Nat} (h1 : 1 ≤ what) (h5 : what ≤ 5) (hk : k < 32) :
    Rw.FUS_CMD.legalOk (what * 2 ^ 28 + k) = true ↔ k < 18 ∨ 4 ≤ what := by
  simp only [Row.legalOk, Rw.FUS_CMD, Legal.ok, List.all_cons, List.all_nil, Bool.and_true, Bool.and_eq_true, Bool.or_eq_true,
    decide_eq_true_eq]
  omega

/-- A decision for a track there is waits behind those before it, and one for another track is refused. -/
theorem fusDecision_waitsOrIsRefused {dt what k : Nat} {s : State} (hs : HostTakes Reg.FUS_CMD s) (h1 : 1 ≤ what)
    (h5 : what ≤ 5) (h4 : 4 ≤ what → k = 0) :
    (k % 32 < 18 → ∃ t, fusDecision dt what k s = .next t ∧ t.fus = { s.fus with cmds := s.fus.cmds ++ [(what, k % 32)] } ∧
      Changes dt [.fus] [] s t) ∧
    (18 ≤ k % 32 → ∃ t, fusDecision dt what k s = .next t ∧ t.is Fl.HIF_STATUS_BAD_WRITE = true ∧
      Changes dt [] badFlds s t) := by
  have hlegal := fusCmd_legalOk_iff h1 h5 (Nat.mod_lt k (by decide : 0 < 32))
  constructor
  · intro hk
    obtain ⟨ht, hch⟩ := changes_hostCmd (dt := dt) (eff := fun s => s.fusCmd what (k % 32)) hs rfl
      (ps := [.fus]) (fs := []) (hlegal.mpr (.inl hk)) rfl ((Differs.refl _).fus (by decide)) rfl
    exact ⟨_, ht, by simp [State.fusCmd], hch⟩
  · intro hk
    have hillegal := mt hlegal.mp (by omega)
    exact changes_hostCmd_bad hs rfl (eq_false_of_ne_true hillegal)

theorem decisionsWaitForTheObserverMark : Parts.DecisionsWaitForTheObserverMark := by
  intro dt k s hs p hp
  simp only [List.mem_cons, List.not_mem_nil, or_false] at hp
  rcases hp with rfl | rfl | rfl | rfl | rfl
  · exact fusDecision_waitsOrIsRefused hs (what := 1) (by omega) (by omega) (by omega)
  · exact fusDecision_waitsOrIsRefused hs (what := 2) (by omega) (by omega) (by omega)
  · exact fusDecision_waitsOrIsRefused hs (what := 3) (by omega) (by omega) (by omega)
  · exact fusDecision_waitsOrIsRefused hs (what := 4) (k := 0) (by omega) (by omega) (by omega)
  · exact fusDecision_waitsOrIsRefused hs (what := 5) (k := 0) (by omega) (by omega) (by omega)

/-! ### The control law (R172, R181, R191) -/

theorem spGo_waits {dt : Nat} {w : Word} {s : State} (hs : HostTakes Reg.LOOP_SP_GO s) (hv : Rw.LOOP_SP_GO.legalOk w.toNat = true) :
    (w.toNat.testBit 0 = true → ∃ t, exec (.spGo dt w) s = .next t ∧
      t.loop = { s.loop with go := some ⟨sInt (s.rd Reg.LOOP_SP_N), sInt (s.rd Reg.LOOP_SP_E), s.rd Reg.LOOP_SP_HDG, s.rd Reg.LOOP_MOVE_SPEED, s.rd Reg.LOOP_MOVE_TURN, s.rd Reg.LOOP_MOVE_ACCEL,
      w.toNat / 2 % 4, w.toNat.testBit 3⟩ } ∧ Changes dt [.loop] [] s t) ∧
    (w.toNat.testBit 0 = false → ∃ t, exec (.spGo dt w) s = .next t ∧ Changes dt [] [] s t) := by
  constructor
  · intro hgo
    obtain ⟨ht, hch⟩ := changes_hostCmd (dt := dt) (eff := fun s => s.spGo w.toNat) (ps := [.loop]) (fs := []) hs rfl hv
      (by simp only [State.spGo, hgo]; rfl) ((Differs.refl _).loop (by decide)) rfl
    exact ⟨_, ht, by simp, hch⟩
  · intro hgo
    obtain ⟨ht, hch⟩ := changes_hostCmd (dt := dt) (eff := fun s => s.spGo w.toNat) (ps := []) (fs := []) hs rfl hv
      (by simp only [State.spGo, hgo]; rfl) (Differs.refl _) rfl
    exact ⟨_, ht, hch⟩

/-- In JOYSTICK and with no ramp yet, no joystick register has been written for LOOP_JOY_TMO ms (R181). -/
def JoySilent (s : State) : Prop :=
  s.lawMode = 2 ∧ s.loop.ramp = none ∧ s.loop.joyAt + s.get ⟨Reg.LOOP_JOY_TMO, 15, 0⟩ * 1000000 ≤ s.now

theorem joyStale_of_silent {s : State} (h : JoySilent s) :
    s.joyStale = ((({ s with loop := { s.loop with
      ramp := some (s.now, [sInt (s.rd Reg.LOOP_JOY_X), sInt (s.rd Reg.LOOP_JOY_Y), sInt (s.rd Reg.LOOP_JOY_N)]),
      ended := false } } : State).flag Fl.LOOP_STATUS_JOY_STALE true).logEv Ev.JOY_STALE).irq 19 := by
  obtain ⟨hmode, hramp, htmo⟩ := h
  simp [State.joyStale, State.joyTau, hmode, hramp, htmo]

theorem joyStale_of_not_silent {s : State} (h : ¬ JoySilent s) : s.joyStale = s := by
  unfold JoySilent at h
  unfold State.joyStale
  rw [if_neg (by simpa using h)]

/-- What the ramp's beginning may change. -/
theorem differs_joyStale {s : State} :
    Differs [.loop, .log] ([Fl.LOOP_STATUS_JOY_STALE, irqFld 19] ++ logFlds) s s.joyStale := by
  unfold State.joyStale
  split
  · exact ((((Differs.refl s).loop (by decide)).flag (by decide) (by decide) (by decide)).logEv (by decide)
      (fun f hf => List.mem_append_right _ hf)).irq (by decide) (by decide)
  · exact Differs.refl _

/-- A record leaves every register but the recorder's and HIF_IRQ_STATUS alone. -/
theorem is_logEv {f : Fld} {ev : Ev} {arg data : Nat} {s : State} (hf : f.lo ≤ f.hi) (hd : ∀ g ∈ logFlds, g.addr ≠ f.addr) :
    (s.logEv ev arg data).is f = s.is f := by
  have hbits := ((Differs.refl s).logEv (ev := ev) (arg := arg) (data := data) (ps := [.log]) (fs := logFlds) (by decide)
    (fun _ h => h)).2
  unfold State.is
  rw [hbits.get hf (fun g hg => .inl (hd g hg))]

theorem logEv_loop (s : State) (ev : Ev) (arg data : Nat) : (s.logEv ev arg data).loop = s.loop :=
  ((Differs.refl s).logEv (ps := [.log]) (fs := logFlds) (by decide) (fun _ h => h)).1 .loop (by decide)

theorem joyStale_showsAndRecords {s : State} (h : JoySilent s) :
    s.joyStale.is Fl.LOOP_STATUS_JOY_STALE = true ∧ s.joyStale.get (irqFld 19) = 1 ∧ Logged Ev.JOY_STALE 0 0 s.joyStale ∧
    s.joyStale.loop.ramp = some (s.now, [sInt (s.rd Reg.LOOP_JOY_X), sInt (s.rd Reg.LOOP_JOY_Y), sInt (s.rd Reg.LOOP_JOY_N)]) := by
  rw [joyStale_of_silent h]
  refine ⟨?_, State.get_put_same _ _ _ (by decide) (by decide), ?_, ?_⟩
  · have hirq (t : State) : (t.irq 19).is Fl.LOOP_STATUS_JOY_STALE = t.is Fl.LOOP_STATUS_JOY_STALE := by
      unfold State.is State.irq
      rw [State.get_put_ne _ _ _ _ (by decide)]
    rw [hirq, is_logEv (by decide) (by decide)]
    exact State.is_flag_same _ _ _ rfl (by decide)
  · exact logged_of_last (logged_logEv (by decide)) (by rw [State.irq_log])
  · rw [State.irq_loop, logEv_loop, State.flag_loop]

theorem joySilent_elapse {dt : Nat} {s : State} : JoySilent (s.elapse dt) ↔
    s.lawMode = 2 ∧ s.loop.ramp = none ∧ s.loop.joyAt + s.get ⟨Reg.LOOP_JOY_TMO, 15, 0⟩ * 1000000 ≤ s.now + dt := by
  simp [JoySilent, State.lawMode]

theorem joystickSilence {dt : Nat} {s : State} (hu : UnitTakes 6 s) :
    (JoySilent (s.elapse dt) → ∃ t, exec (.joyStale dt) s = .next t ∧ t.is Fl.LOOP_STATUS_JOY_STALE = true ∧
      t.get (irqFld 19) = 1 ∧ Logged Ev.JOY_STALE 0 0 t ∧
      t.loop.ramp = some (s.now + dt, [sInt (s.rd Reg.LOOP_JOY_X), sInt (s.rd Reg.LOOP_JOY_Y), sInt (s.rd Reg.LOOP_JOY_N)]) ∧
      Changes dt [.loop, .log] ([Fl.LOOP_STATUS_JOY_STALE, irqFld 19] ++ logFlds) s t) ∧
    (¬ JoySilent (s.elapse dt) → ∃ t, exec (.joyStale dt) s = .next t ∧ Changes dt [] [] s t) := by
  constructor
  · intro hsilent
    obtain ⟨ht, hch⟩ := changes_actUnit (dt := dt) hu differs_joyStale
    obtain ⟨hflag, hirq, hlog, hramp⟩ := joyStale_showsAndRecords hsilent
    exact ⟨_, ht, hflag, hirq, logged_of_last hlog (by rw [State.settle_log]), by simpa using hramp, hch⟩
  · intro hnot
    obtain ⟨ht, hch⟩ := changes_actUnit (dt := dt) (f := State.joyStale) (ps := []) (fs := []) hu
      (by rw [joyStale_of_not_silent hnot]; exact Differs.refl _)
    exact ⟨_, ht, hch⟩

/-- The word that a write of LOOP_SLOT_CTL leaves held: the requests of earlier held writes beside its own (R190, R191). -/
def slotHeld (old w : Nat) : Nat := old / 2 ^ 30 * 2 ^ 30 ||| (w &&& 0xC0000030)

theorem testBit_slotHeld (old w j : Nat) :
    (slotHeld old w).testBit j = (decide (30 ≤ j) && old.testBit j || w.testBit j && Nat.testBit 0xC0000030 j) := by
  unfold slotHeld
  rw [Nat.testBit_or, Nat.testBit_and, Nat.mul_comm, Nat.testBit_two_pow_mul, Nat.testBit_div_two_pow]
  by_cases hj : 30 ≤ j <;> simp [hj]

theorem slotHeld_lt {old w : Nat} (h : old < 2 ^ 32) : slotHeld old w < 2 ^ 32 :=
  Nat.or_lt_two_pow (by omega) (Nat.and_lt_two_pow _ (by decide))

/-- Of CLR and I_LOAD, bits 31 and 30, the write's own is set and the other is as it was held; AW is the write's. -/
theorem slotHeld_request {i o : Nat} (h : i = 31 ∧ o = 30 ∨ i = 30 ∧ o = 31) (old x : Nat) :
    (slotHeld old (2 ^ i + x % 64)).testBit i = true ∧ (slotHeld old (2 ^ i + x % 64)).testBit o = old.testBit o ∧
    slotHeld old (2 ^ i + x % 64) / 16 % 4 = x / 16 % 4 := by
  have hw (j : Nat) : (2 ^ i + x % 64).testBit j = if j < i then decide (j < 6) && x.testBit j else Nat.testBit 1 (j - i) := by
    have hx : x % 64 < 2 ^ i := by rcases h with ⟨rfl, rfl⟩ | ⟨rfl, rfl⟩ <;> omega
    rw [← Nat.testBit_mod_two_pow]
    simpa using Nat.testBit_two_pow_mul_add 1 hx j
  obtain ⟨h4, h5, h30, h31, hone⟩ : Nat.testBit 0xC0000030 4 = true ∧ Nat.testBit 0xC0000030 5 = true ∧
    Nat.testBit 0xC0000030 30 = true ∧ Nat.testBit 0xC0000030 31 = true ∧ Nat.testBit 1 1 = false := by decide
  have haw : slotHeld old (2 ^ i + x % 64) / 2 ^ 4 % 2 ^ 2 = x / 2 ^ 4 % 2 ^ 2 := by
    refine Nat.eq_of_testBit_eq fun j => ?_
    simp only [Nat.testBit_mod_two_pow, Nat.testBit_div_two_pow, testBit_slotHeld, hw]
    have hj : j = 0 ∨ j = 1 ∨ ¬ j < 2 := by omega
    rcases h with ⟨rfl, rfl⟩ | ⟨rfl, rfl⟩ <;> rcases hj with rfl | rfl | hj <;> simp [*]
  refine ⟨?_, ?_, haw⟩ <;> rw [testBit_slotHeld, hw] <;> rcases h with ⟨rfl, rfl⟩ | ⟨rfl, rfl⟩ <;> simp [h30, h31, hone]

theorem shown_elapse (s : State) (dt a : Nat) : (s.elapse dt).shown a = s.shown a := by
  unfold State.elapse
  split <;> rfl

theorem slotRequest_isHeld {dt k i o : Nat} {s : State} (hs : HostStages (Reg.LOOP_SLOT_CTL k) s)
    (h : i = 31 ∧ o = 30 ∨ i = 30 ∧ o = 31) :
    ∃ t v, act dt (fun s => s.hostCmd Rw.LOOP_SLOT_CTL (Reg.LOOP_SLOT_CTL k) true (2 ^ i)
        (fun s => s.slotCtl k (2 ^ i + s.shown (Reg.LOOP_SLOT_CTL k) % 64))) s = .next t ∧
      t.staged = aSet s.staged (Reg.LOOP_SLOT_CTL k) v ∧ v.toNat.testBit i = true ∧
      v.toNat.testBit o = (((aGet s.staged (Reg.LOOP_SLOT_CTL k)).map BitVec.toNat).getD 0).testBit o ∧
      v.toNat / 16 % 4 = s.shown (Reg.LOOP_SLOT_CTL k) / 16 % 4 ∧ Changes dt [.staged] [] s t := by
  obtain ⟨hs, hlocks⟩ := hs
  obtain ⟨ht, hch⟩ := changes_hostCmd (dt := dt) (r := Rw.LOOP_SLOT_CTL) (w := 2 ^ i) (ps := [.staged]) (fs := [])
    (eff := fun s => s.slotCtl k (2 ^ i + s.shown (Reg.LOOP_SLOT_CTL k) % 64)) hs rfl rfl rfl ((Differs.refl _).staged (by decide))
    (by rw [hlocks, Bool.and_false])
  generalize hold : ((aGet s.staged (Reg.LOOP_SLOT_CTL k)).map BitVec.toNat).getD 0 = old
  have hlt : old < 2 ^ 32 := by
    rw [← hold]
    cases aGet s.staged (Reg.LOOP_SLOT_CTL k) with
    | none => decide
    | some v => exact v.isLt
  refine ⟨_, BitVec.ofNat 32 (slotHeld old (2 ^ i + s.shown (Reg.LOOP_SLOT_CTL k) % 64)), ht, ?_, ?_⟩
  · simp [State.slotCtl, State.stage, slotHeld, shown_elapse, hold]
  · rw [BitVec.toNat_ofNat, Nat.mod_eq_of_lt (slotHeld_lt hlt)]
    obtain ⟨hown, hother, haw⟩ := slotHeld_request h old (s.shown (Reg.LOOP_SLOT_CTL k))
    exact ⟨hown, hother, haw, hch⟩

theorem exec_slotClr {dt k : Nat} {s : State} (hk : k < 96) : exec (.slotClr dt k) s =
    act dt (fun s => s.hostCmd Rw.LOOP_SLOT_CTL (Reg.LOOP_SLOT_CTL k) true (2 ^ 31)
      (fun s => s.slotCtl k (2 ^ 31 + s.shown (Reg.LOOP_SLOT_CTL k) % 64))) s := by
  show execSlotClr dt k s = _
  unfold execSlotClr
  rw [Nat.mod_eq_of_lt hk]

theorem exec_slotILoad {dt k : Nat} {s : State} (hk : k < 96) : exec (.slotILoad dt k) s =
    act dt (fun s => s.hostCmd Rw.LOOP_SLOT_CTL (Reg.LOOP_SLOT_CTL k) true (2 ^ 30)
      (fun s => s.slotCtl k (2 ^ 30 + s.shown (Reg.LOOP_SLOT_CTL k) % 64))) s := by
  show execSlotILoad dt k s = _
  unfold execSlotILoad
  rw [Nat.mod_eq_of_lt hk]

theorem theHostSteersTheLaw : Parts.TheHostSteersTheLaw := by
  intro dt k w s
  refine ⟨fun hs hv => spGo_waits hs hv, fun hu => ?_, fun hk hs p hp => ?_⟩
  · obtain ⟨hsilent, hnot⟩ := joystickSilence (dt := dt) hu
    exact ⟨fun hq => hsilent (joySilent_elapse.mpr hq), fun hq => hnot (mt joySilent_elapse.mp hq)⟩
  · simp only [List.mem_cons, List.not_mem_nil, or_false] at hp
    rcases hp with rfl | rfl <;> dsimp only
    · rw [exec_slotClr hk]
      exact slotRequest_isHeld hs (.inl ⟨rfl, rfl⟩)
    · rw [exec_slotILoad hk]
      exact slotRequest_isHeld hs (.inr ⟨rfl, rfl⟩)

/-! ### Tests (R193 to R195) -/

/-- The registers show a test's state and cause, and whether it runs. -/
def testShows (s : State) (st c : Nat) (go : Bool) : State :=
  ((s.put Fl.LOOP_TEST_STATUS_STATE st).put Fl.LOOP_TEST_STATUS_CAUSE c).flag Fl.LOOP_TEST_CTL_GO go

/-- The fields that a write of LOOP_TEST_CTL may change. -/
def testRegs : List Fld := [whole Reg.LOOP_TEST_CTL, whole Reg.LOOP_TEST_STATUS]

section TestShows
variable (s : State) (st c : Nat) (go : Bool)

theorem get_testShows {f : Fld} (hf : f.addr = Reg.LOOP_TEST_STATUS) :
    (testShows s st c go).get f = ((s.put Fl.LOOP_TEST_STATUS_STATE st).put Fl.LOOP_TEST_STATUS_CAUSE c).get f :=
  State.get_put_ne _ _ _ _ (by rw [hf]; decide)

theorem testShows_state : (testShows s st c go).get Fl.LOOP_TEST_STATUS_STATE = st % 4 := by
  rw [get_testShows s st c go rfl, State.get_put_disj _ _ _ _ (by decide) (by decide) (by decide) (by decide)]
  exact State.get_put_same s _ _ (by decide) (by decide)

theorem testShows_cause : (testShows s st c go).get Fl.LOOP_TEST_STATUS_CAUSE = c % 8 := by
  rw [get_testShows s st c go rfl]
  exact State.get_put_same _ _ _ (by decide) (by decide)

theorem testShows_samples : (testShows s st c go).get Fl.LOOP_TEST_STATUS_SAMPLES = s.get Fl.LOOP_TEST_STATUS_SAMPLES := by
  rw [get_testShows s st c go rfl, State.get_put_disj _ _ _ _ (by decide) (by decide) (by decide) (by decide),
    State.get_put_disj _ _ _ _ (by decide) (by decide) (by decide) (by decide)]

theorem testShows_go : (testShows s st c go).is Fl.LOOP_TEST_CTL_GO = go := State.is_flag_same _ _ _ rfl (by decide)

variable {s st c go} in
theorem differs_testShows {ps : List Part} {u : State} (k : Differs ps testRegs u s) : Differs ps testRegs u (testShows s st c go) :=
  ((k.putW (by decide) (by decide) (by decide)).putW (by decide) (by decide) (by decide)).flagW (by decide) (by decide) (by decide)

end TestShows

/-- LOOP_TEST_CTL as a write leaves it, with GO as it was. -/
def testWritten (s : State) (w : Nat) : State :=
  s.wr Reg.LOOP_TEST_CTL ((w &&& 0x717F) ||| (if s.is Fl.LOOP_TEST_CTL_GO then 2 ^ 31 else 0))

/-- The same, with no sample counted. -/
def testCounted (s : State) (w : Nat) : State := (testWritten s w).put Fl.LOOP_TEST_STATUS_SAMPLES 0

/-- What allows a test on a slot (R193). -/
def TestPermitted (s : State) (k : Nat) : Prop :=
  s.is Fl.KRB_STATUS_TEST_PERMIT = true ∧ s.inRun = true ∧ s.role = 3 ∧ s.slotRate k ≠ 0

/-- The generator that a write of LOOP_TEST_CTL starts (R194). -/
def testGenOf (s : State) (w : Nat) : TestGen :=
  { slot := w % 128, point := w / 256 % 2, shape := w / 4096 % 8, amp := sInt (s.rd Reg.LOOP_TEST_AMP)
    offset := sInt (s.rd Reg.LOOP_TEST_OFFSET), freq := s.rd Reg.LOOP_TEST_FREQ
    freqEnd := s.rd Reg.LOOP_TEST_FREQ_END, freqStep := s.rd Reg.LOOP_TEST_FREQ_STEP
    dur := s.rd Reg.LOOP_TEST_DUR }

/-- The state with a generator begun. -/
def startTest (s : State) (g : TestGen) : State := { s with loop := { s.loop with gen := g } }

theorem differs_testWritten {ps : List Part} {s : State} {w : Nat} : Differs ps testRegs s (testWritten s w) :=
  (Differs.refl s).wr (by decide)

theorem differs_testCounted {ps : List Part} {s : State} {w : Nat} : Differs ps testRegs s (testCounted s w) :=
  differs_testWritten.putW (by decide) (by decide) (by decide)

theorem testAbort_eq (s : State) (c : Nat) :
    s.testAbort c = if s.get Fl.LOOP_TEST_STATUS_STATE = 1 then testShows s 3 c false else s := rfl

theorem testCtl_go {s : State} {w : Nat} (h30 : w.testBit 30 = false) (h31 : w.testBit 31 = true) :
    (TestPermitted (testCounted s w) (w % 128) →
      s.testCtl w = testShows (startTest (testCounted s w) (testGenOf (testCounted s w) w)) 1 0 true) ∧
    (¬ TestPermitted (testCounted s w) (w % 128) → s.testCtl w = testShows (testCounted s w) 3 1 false) := by
  have hiff : TestPermitted (testCounted s w) (w % 128) ↔
      ((testCounted s w).is Fl.KRB_STATUS_TEST_PERMIT && (testCounted s w).inRun && (testCounted s w).role == 3 && (testCounted s w).slotRate (w % 128) != 0) = true := by
    simp [TestPermitted, and_assoc]
  rw [hiff]
  unfold State.testCtl
  simp only [h30, h31, Bool.not_true, Bool.false_eq_true, if_false]
  exact ⟨fun h => if_pos h, fun h => if_neg h⟩

theorem testCtl_stop {s : State} {w : Nat} (h30 : w.testBit 30 = true) (h31 : w.testBit 31 = false) :
    s.testCtl w = (testWritten s w).testAbort 3 := by
  simp [State.testCtl, testWritten, h30, h31]

section SameElsewhere
variable {ps : List Part} {s t : State}

theorem rd_eq_of_differs_testRegs {a : Nat} (h : Differs ps testRegs s t) (hc : Reg.LOOP_TEST_CTL ≠ a := by decide)
    (hs : Reg.LOOP_TEST_STATUS ≠ a := by decide) : t.rd a = s.rd a :=
  h.2.rd (by simpa [testRegs, whole] using ⟨hc, hs⟩)

theorem get_eq_of_differs_testRegs {f : Fld} (h : Differs ps testRegs s t) (hc : Reg.LOOP_TEST_CTL ≠ f.addr := by decide)
    (hs : Reg.LOOP_TEST_STATUS ≠ f.addr := by decide) : t.get f = s.get f := by
  unfold State.get
  rw [rd_eq_of_differs_testRegs h hc hs]

/-- Neither the write's own register nor the status shown decides on the permission. -/
theorem testPermitted_iff_of_differs {k : Nat} (h : Differs ps testRegs s t) : TestPermitted t k ↔ TestPermitted s k := by
  have hrate : t.slotRate k = s.slotRate k :=
    get_eq_of_differs_testRegs h (by show 0x80100 ≠ 0x81000 + k * 0x40; omega) (by show 0x8011C ≠ 0x81000 + k * 0x40; omega)
  unfold TestPermitted State.is State.inRun State.power State.role
  rw [hrate, get_eq_of_differs_testRegs h, get_eq_of_differs_testRegs h, get_eq_of_differs_testRegs h]

theorem testGenOf_eq_of_differs {w : Nat} (h : Differs ps testRegs s t) : testGenOf t w = testGenOf s w := by
  unfold testGenOf
  rw [rd_eq_of_differs_testRegs h, rd_eq_of_differs_testRegs h, rd_eq_of_differs_testRegs h, rd_eq_of_differs_testRegs h,
    rd_eq_of_differs_testRegs h, rd_eq_of_differs_testRegs h]

end SameElsewhere

/-- Bits 31 and 30 of the word that a command writes to a control register: GO or ARM is 2, STOP or ABORT is 1. -/
theorem testBit_request (c x i : Nat) : (2 ^ 30 * c + x % 2 ^ 30).testBit (30 + i) = c.testBit i := by
  rw [Nat.testBit_two_pow_mul_add _ (Nat.mod_lt x (Nat.two_pow_pos 30)), if_neg (by omega), Nat.add_sub_cancel_left]

theorem testBit_goWord (x : Nat) : (x % 2 ^ 30 + 2 ^ 31).testBit 30 = false ∧ (x % 2 ^ 30 + 2 ^ 31).testBit 31 = true := by
  rw [Nat.add_comm]
  exact ⟨testBit_request 2 x 0, testBit_request 2 x 1⟩

theorem testBit_stopWord (x : Nat) : (2 ^ 30 + x % 2 ^ 30).testBit 30 = true ∧ (2 ^ 30 + x % 2 ^ 30).testBit 31 = false :=
  ⟨testBit_request 1 x 0, testBit_request 1 x 1⟩

theorem testGenOf_goWord (s : State) (w : Nat) : testGenOf s (w % 2 ^ 30 + 2 ^ 31) = testGenOf s w := by
  have hslot : (w % 2 ^ 30 + 2 ^ 31) % 128 = w % 128 := by omega
  have hpoint : (w % 2 ^ 30 + 2 ^ 31) / 256 % 2 = w / 256 % 2 := by omega
  have hshape : (w % 2 ^ 30 + 2 ^ 31) / 4096 % 8 = w / 4096 % 8 := by omega
  unfold testGenOf
  rw [hslot, hpoint, hshape]

theorem testPermitted_elapse {dt k : Nat} {s : State} : TestPermitted (s.elapse dt) k ↔ TestPermitted s k := by
  simp [TestPermitted, State.inRun, State.slotRate]

theorem testGenOf_elapse (s : State) (dt w : Nat) : testGenOf (s.elapse dt) w = testGenOf s w := by
  simp [testGenOf]

theorem testCounted_samples (s : State) (w : Nat) : (testCounted s w).get Fl.LOOP_TEST_STATUS_SAMPLES = 0 :=
  State.get_put_same _ _ _ (by decide) (by decide)

theorem testCounted_loop (s : State) (w : Nat) : (testCounted s w).loop = s.loop := by
  rw [testCounted, State.put_loop, testWritten, State.wr_loop]

theorem privUsed_loop (s : State) : s.privUsed.loop = s.loop := rfl

theorem startTest_samples (s : State) (g : TestGen) :
    (startTest s g).get Fl.LOOP_TEST_STATUS_SAMPLES = s.get Fl.LOOP_TEST_STATUS_SAMPLES := rfl

theorem testShows_loop (s : State) (st c : Nat) (go : Bool) : (testShows s st c go).loop = s.loop := by
  rw [testShows, State.flag_loop, State.put_loop, State.put_loop]

theorem startTest_loop (s : State) (g : TestGen) : (startTest s g).loop = { s.loop with gen := g } := rfl

theorem differs_testCounted_privUsed {ps : List Part} {s : State} {w : Nat} (hp : .hif ∈ ps) :
    Differs ps testRegs s (testCounted s.privUsed w) := ((Differs.refl s).hif hp).trans differs_testCounted

theorem differs_startTest {ps : List Part} {fs : List Fld} {s t : State} {g : TestGen} (k : Differs ps fs s t) (hp : .loop ∈ ps) :
    Differs ps fs s (startTest t g) := k.loop hp

/-- A test starts from the registers as they stand before the write of LOOP_TEST_CTL. -/
theorem testCtl_goWord (s : State) (w : Nat) :
    (TestPermitted s (w % 128) → s.privUsed.testCtl (w % 2 ^ 30 + 2 ^ 31) =
      testShows (startTest (testCounted s.privUsed (w % 2 ^ 30 + 2 ^ 31)) (testGenOf s w)) 1 0 true) ∧
    (¬ TestPermitted s (w % 128) → s.privUsed.testCtl (w % 2 ^ 30 + 2 ^ 31) =
      testShows (testCounted s.privUsed (w % 2 ^ 30 + 2 ^ 31)) 3 1 false) := by
  obtain ⟨h30, h31⟩ := testBit_goWord w
  have hslot : (w % 2 ^ 30 + 2 ^ 31) % 128 = w % 128 := by omega
  have hgen := testGenOf_goWord s w
  generalize w % 2 ^ 30 + 2 ^ 31 = x at h30 h31 hslot hgen
  have hd : Differs [.hif] testRegs s (testCounted s.privUsed x) := differs_testCounted_privUsed (by decide)
  have h := testCtl_go (s := s.privUsed) h30 h31
  rwa [hslot, testPermitted_iff_of_differs hd, testGenOf_eq_of_differs hd, hgen] at h

theorem testGo_startsOrIsRefused {dt : Nat} {w : Word} {s : State} (hs : HostTakes Reg.LOOP_TEST_CTL s)
    (hv : Rw.LOOP_TEST_CTL.legalOk w.toNat = true) :
    (TestPermitted s (w.toNat % 128) → ∃ t, exec (.testGo dt w true) s = .next t ∧ t.get Fl.LOOP_TEST_STATUS_STATE = 1 ∧
      t.get Fl.LOOP_TEST_STATUS_CAUSE = 0 ∧ t.get Fl.LOOP_TEST_STATUS_SAMPLES = 0 ∧ t.is Fl.LOOP_TEST_CTL_GO = true ∧
      t.loop = { s.loop with gen := testGenOf s w.toNat } ∧ Changes dt [.loop, .hif] testRegs s t) ∧
    (¬ TestPermitted s (w.toNat % 128) → ∃ t, exec (.testGo dt w true) s = .next t ∧ t.get Fl.LOOP_TEST_STATUS_STATE = 3 ∧
      t.get Fl.LOOP_TEST_STATUS_CAUSE = 1 ∧ t.is Fl.LOOP_TEST_CTL_GO = false ∧ Changes dt [.hif] testRegs s t) := by
  obtain ⟨hstart, hrefuse⟩ := testCtl_goWord (s.elapse dt) w.toNat
  rw [testPermitted_elapse] at hstart hrefuse
  rw [testGenOf_elapse] at hstart
  show (_ → ∃ t, execTestGo dt w true s = _ ∧ _) ∧ (_ → ∃ t, execTestGo dt w true s = _ ∧ _)
  unfold execTestGo
  generalize w.toNat % 2 ^ 30 + 2 ^ 31 = x at *
  constructor
  · intro hp
    obtain ⟨ht, hch⟩ := changes_hostCmd_priv (dt := dt) (eff := fun s => s.testCtl x) (ps := [.loop, .hif]) hs rfl hv (hstart hp)
      (differs_testShows (differs_startTest (differs_testCounted_privUsed (by decide)) (by decide))) rfl
    refine ⟨_, ht, ?_, ?_, ?_, ?_, ?_, hch⟩
    · rw [State.get_settle, testShows_state]
    · rw [State.get_settle, testShows_cause]
    · rw [State.get_settle, testShows_samples, startTest_samples, testCounted_samples]
    · rw [State.is_settle, testShows_go]
    · rw [State.settle_loop, testShows_loop, startTest_loop, testCounted_loop, privUsed_loop, State.elapse_loop]
  · intro hp
    obtain ⟨ht, hch⟩ := changes_hostCmd_priv (dt := dt) (eff := fun s => s.testCtl x) (ps := [.hif]) hs rfl hv (hrefuse hp)
      (differs_testShows (differs_testCounted_privUsed (by decide))) rfl
    refine ⟨_, ht, ?_, ?_, ?_, hch⟩
    · rw [State.get_settle, testShows_state]
    · rw [State.get_settle, testShows_cause]
    · rw [State.is_settle, testShows_go]

theorem testWritten_status (s : State) (w : Nat) : (testWritten s w).rd Reg.LOOP_TEST_STATUS = s.rd Reg.LOOP_TEST_STATUS :=
  State.rd_wr_ne _ _ (by decide)

theorem testWritten_state (s : State) (w : Nat) :
    (testWritten s w).get Fl.LOOP_TEST_STATUS_STATE = s.get Fl.LOOP_TEST_STATUS_STATE := by
  unfold State.get
  rw [testWritten_status]

theorem testCtl_stopWord (s : State) (w : Nat) : s.privUsed.testCtl (2 ^ 30 + w % 2 ^ 30) =
    if s.get Fl.LOOP_TEST_STATUS_STATE = 1 then testShows (testWritten s.privUsed (2 ^ 30 + w % 2 ^ 30)) 3 3 false
    else testWritten s.privUsed (2 ^ 30 + w % 2 ^ 30) := by
  obtain ⟨h30, h31⟩ := testBit_stopWord w
  rw [testCtl_stop h30 h31, testAbort_eq, testWritten_state]
  rfl

theorem testStop_abortsARunningTest {dt : Nat} {s : State} (hs : HostTakes Reg.LOOP_TEST_CTL s) :
    (s.get Fl.LOOP_TEST_STATUS_STATE = 1 → ∃ t, exec (.testStop dt true) s = .next t ∧ t.get Fl.LOOP_TEST_STATUS_STATE = 3 ∧
      t.get Fl.LOOP_TEST_STATUS_CAUSE = 3 ∧ t.is Fl.LOOP_TEST_CTL_GO = false ∧ Changes dt [.hif] testRegs s t) ∧
    (s.get Fl.LOOP_TEST_STATUS_STATE ≠ 1 → ∃ t, exec (.testStop dt true) s = .next t ∧
      t.rd Reg.LOOP_TEST_STATUS = s.rd Reg.LOOP_TEST_STATUS ∧ Changes dt [.hif] testRegs s t) := by
  have hctl := testCtl_stopWord (s.elapse dt) ((s.elapse dt).rd Reg.LOOP_TEST_CTL)
  rw [State.get_elapse] at hctl
  have hwritten {w : Nat} : Differs [.hif] testRegs (s.elapse dt) (testWritten (s.elapse dt).privUsed w) :=
    ((Differs.refl _).hif (by decide)).trans differs_testWritten
  constructor
  · intro hrun
    rw [if_pos hrun] at hctl
    obtain ⟨ht, hch⟩ := changes_hostCmd_priv (dt := dt) (r := Rw.LOOP_TEST_CTL) (w := 2 ^ 30)
      (eff := fun s => s.testCtl (2 ^ 30 + s.rd Reg.LOOP_TEST_CTL % 2 ^ 30)) hs rfl (by decide) hctl
      (differs_testShows hwritten) rfl
    refine ⟨_, ht, ?_, ?_, ?_, hch⟩
    · rw [State.get_settle, testShows_state]
    · rw [State.get_settle, testShows_cause]
    · rw [State.is_settle, testShows_go]
  · intro hrun
    rw [if_neg hrun] at hctl
    obtain ⟨ht, hch⟩ := changes_hostCmd_priv (dt := dt) (r := Rw.LOOP_TEST_CTL) (w := 2 ^ 30)
      (eff := fun s => s.testCtl (2 ^ 30 + s.rd Reg.LOOP_TEST_CTL % 2 ^ 30)) hs rfl (by decide) hctl hwritten rfl
    refine ⟨_, ht, ?_, hch⟩
    rw [State.rd_settle, testWritten_status]
    exact State.rd_elapse s dt _

theorem testsNeedThePermit : Parts.TestsNeedThePermit := by
  intro dt w s hs
  obtain ⟨hrunning, hidle⟩ := testStop_abortsARunningTest (dt := dt) hs
  refine ⟨fun hv => ?_, fun hrun => ?_, hidle⟩
  · obtain ⟨hstart, hrefuse⟩ := testGo_startsOrIsRefused (dt := dt) hs hv
    refine ⟨fun hp => ?_, fun hp => ?_⟩
    · obtain ⟨t, ht, hstate, hcause, hsamples, hgo, hloop, hch⟩ := hstart hp
      have hgen : t.loop.gen = testGenOf s w.toNat := by rw [hloop]
      refine ⟨t, ht, ⟨hstate, hcause⟩, hsamples, hgo, ?_⟩
      rw [hgen]
      exact ⟨rfl, rfl, rfl, rfl, rfl, rfl, rfl, hloop, hch⟩
    · obtain ⟨t, ht, hstate, hcause, hgo, hch⟩ := hrefuse hp
      exact ⟨t, ht, ⟨hstate, hcause⟩, hgo, hch⟩
  · obtain ⟨t, ht, hstate, hcause, hgo, hch⟩ := hrunning hrun
    exact ⟨t, ht, ⟨hstate, hcause⟩, hgo, hch⟩

/-! ### Captures (R196, R197) -/

/-- The fields that a write of LOOP_CAP_CTL may change. -/
def capRegs (b : Nat) : List Fld := [whole (Reg.LOOP_CAP_CTL b), whole (Reg.LOOP_CAP_STATUS b)]

section Capture
variable {b w : Nat} {s t : State} {c : Cap}

theorem ctl_ne_status (b : Nat) : Reg.LOOP_CAP_CTL b ≠ Reg.LOOP_CAP_STATUS b := by
  show 0x80200 + b * 0x20 ≠ 0x8020C + b * 0x20
  omega

theorem cap_of_loop (h : t.loop = s.loop) : t.cap b = s.cap b := by
  unfold State.cap
  rw [h]

theorem setCap_cap_same : (s.setCap b c).cap b = c := by
  by_cases h : b = 0 <;> simp [State.setCap, State.cap, h]

theorem setCap_cap_other (hb : b < 2) : (s.setCap b c).cap (1 - b) = s.cap (1 - b) := by
  have h : b = 0 ∨ b = 1 := by omega
  rcases h with rfl | rfl <;> rfl

theorem setCap_regs : (s.setCap b c).regs = s.regs := by
  unfold State.setCap
  split <;> rfl

theorem differs_setCap {ps : List Part} {fs : List Fld} {u : State} (k : Differs ps fs u s) (hp : .loop ∈ ps) :
    Differs ps fs u (s.setCap b c) := .ite (fun _ => k.loop hp) (fun _ => k.loop hp)

/-- LOOP_CAP_CTL with its settings as written and ARM clear. -/
def capWritten (s : State) (b w : Nat) : State := s.wr (Reg.LOOP_CAP_CTL b) (w &&& 0x007F3FF0)

/-- A buffer that begins: no sample, and its status ARMED. -/
def capBegun (s : State) (b : Nat) : State :=
  (((s.setCap b {}).put (Fl.LOOP_CAP_STATUS_STATE b) 1).put (Fl.LOOP_CAP_STATUS_COUNT b) 0).flag (Fl.LOOP_CAP_STATUS_ABORTED b) false

theorem capCtl_arm (h30 : w.testBit 30 = false) (h31 : w.testBit 31 = true) :
    s.capCtl b w = (capBegun (capWritten s b w) b).flag (Fl.LOOP_CAP_CTL_ARM b) true := by
  simp only [State.capCtl, h30, h31, if_true]
  rfl

theorem capCtl_abort (h30 : w.testBit 30 = true) (h31 : w.testBit 31 = false) :
    s.capCtl b w = ((capWritten s b w).put (Fl.LOOP_CAP_STATUS_STATE b) 0).flag (Fl.LOOP_CAP_CTL_ARM b) false := by
  have hidle : ((capWritten s b w).put (Fl.LOOP_CAP_STATUS_STATE b) 0).get (Fl.LOOP_CAP_STATUS_STATE b) = 0 :=
    State.get_put_same _ _ _ (by simp) (by simp)
  unfold capWritten at *
  simp only [State.capCtl, h30, h31, if_true, hidle]
  rfl

theorem differs_capWritten {ps : List Part} : Differs ps (capRegs b) s (capWritten s b w) := (Differs.refl s).wr (by simp [capRegs])

theorem differs_capBegun {ps : List Part} {u : State} (k : Differs ps (capRegs b) u s) (hp : .loop ∈ ps) :
    Differs ps (capRegs b) u (capBegun s b) :=
  (((differs_setCap k hp).putW (by simp [capRegs]) (by simp) (by simp)).putW (by simp [capRegs])
    (by simp) (by simp)).flagW (by simp [capRegs]) (by simp)
    (by simp)

theorem capBegun_state : (capBegun s b).get (Fl.LOOP_CAP_STATUS_STATE b) = 1 := by
  unfold capBegun State.flag
  rw [State.get_put_disj _ _ _ _ (by simp) (by simp) (by simp)
      (.inr (by simp)),
    State.get_put_disj _ _ _ _ (by simp) (by simp) (by simp)
      (.inr (by simp))]
  exact State.get_put_same _ _ _ (by simp) (by simp)

theorem capBegun_count : (capBegun s b).get (Fl.LOOP_CAP_STATUS_COUNT b) = 0 := by
  unfold capBegun State.flag
  rw [State.get_put_disj _ _ _ _ (by simp) (by simp) (by simp)
      (.inl (by simp))]
  exact State.get_put_same _ _ _ (by simp) (by simp)

theorem capBegun_ctl : (capBegun s b).rd (Reg.LOOP_CAP_CTL b) = s.rd (Reg.LOOP_CAP_CTL b) := by
  unfold capBegun
  rw [State.rd_flag_ne _ _ _ (ctl_ne_status b), State.rd_put_ne _ _ _ (ctl_ne_status b), State.rd_put_ne _ _ _ (ctl_ne_status b)]
  unfold State.rd
  rw [setCap_regs]

theorem capBegun_loop : (capBegun s b).loop = (s.setCap b {}).loop := by
  rw [capBegun, State.flag_loop, State.put_loop, State.put_loop]

/-- ARM is a bit of LOOP_CAP_CTL, so the status keeps its fields. -/
theorem get_flagArm {f : Fld} {on : Bool} (hf : f.addr = Reg.LOOP_CAP_STATUS b) :
    (s.flag (Fl.LOOP_CAP_CTL_ARM b) on).get f = s.get f :=
  State.get_put_ne _ _ _ _ (by rw [hf]; exact (ctl_ne_status b).symm)

/-- The settings lie in the low 23 bits, below what ARM and ABORT write. -/
theorem and_settings_eq {x y : Nat} (h : x % 2 ^ 23 = y % 2 ^ 23) : x &&& 0x007F3FF0 = y &&& 0x007F3FF0 := by
  have hlow (v : Nat) : v &&& 0x007F3FF0 = v % 2 ^ 23 &&& 0x007F3FF0 := by
    rw [← Nat.and_two_pow_sub_one_eq_mod, Nat.and_assoc]
    rfl
  rw [hlow x, hlow y, h]

theorem and_settings_lt (x : Nat) : x &&& 0x007F3FF0 < 2 ^ 31 := Nat.and_lt_two_pow _ (by decide)

theorem capWritten_ctl : (capWritten s b w).rd (Reg.LOOP_CAP_CTL b) = w &&& 0x007F3FF0 :=
  State.rd_wr_same _ (Nat.lt_trans (and_settings_lt w) (by decide))

theorem putBits_bit31 {v : Nat} (h : v < 2 ^ 31) (on : Bool) :
    State.putBits v 31 31 (if on then 1 else 0) = v ||| (if on then 2 ^ 31 else 0) := by
  refine Nat.eq_of_testBit_eq fun j => ?_
  rw [State.testBit_putBits (by decide), Nat.testBit_or]
  by_cases hj : j = 31
  · subst hj
    rw [if_pos (by decide), Nat.testBit_lt_two_pow h]
    cases on <;> decide
  · rw [if_neg (by omega)]
    cases on <;> simp [Nat.testBit_two_pow_of_ne (Ne.symm hj), -Nat.reducePow]

theorem rd_flagArm {on : Bool} (h : s.rd (Reg.LOOP_CAP_CTL b) < 2 ^ 31) :
    (s.flag (Fl.LOOP_CAP_CTL_ARM b) on).rd (Reg.LOOP_CAP_CTL b) = s.rd (Reg.LOOP_CAP_CTL b) ||| (if on then 2 ^ 31 else 0) := by
  unfold State.flag
  rw [State.rd_put _ _ _ _ (by simp) (by simp), if_pos rfl]
  exact putBits_bit31 h on

end Capture

theorem captureArm_beginsEmpty {dt b : Nat} {w : Word} {s : State} (hb : b < 2) (hs : HostTakes (Reg.LOOP_CAP_CTL b) s)
    (hv : Rw.LOOP_CAP_CTL.legalOk w.toNat = true) : ∃ t, exec (.captureArm dt b w) s = .next t ∧
      t.cap b = {} ∧ t.cap (1 - b) = s.cap (1 - b) ∧ t.get (Fl.LOOP_CAP_STATUS_STATE b) = 1 ∧
      t.get (Fl.LOOP_CAP_STATUS_COUNT b) = 0 ∧ t.rd (Reg.LOOP_CAP_CTL b) = (w.toNat &&& 0x007F3FF0) ||| 2 ^ 31 ∧
      Changes dt [.loop] (capRegs b) s t := by
  obtain ⟨h30, h31⟩ := testBit_goWord w.toNat
  have hset : w.toNat % 2 ^ 30 + 2 ^ 31 &&& 0x007F3FF0 = w.toNat &&& 0x007F3FF0 := and_settings_eq (by omega)
  show ∃ t, execCaptureArm dt b w s = _ ∧ _
  unfold execCaptureArm
  rw [Nat.mod_eq_of_lt hb]
  generalize w.toNat % 2 ^ 30 + 2 ^ 31 = x at *
  obtain ⟨ht, hch⟩ := changes_hostCmd (dt := dt) (eff := fun s => s.capCtl b x) (ps := [.loop]) (fs := capRegs b) hs rfl hv
    (capCtl_arm h30 h31) ((differs_capBegun differs_capWritten (by decide)).flagW (by simp [capRegs]) (by simp)
      (by simp)) rfl
  generalize hu : capWritten (s.elapse dt) b x = u at *
  have hctl : (capBegun u b).rd (Reg.LOOP_CAP_CTL b) = w.toNat &&& 0x007F3FF0 := by rw [capBegun_ctl, ← hu, capWritten_ctl, hset]
  have hloop : u.loop = s.loop := by rw [← hu, capWritten, State.wr_loop, State.elapse_loop]
  have hnew : (settle s.pending ((capBegun u b).flag (Fl.LOOP_CAP_CTL_ARM b) true)).loop = (u.setCap b {}).loop := by
    rw [State.settle_loop, State.flag_loop, capBegun_loop]
  refine ⟨_, ht, ?_, ?_, ?_, ?_, ?_, hch⟩
  · rw [cap_of_loop hnew, setCap_cap_same]
  · rw [cap_of_loop hnew, setCap_cap_other hb, cap_of_loop hloop]
  · rw [State.get_settle, get_flagArm rfl, capBegun_state]
  · rw [State.get_settle, get_flagArm rfl, capBegun_count]
  · rw [State.rd_settle, rd_flagArm (by rw [hctl]; exact and_settings_lt _), hctl]
    rfl

theorem captureAbort_returnsToIdle {dt b : Nat} {s : State} (hb : b < 2) (hs : HostTakes (Reg.LOOP_CAP_CTL b) s) :
    ∃ t, exec (.captureAbort dt b) s = .next t ∧ t.get (Fl.LOOP_CAP_STATUS_STATE b) = 0 ∧
      t.rd (Reg.LOOP_CAP_CTL b) = s.rd (Reg.LOOP_CAP_CTL b) &&& 0x007F3FF0 ∧
      t.get (Fl.LOOP_CAP_STATUS_COUNT b) = s.get (Fl.LOOP_CAP_STATUS_COUNT b) ∧ Changes dt [] (capRegs b) s t := by
  obtain ⟨h30, h31⟩ := testBit_stopWord ((s.elapse dt).rd (Reg.LOOP_CAP_CTL b))
  have hset : 2 ^ 30 + (s.elapse dt).rd (Reg.LOOP_CAP_CTL b) % 2 ^ 30 &&& 0x007F3FF0 =
      s.rd (Reg.LOOP_CAP_CTL b) &&& 0x007F3FF0 := by
    rw [State.rd_elapse]
    exact and_settings_eq (by omega)
  show ∃ t, execCaptureAbort dt b s = _ ∧ _
  unfold execCaptureAbort
  rw [Nat.mod_eq_of_lt hb]
  obtain ⟨ht, hch⟩ := changes_hostCmd (dt := dt) (r := Rw.LOOP_CAP_CTL) (w := 2 ^ 30) (ps := []) (fs := capRegs b)
    (eff := fun s => s.capCtl b (2 ^ 30 + s.rd (Reg.LOOP_CAP_CTL b) % 2 ^ 30)) hs rfl (by decide) (capCtl_abort h30 h31)
    ((differs_capWritten.putW (by simp [capRegs]) (by simp) (by simp)).flagW (by simp [capRegs])
      (by simp) (by simp)) rfl
  generalize 2 ^ 30 + (s.elapse dt).rd (Reg.LOOP_CAP_CTL b) % 2 ^ 30 = x at *
  have hctl : ((capWritten (s.elapse dt) b x).put (Fl.LOOP_CAP_STATUS_STATE b) 0).rd (Reg.LOOP_CAP_CTL b) =
      s.rd (Reg.LOOP_CAP_CTL b) &&& 0x007F3FF0 := by
    rw [State.rd_put_ne _ _ _ (ctl_ne_status b), capWritten_ctl, hset]
  refine ⟨_, ht, ?_, ?_, ?_, hch⟩
  · rw [State.get_settle, get_flagArm rfl]
    exact State.get_put_same _ _ _ (by simp) (by simp)
  · rw [State.rd_settle, rd_flagArm (by rw [hctl]; exact and_settings_lt _), hctl]
    exact Nat.or_zero _
  · rw [State.get_settle, get_flagArm rfl, State.get_put_disj _ _ _ _ (by simp) (by simp)
      (by simp) (.inl (by simp)), capWritten]
    unfold State.get
    rw [State.rd_wr_ne _ _ (ctl_ne_status b).symm, State.rd_elapse]

/-! ### Reading a capture (R197) -/

/-- The two read ports are of one unit. -/
theorem hostClosed_rddata {b : Nat} (s : State) (hb : b < 2) :
    s.hostClosed (Reg.LOOP_CAP_RDDATA 0) = s.hostClosed (Reg.LOOP_CAP_RDDATA b) := by
  have hunit : unitOfAddr (Reg.LOOP_CAP_RDDATA b) = unitOfAddr (Reg.LOOP_CAP_RDDATA 0) := by
    have hblock : (0x80214 + b * 0x20) / 0x10000 = 8 := by omega
    exact congrArg unitOfBlock hblock
  unfold State.hostClosed
  rw [hunit]

/-- What a read of RDDATA does. -/
def rddataRead (b : Nat) (s : State) : State :=
  if s.hostClosed (Reg.LOOP_CAP_RDDATA b) then (s.closedAccess (Reg.LOOP_CAP_RDDATA b)).reply 0
  else (s.capRead b).2.reply (s.capRead b).1

theorem exec_captureRddataRead {dt b : Nat} {s : State} (hb : b < 2) :
    exec (.captureRddataRead dt b) s = act dt (rddataRead b) s := by
  have hfun : (fun s : State => if s.hostClosed (Reg.LOOP_CAP_RDDATA 0) then (s.closedAccess (Reg.LOOP_CAP_RDDATA b)).reply 0
      else (s.capRead b).2.reply (s.capRead b).1) = rddataRead b :=
    funext fun s => by rw [hostClosed_rddata s hb, rddataRead]
  show execCaptureRddataRead dt b s = _
  unfold execCaptureRddataRead
  rw [Nat.mod_eq_of_lt hb, hfun]

theorem reply_miso (s : State) (v : Nat) : (s.reply v).hif.miso = portBytes v := rfl

theorem reply_is (s : State) (v : Nat) (f : Fld) : (s.reply v).is f = s.is f := rfl

theorem differs_reply {ps : List Part} {fs : List Fld} {s t : State} {v : Nat} (k : Differs ps fs s t) (hp : .hif ∈ ps) :
    Differs ps fs s (t.reply v) := k.hif hp

theorem rddataRead_of_done {b : Nat} {s : State} (hc : s.hostClosed (Reg.LOOP_CAP_RDDATA b) = false)
    (hdone : s.get (Fl.LOOP_CAP_STATUS_STATE b) = 3) :
    let p := s.get ⟨Reg.LOOP_CAP_RDPTR b, 12, 0⟩
    let x := (s.cap b).buf.getD (p / 2) (0, 0)
    rddataRead b s = (s.wr (Reg.LOOP_CAP_RDPTR b) ((p + 1) % 8192)).reply (uInt (if p % 2 = 0 then x.1 else x.2)) := by
  unfold rddataRead State.capRead
  rw [hc, if_pos hdone]
  rfl

theorem rddataRead_of_not_done {b : Nat} {s : State} (hc : s.hostClosed (Reg.LOOP_CAP_RDDATA b) = false)
    (hdone : s.get (Fl.LOOP_CAP_STATUS_STATE b) ≠ 3) : rddataRead b s = s.reply 0 := by
  unfold rddataRead State.capRead
  rw [hc, if_neg hdone]
  rfl

theorem rddataRead_of_closed {b : Nat} {s : State} (hc : s.hostClosed (Reg.LOOP_CAP_RDDATA b) = true) :
    rddataRead b s = (s.closedAccess (Reg.LOOP_CAP_RDDATA b)).reply 0 := if_pos hc

theorem capturesAreArmedAndRead : Parts.CapturesAreArmedAndRead := by
  intro dt b w s hb
  refine ⟨fun hs hv => captureArm_beginsEmpty hb hs hv, fun hs => captureAbort_returnsToIdle hb hs, ?_, ?_, ?_⟩ <;>
    rw [exec_captureRddataRead hb]
  · rintro ⟨halive, hc⟩ hdone
    have heq := rddataRead_of_done (s := s.elapse dt) (by simpa using hc) (by simpa using hdone)
    dsimp only at heq
    rw [State.get_elapse, cap_of_loop (State.elapse_loop s dt)] at heq
    obtain ⟨ht, hch⟩ := changes_act_to (ps := [.hif]) (fs := [whole (Reg.LOOP_CAP_RDPTR b)]) halive heq
      (differs_reply ((Differs.refl _).wr (by simp)) (by decide))
    refine ⟨_, ht, ?_, ?_, hch⟩
    · rw [State.settle_hif, reply_miso]
    · rw [State.rd_settle]
      exact State.rd_wr_same _ (by omega)
  · rintro ⟨halive, hc⟩ hdone
    obtain ⟨ht, hch⟩ := changes_act_to (ps := [.hif]) (fs := []) halive
      (rddataRead_of_not_done (s := s.elapse dt) (by simpa using hc) (by simpa using hdone))
      (differs_reply (Differs.refl _) (by decide))
    exact ⟨_, ht, by rw [State.settle_hif, reply_miso], hch⟩
  · intro halive hc
    obtain ⟨ht, hch⟩ := changes_act_to (ps := [.hif]) (fs := [Fl.HIF_STATUS_CLOSED_UNIT, whole Reg.HIF_LAST_ERR]) halive
      (rddataRead_of_closed (s := s.elapse dt) (by simpa using hc))
      (differs_reply (((Differs.refl _).flag (by decide) (by decide) (by decide)).lastErr (by decide)) (by decide))
    refine ⟨_, ht, by rw [State.settle_hif, reply_miso], ?_, hch⟩
    rw [State.is_settle, reply_is, State.closedAccess, is_lastErr (by decide)]
    exact State.is_flag_same _ _ _ rfl (by decide)

/-- Settles O53: each of the host's writes comes to its effect, whose fields and buffers are read off one by one; the record of
JOY_STALE is the last of its source, since only the recorder's own LOG_FULL can follow it. -/
theorem fusionAndLoopTakeTheHostsWord : Obligations.FusionAndLoopTakeTheHostsWord :=
  ⟨decisionsWaitForTheObserverMark, theHostSteersTheLaw, testsNeedThePermit, capturesAreArmedAndRead⟩

end Sys2Proof.Proofs.HostWord
end
